-- ==== Sys2Proof/Word.lean ====
section
/-!
DEFINITION. The word types of the spec: bytes, 32-bit register words and 64-bit values (R4, R5, R23).
-/
namespace Sys2Proof

/-- One byte of memory, of a packet or of a frame. -/
abbrev Byte := BitVec 8
/-- One BAR0 register (R23). -/
abbrev Word := BitVec 32

end Sys2Proof
end

