-- ==== Sys2Proof/Syntax.lean ====
section
/-!
DEFINITION. The commands the block takes: one constructor of `Instr` for every row of spec/opcode_table.json, with its
operands. A row gives no bits, so operands follow the rule the row names: unit numbers are bounded indexes, a packet or
a frame is its byte string, and a value measured outside the module (a sample, an arrival, a verification result) is an
operand of the event that brings it (log entry 4).
-/
namespace Sys2Proof

/-- Where a register write or a command comes from (GLOBAL_WERR.SOURCE, R426, with the VF number). -/
inductive Source where
  | pf0 | vf (n : Nat) | mgmt | stage | steward | ssp
  deriving DecidableEq, Repr, Inhabited

/-- The transport and issuer of a command packet (R412, R417, R419, R323). -/
inductive CmdSource where
  | pair (p : Nat)              -- PCIe ring pair p
  | port (ip udp : Nat)         -- management port, source address and UDP port
  | ssp                         -- serial slave port
  | fabric (module : Nat)       -- a steward of another module
  deriving DecidableEq, Repr, Inhabited

/-- A command packet that passed the header checks of Table 16.2. `issuer` is the issuing function as Q_CFG.OWNER
encodes it (0 PF0, 1 to 15 VF, 0x10 management port, 0x20 steward or serial slave port); `fetch` is the grain stamp of its fetch. DESIGN CHOICE, log entry 4. -/
structure CmdCtx where
  src : CmdSource
  issuer : Nat
  opcode : Nat
  flags : Nat
  tag : Nat
  fetch : Nat
  payload : List Byte
  deriving DecidableEq, Repr, Inhabited

/-- A host access to a BAR: offset, length in bytes, data of a write (little-endian), and who makes it. DESIGN CHOICE, log entry 4. -/
structure BusWrite where
  offset : Nat
  len : Nat
  value : Nat
  src : Source
  deriving DecidableEq, Repr, Inhabited

/-- What an image's kernels left for one allocation and no rule places: the Cave address of the data they made, and the outer
passes they ran (R72, R192). DESIGN CHOICE, log entry 4. -/
structure AllocOut where
  addr : Nat
  passes : Nat
  deriving DecidableEq, Repr, Inhabited

/-- A received Ethernet frame: its bytes from the destination address on, without FCS and with any MACsec tag removed;
its length on the wire with FCS; whether its FCS and FEC are good; its association, packet number and integrity outcome
when it was protected; and the ns at which its first byte passed the timestamp point. DESIGN CHOICE, log entry 4. -/
structure RxFrame where
  bytes : List Byte
  len : Nat
  fcsOk : Bool
  sec : Option (Nat × Nat × Bool)
  ns : Nat
  deriving DecidableEq, Repr, Inhabited

/-- A received fabric frame: its 32-byte header and payload in the clear, the key and salt under which its AES-256-GCM tag
verifies for its header and LSEQ (R310; none of a link's keys for a tag that does not), and the ns of its arrival. DESIGN CHOICE, log entry 4. -/
structure FabFrame where
  bytes : List Byte
  sealedBy : List Byte
  ns : Nat
  deriving DecidableEq, Repr, Inhabited

/-- What a TOPO frame reports (R314): serial, number, the number kept from its last membership, UP links as (link, peer
serial, peer link), time quality as a rank, and the epoch count at which the coordinator last saw it. DESIGN CHOICE, log entry 52. -/
structure TopoReport where
  serial : Nat
  number : Option Nat
  stored : Option Nat := none
  links : List (Nat × Nat × Nat)
  quality : Nat
  seen : Nat := 0
  deriving DecidableEq, Repr, Inhabited

/-- What a ROUTE_LOAD brings a module: (destination, route-table entry), (link, window, timetable entry), the links whose
hop is DOWN, the number of the fabric time source, and the module's own number from the next epoch on. DESIGN CHOICE, log entry 52. -/
structure RouteRows where
  routes : List (Nat × Nat)
  windows : List (Nat × Nat × Nat)
  down : List Nat := []
  timeSrc : Option Nat := none
  number : Option (Option Nat) := none
  deriving DecidableEq, Repr, Inhabited

/-- Who runs a DMA transfer: a hub channel's set or queue work, the HUB_DMA job of the curd at an address, or a tile
channel. -/
inductive DmaUnit where
  | hub (chan : Fin 64)
  | job (curd : Nat)
  | tile (t : Fin 64) (n : Fin 4)
  deriving DecidableEq, Repr

/-- A UDP datagram that reached the management port: addresses and ports, whether its frame was tagged or it was
fragmented, and its UDP payload. DESIGN CHOICE, log entry 4. -/
structure Datagram where
  srcIp : Nat
  srcPort : Nat
  dstIp : Nat
  dstPort : Nat
  tagged : Bool
  frag : Bool
  payload : List Byte
  deriving DecidableEq, Repr, Inhabited

/-- One sensor's value as the hub measures it (Table 16.5). DESIGN CHOICE, log entry 4. -/
structure Sample where
  sensor : Fin 64
  value : Int
  deriving DecidableEq, Repr

/-- The IEEE 1149.1 instructions that R505 names. -/
inductive JtagInstr where
  | bypass | idcode | sample | extest | privateScan | privateMemory
  deriving DecidableEq, Repr

/-- An error the scrub walk finds in a word that was intact: MEM of Table 18.4, the word's index in it, and whether it is
uncorrectable. -/
structure FoundErr where
  mem : Nat
  word : Nat
  ue : Bool
  deriving DecidableEq, Repr, Inhabited


/-- The commands: one constructor per row of the operation table, in its order. DESIGN CHOICE, log entry 4. -/
inductive Instr where
  /-- REGISTER_WRITE (R7): A write to a BAR0 or BAR2 register field that has no row of its own acts according to its access class, or is discarded and recorded in GLOBAL_WERR. -/
  | registerWrite (w : BusWrite) (bar2 : Bool)
  /-- BAR4_READ (R26): A host read through BAR4 reaches Cave address BASE × 2^32 plus the offset, subject to the observation matrix. -/
  | bar4Read (offset len : Nat)
  /-- BAR4_WRITE (R506): A host write through BAR4 writes Cave bytes and discards those that fall in IMAGE or SYSTEM blocks. -/
  | bar4Write (offset : Nat) (data : List Byte)
  /-- GRAIN_TICK (R385): The time unit generates a grain tick at the first time-clock edge at or after the nominal grain start, and delivers it to every die. -/
  | grainTick (missed : BitVec 4)
  /-- SENTINEL_FIRE (R56): At grain 968 of the promised beat, the sentinel either disarms or cancels the order's remaining work and writes its failure result. -/
  | sentinelFire (sentinel : Fin 16384) (outs : List AllocOut)
  /-- BEAT_END_TRAP (R54): At grain 1,000, every curd and engine job still running stops with OVERRUN, and dispatch stops. -/
  | beatEndTrap
  /-- COLUMN_CLOSE_OPEN (R42): At grain 1,008, column b+1 closes to newly fetched orders and column b+65 opens. -/
  | columnCloseOpen
  /-- LEDGER_BEAT_CHECK (R111): At grain 1,012, the ledger recomputes every conserved-quantity invariant and every open calendar column. -/
  | ledgerBeatCheck
  /-- SHADOW_LATCH (R33): At grain 1,023, RWS writes accepted up to grain 1,022 are latched, and RWE writes as well before an epoch boundary. -/
  | shadowLatch
  /-- BEAT_TICK (R33): At the beat tick, latched values take effect and dispatch resumes with the curds placed in the new beat. -/
  | beatTick
  /-- EPOCH_BOUNDARY (R28): At an epoch boundary, RWE values, route generation, leases, cell moves and number assignments change. -/
  | epochBoundary
  /-- CLOSE_ALL (R510): A write of DBG_CTRL.CLOSE_ALL closes every debug session at the next beat tick. -/
  | closeAll (src : Source)
  /-- RENNET_OPEN (R516): A write of RENNET_CTRL.OPEN opens or closes the calendar to new orders, subject to the start-up conditions. -/
  | rennetOpen (value : Bool) (src : Source)
  /-- RENNET_CLR_STATS (R59): A write of RENNET_CTRL.CLR_STATS clears the rennet counters. -/
  | rennetClrStats (src : Source)
  /-- COLSEL_WRITE (R59): A write to RENNET_COLSEL selects a column and pool and requests a snapshot of its capacity and reservation. -/
  | colselWrite (value : Word) (src : Source)
  /-- COLUMN_SNAPSHOT (R59): Within 4 grains of RENNET_COLSEL being written, RENNET_COLCAP and RENNET_COLRES hold the snapshot and VALID is set. -/
  | columnSnapshot
  /-- SLOT_ORDER (R45): A fetched slot order is checked by the rind, decided by the rennet and answered with a reply. -/
  | slotOrder (c : CmdCtx)
  /-- ORDER_CANCEL (R86): Cancels an admitted order that has not started, returning its reservations and delivering a CANCELLED result. -/
  | orderCancel (c : CmdCtx)
  /-- IMAGE_LOAD (R81): Starts loading a graph image into an empty slot, or refuses the command before any image byte is read. -/
  | imageLoad (c : CmdCtx)
  /-- IMAGE_LOAD_COMPLETE (R80): Once the image has been read, its length, structure and signature are checked, and the slot becomes LOADED or returns to EMPTY. -/
  | imageLoadComplete (slot : Fin 256) (image : List Byte)
  /-- IMAGE_BLOCK (R83): Moves an image slot between LOADED and BLOCKED. -/
  | imageBlock (c : CmdCtx)
  /-- IMAGE_RETIRE (R84): Frees an image slot that is not in use, or refuses the command. -/
  | imageRetire (c : CmdCtx)
  /-- IMAGE_QUERY (R85): Reports an image slot's state, generation, use and identity. -/
  | imageQuery (c : CmdCtx)
  /-- RESULT_DELIVERY (R71): Once every other curd of the order has ended, the delivering task writes the result descriptor and reclaims the order's holdings. -/
  | resultDelivery (sentinel : Fin 16384) (outs : List AllocOut)
  /-- INPUT_CLOSE (R53): At grain 1,016 of the beat before its first consumer, an input closes: its erasure map is written and missing data counts as an erasure. -/
  | inputClose (sentinel : Fin 16384) (port : Fin 16)
  /-- QUEUE_SETTLE (R97): At the end of each grain, the queue manager performs the grain's dequeues and then its enqueues, refusing enqueues to a full queue. -/
  | queueSettle
  /-- QUEUE_START (R98): A write of Q_CTRL.RUN as 1 starts a stopped queue and allocates its ring, or sets START_ERR. -/
  | queueStart (q : Fin 4096) (src : Source)
  /-- QUEUE_STOP (R99): A write of Q_CTRL.RUN as 0 puts a RUNNING queue into STOPPING. -/
  | queueStop (q : Fin 4096) (src : Source)
  /-- QUEUE_STOP_COMPLETE (R99): When Q_HELD reaches 0, a STOPPING queue discards its descriptors, returns its blocks and becomes STOPPED. -/
  | queueStopComplete (q : Fin 4096)
  /-- QUEUE_CLR_DROPS (R100): A write of Q_CTRL.CLR_DROPS clears Q_DROPS. -/
  | queueClrDrops (q : Fin 4096) (src : Source)
  /-- QUEUE_HEAD_WRITE (R95): A write of Q_HEAD by the consuming function moves the head within the occupancy, or is discarded. -/
  | queueHeadWrite (q : Fin 4096) (value : Word) (src : Source)
  /-- QUEUE_TAIL_WRITE (R95): A write of Q_TAIL by the producing function moves the tail within the free slots, or is discarded. -/
  | queueTailWrite (q : Fin 4096) (value : Word) (src : Source)
  /-- DOORBELL_WRITE (R414): A BAR2 doorbell write moves the tail or head of the queue, depending on the queue type, or is discarded. -/
  | doorbellWrite (w : BusWrite)
  /-- FLOW_SETUP (R106): Takes soft-buffer blocks for a free flow, writes its map and makes the flow PENDING. -/
  | flowSetup (c : CmdCtx)
  /-- FLOW_RELEASE (R106): Returns a flow's blocks and frees the flow. -/
  | flowRelease (c : CmdCtx)
  /-- FLOW_QUERY (R106): Replies with a flow's 64-byte table entry. -/
  | flowQuery (c : CmdCtx)
  /-- LEDGER_SEL_WRITE (R115): A write of LEDGER_SEL selects an instance and requests a snapshot at the next grain 1,012, or is discarded. -/
  | ledgerSelWrite (value : Word) (src : Source)
  /-- HEAP_RELEASE (R118): In grains 1,008 to 1,023, each station releases the next beat's curds from its delay heap into ready lists, jobs or failure. -/
  | heapRelease (station : Fin 5)
  /-- DISPATCH_SELECT (R120): In each working grain, each station hands the ready curds with the smallest selection keys to its free executors. -/
  | dispatchSelect
  /-- HUB_JOB_OVERRUN (R126): A hub job still running or GATED at the tick that ends its placed beat is stopped and ends with OVERRUN. -/
  | hubJobOverrun
  /-- COMPLETION_PROCESS (R130): In the grain after a curd ends, the station writes its status, decrements successors' DEP, applies floor or skip, returns its token and frees its entry. -/
  | completionProcess (station : Fin 5)
  /-- PRESTAGE (R133): A die station copies an eligible curd's input extents from the Cave into a tile staging buffer. -/
  | prestage (die : Fin 4) (curd : Nat)
  /-- DISP_CLR_STATS (R141): A write of DISP_CTRL.CLR_STATS clears the station's counters. -/
  | dispClrStats (station : Fin 5) (src : Source)
  /-- BUNDLE_ISSUE (R160): A core issues one bundle, which executes and commits in order or raises a precise exception. -/
  | bundleIssue (core : Fin 256) (cycle : Nat) (err : Fin 4) (younger : Fin 3)
  /-- GIVE_END (R128): When GIVE's wait completes, the curd ends with the reported status. -/
  | giveEnd (core : Fin 256)
  /-- FENCE_COMPLETE (R158): The condition a fence waits for is met, and issue resumes. -/
  | fenceComplete (core : Fin 256)
  /-- STORE_PERFORMED (R147): The hub acknowledges a Cave store after invalidating other caches, and the store becomes visible to every reader. -/
  | storePerformed (core : Fin 256)
  /-- CST_REFUSED (R150): The hub's refusal of a CST to an IMAGE or SYSTEM block arrives after commit and records WPROT. -/
  | cstRefused (core : Fin 256)
  /-- CMU_OP_COMPLETE (R172): A committed CMU operation completes and writes its result, with late errors becoming known. -/
  | cmuOpComplete (core : Fin 256) (rom : Fin 3)
  /-- BUDGET_TRAP (R163): At the first core cycle of grain s + b, the curd stops with OVERRUN. -/
  | budgetTrap (exec : Fin 481)
  /-- CURD_STOP_END (R164): The stop procedure completes, having flushed stores, drained the CMU and stopped tile DMA, and the curd ends. -/
  | curdStopEnd (core : Fin 256)
  /-- CORE_CLR (R174): A write of CORE_CLR clears the core's counters. -/
  | coreClr (core : Fin 256) (src : Source)
  /-- GEMM (R205): The BMU command computes a matrix product into DST, repeated over the batch. -/
  | gemm (tile : Fin 64)
  /-- GRAM (R205): The BMU command computes A^H A in binary32. -/
  | gram (tile : Fin 64)
  /-- SOLVE (R205): The BMU command solves a regularised Hermitian system by Cholesky factorisation and substitution. -/
  | solve (tile : Fin 64)
  /-- DEMAP (R189): The BMU command computes max-log LLRs for K symbols. -/
  | demap (tile : Fin 64)
  /-- END (R203): The BMU command ends the job DONE once its writes are visible. -/
  | bmuEnd (tile : Fin 64)
  /-- BMU_CLR (R207): A write of BMU_CLR clears the BMU counters. -/
  | bmuClr (tile : Fin 64) (src : Source)
  /-- CODE_BLOCK_DONE (R215): An engine finishes a code block and writes its output, soft-buffer region and status word. -/
  | codeBlockDone (eng : Fin 64)
  /-- ENGINE_JOB_END (R227): A coding engine job ends, writing its TB word, updating soft-buffer state and reporting to its station. -/
  | engineJobEnd (eng : Fin 64)
  /-- ENGINE_FAULT (R227): An internal engine fault ends the job with FAILED_ON_TIME and raises ENGINE_FAULT. -/
  | engineFault (unit : Fin 69)
  /-- ENGINE_SELF_RESET (R227): A faulted engine completes its self-reset and becomes free. -/
  | engineSelfReset (unit : Fin 69)
  /-- ENGINE_FENCE (R228): A write of ENG_FENCE fences or unfences engines after a calendar check. -/
  | engineFence (die : Fin 4) (value : Word) (src : Source)
  /-- ENG_CLR (R229): A write of ENG_CLR clears the engine counters. -/
  | engClr (eng : Fin 64) (src : Source)
  /-- EGRESS_FRAME_SEND (R297): An egress job sends its next C-plane or U-plane frame once its window opens, or marks it missed or held. -/
  | egressFrameSend (port : Fin 16)
  /-- EGRESS_JOB_END (R297): An FH_EGRESS job ends and writes its status block. -/
  | egressJobEnd (port : Fin 16)
  /-- HOST_FRAME_SEND (R298): A frame from FH_OUTQ is sent when it cannot delay a job frame. -/
  | hostFrameSend (port : Fin 16) (host : List Byte)
  /-- PRACH_JOB_END (R258): A PRACH engine finishes detection and writes the occasion's result data. -/
  | prachJobEnd (engine : Fin 4)
  /-- PRACH_FENCE (R262): A write of PX_FENCE fences or unfences PRACH engines after a calendar check. -/
  | prachFence (value : Word) (src : Source)
  /-- PX_CLR (R277): A write of PX_CLR clears a PRACH engine's counters. -/
  | pxClr (engine : Fin 4) (src : Source)
  /-- SP_CLR_STATS (R277): A write of SP_CTRL.CLR_STATS clears every counter of the SENSE and PRACH block. -/
  | spClrStats (src : Source)
  /-- SENSE_BLOCK (R266): At each 0.8 µs block end, the stream runs its AGC and detection state machine. -/
  | senseBlock (stream : Fin 32)
  /-- LSIG_DECODED (R269): An L-SIG decode completes; an accepted field sets END and the stream enters RECEIVING. -/
  | lsigDecoded (stream : Fin 32) (soft : List Int) (ltf : Nat)
  /-- SENSE_GAP (R270): A missing sequence number or late samples log GAP, idle the stream and make the affected slots UNKNOWN. -/
  | senseGap (stream : Fin 32) (lo hi : Nat)
  /-- SENSING_SLOT_END (R272): At the end of each 9 µs sensing slot, the slot's BUSY or IDLE state is recorded. -/
  | sensingSlotEnd (stream : Fin 32) (k : Nat)
  /-- LBT_JOB_END (R275): A SENSE job evaluates channel access, writes its verdict and on success opens the gate windows. -/
  | lbtJobEnd
  /-- SE_LOG_HEAD_WRITE (R277): A write of SE_LOG_HEAD moves the consumer index of the sensing log ring. -/
  | seLogHeadWrite (value : Word) (src : Source)
  /-- FH_FRAME_RECEIVE (R291): A received fronthaul frame passes through the ingress checks and is accepted, diverted or dropped into whey. -/
  | fhFrameReceive (port : Fin 16) (f : RxFrame)
  /-- FH_SECTION_WRITTEN (R290): An accepted frame's sections are written into the input grid, and the input may become arrived. -/
  | fhSectionWritten (port : Fin 16)
  /-- FH_ENABLE (R280): A write of FH_CTRL.EN as 1 starts link training and sets STATE to DOWN. -/
  | fhEnable (port : Fin 16) (src : Source)
  /-- FH_DISABLE (R280): A write of FH_CTRL.EN as 0 is checked against the calendar, and the port turns off at the tick that starts beat E. -/
  | fhDisable (port : Fin 16) (src : Source)
  /-- FH_CLR_STATS (R302): A write of FH_CTRL.CLR_STATS clears the port counters. -/
  | fhClrStats (port : Fin 16) (src : Source)
  /-- FH_LINK_UP (R280): The port link comes up: STATE becomes UP, and egress capacity is added on the first link-up. -/
  | fhLinkUp (port : Fin 16)
  /-- FH_LINK_DOWN (R281): A drop of the port link sets STATE to DOWN, raises a WARN event and returns the port's granules. -/
  | fhLinkDown (port : Fin 16)
  /-- SEQ_FRESH_TIMEOUT (R292): After 1 ms without a frame, a stream's sequence state becomes FRESH. -/
  | seqFreshTimeout (port : Fin 16) (stream : Fin 160)
  /-- FH_SAK_WRITE (R299): A write to FH_SEC_SAK installs a word of a MACsec association key. -/
  | fhSakWrite (port : Fin 16) (an : Fin 4) (j : Fin 8) (value : Word) (src : Source)
  /-- FL_ENABLE (R308): A write of FL_CTRL.EN as 1 starts fabric link training. -/
  | flEnable (link : Fin 12) (src : Source)
  /-- FL_DISABLE (R337): A write of FL_CTRL.EN as 0 disables the link if no FAB_TT reservation remains, or sets DIS_REFUSED. -/
  | flDisable (link : Fin 12) (src : Source)
  /-- FL_CLR_STATS (R337): A write of FL_CTRL.CLR_STATS clears the link counters. -/
  | flClrStats (link : Fin 12) (src : Source)
  /-- FL_REKEY (R311): A write of FL_CTRL.REKEY starts a re-key exchange on the link. -/
  | flRekey (link : Fin 12) (src : Source)
  /-- FAB_CLR_STATS (R337): A write of FAB_CTRL.CLR_STATS clears the FAB_CNT counters. -/
  | fabClrStats (src : Source)
  /-- LINK_TRAINED (R344): Fabric lane training completes through CDR lock, equalisation, alignment and deskew, and the link enters HELLO. -/
  | linkTrained (link : Fin 12) (margins : List (List (Nat × Nat))) (lats : List Nat)
  /-- HELLO (R309): A received HELLO frame is checked for certificates and signature, leading to key derivation or quarantine. -/
  | hello (link : Fin 12) (payload : List Byte)
  /-- REKEY_FRAME (R311): A received REKEY frame derives new link keys with an inverted key phase. -/
  | rekeyFrame (link : Fin 12) (f : FabFrame)
  /-- BEACON (R313): A received BEACON records a coordinator candidate from a peer. -/
  | beacon (link : Fin 12) (f : FabFrame) (serial hops : Nat)
  /-- BEACON_TICK (R313): Every 80 beats, the module computes the best coordinator candidate, sends BEACONs and updates IS_COORD. -/
  | beaconTick
  /-- TOPO_REPORT (R314): Once each epoch, and within 80 beats of a link change, the module sends a TOPO frame to the coordinator. -/
  | topoReport
  /-- TOPO (R314): The coordinator receives a module report, or a peer relays one for a module without a number. -/
  | topo (link : Fin 12) (f : FabFrame) (rep : TopoReport)
  /-- ROUTE_COMPUTE (R315): The coordinator recomputes up-down routes in an epoch whose topology changed. -/
  | routeCompute
  /-- ROUTE_LOAD (R318): A module writes the new routes and timetables into the expired bank and acknowledges, or refuses a late load. -/
  | routeLoad (link : Fin 12) (f : FabFrame) (rows : RouteRows)
  /-- ROUTE_COMMIT (R318): A module arms the switch of new frames to the new route generation. -/
  | routeCommit (link : Fin 12) (f : FabFrame)
  /-- DATA (R323): A received DATA frame is written into its bound input chunk, or dropped and counted. -/
  | fabData (link : Fin 12) (f : FabFrame) (flow : Fin 5242880)
  /-- CMD (R331): A fabric CMD frame carries a steward command packet to its destination module. -/
  | fabCmd (link : Fin 12) (f : FabFrame)
  /-- REPLY (R331): A fabric REPLY frame returns a command's reply to its source. -/
  | fabReply (link : Fin 12) (f : FabFrame) (ack : Option (Bool × Nat))
  /-- REMOTE_RUN (R328): The lessor accepts a remote order against a lease, or refuses it in its REMOTE_ACK. -/
  | remoteRun (link : Fin 12) (f : FabFrame)
  /-- REMOTE_ACK (R327): The lessor's acknowledgement ends the lessee's REMOTE job DONE or FAILED_ON_TIME. -/
  | remoteAck (link : Fin 12) (f : FabFrame)
  /-- REMOTE_SENTINEL (R329): At grain 1,000 of beat x+1, the remote order's sentinel sends the OUT bytes, carrying the status in the LAST frame. -/
  | remoteSentinel (sentinel : Fin 16384)
  /-- TIME (R332): A received TIME frame yields link delay and peer offset from its timestamps. -/
  | fabTime (link : Fin 12) (f : FabFrame) (at4 : Nat)
  /-- TIME_FRAME_SEND (R332): Once per beat, each UP link sends a TIME frame with its timestamps and quality. -/
  | timeFrameSend
  /-- FRAME_FORWARD (R316): A transit routed frame is forwarded by the route bank of its generation, or dropped and counted. -/
  | frameForward (link : Fin 12) (f : FabFrame)
  /-- ACK (R307): A received ACK ordered set frees the sender's held frames and their credits. -/
  | ack (link : Fin 12) (lseq : Nat)
  /-- NAK (R307): A received NAK makes the sender resend from the expected LSEQ; the third resend loses the link. -/
  | nak (link : Fin 12) (lseq : Nat)
  /-- ACK_SEND (R307): A receiver sends an ACK after 64 frames or 1 µs. -/
  | ackSend (link : Fin 12)
  /-- CREDIT_RETURN (R306): A credit-return ordered set restores buffer credits to the sender. -/
  | creditReturn (link : Fin 12) (vl : Fin 4) (n : Nat)
  /-- FL_LINK_LOST (R334): A lost fabric link retrains, discards held frames, resets credits and zeroes FAB_TT and any lone lessor's REMOTE pools. -/
  | flLinkLost (link : Fin 12)
  /-- FABRIC_JOB_END (R324): A FABRIC job ends DONE when its LAST DATA frame has left the local link. -/
  | fabricJobEnd (curd : Nat)
  /-- LEASE_REQUEST (R325): Asks a lessor for next-epoch capacity and replies with the lease slot. -/
  | leaseRequest (c : CmdCtx)
  /-- LEASE_GRANT (R325): The lessor grants a forwarded lease request and reserves it in every column of the epoch, or refuses it. -/
  | leaseGrant (c : CmdCtx) (hops slot : Nat)
  /-- LEASE_QUERY (R331): Reports a lease slot. -/
  | leaseQuery (c : CmdCtx)
  /-- FAB_QUERY (R331): Reports fabric number, coordinator, generation and links. -/
  | fabQuery (c : CmdCtx)
  /-- MOVE_IN (R330): Takes blocks for incoming flows of a cell move and makes them PENDING. -/
  | moveIn (c : CmdCtx)
  /-- MOVE_OUT (R330): Arms the move of a flow range to a module that holds a matching MOVE_IN. -/
  | moveOut (c : CmdCtx) (matched : Bool)
  /-- MOVE_COPY (R330): After the boundary, the old module sends each unreferenced flow's soft buffer and releases the flow. -/
  | moveCopy
  /-- TT_REQUEST (R331): Asks the coordinator for scheduled timetable windows. -/
  | ttRequest (c : CmdCtx)
  /-- ROUTE_QUERY (R331): Reports the route-table entries for a destination. -/
  | routeQuery (c : CmdCtx)
  /-- LANE_ALIGN_LOSS (R341): Four invalid code groups within 16 make a fabric lane unaligned. -/
  | laneAlignLoss (lane : Fin 145)
  /-- LANE_ALIGNED (R341): Three K28.5 at the same boundary make a fabric lane aligned. -/
  | laneAligned (lane : Fin 145)
  /-- LANE_POWER_EXIT_DONE (R345): A lane completes its exit from DEEP or OFF and reaches ON. -/
  | lanePowerExitDone (lane : Fin 145)
  /-- MARGIN_TEST_START (R348): A write of LN_MARGIN_CTRL.START starts an eye-margin error count. -/
  | marginTestStart (lane : Fin 145) (value : Word) (src : Source)
  /-- MARGIN_TEST_DONE (R348): The margin dwell ends and sets DONE with ERRORS, or ends with ABORTED. -/
  | marginTestDone (lane : Fin 145) (errors : Nat)
  /-- LANE_CLR_STATS (R349): A write of LN_CTRL.CLR_STATS clears the lane counters. -/
  | laneClrStats (lane : Fin 145) (src : Source)
  /-- DMA_GRAIN (R368): Each grain, the hub assigns channels to sentinel writes, HUB_DMA jobs, register sets and queues. -/
  | dmaGrain
  /-- DMA_ARM (R370): A write of ARM0 or ARM1 arms a hub channel register set. -/
  | dmaArm (chan : Fin 64) (set : Fin 2) (src : Source)
  /-- DMA_ABORT (R375): A write of DMA_CH_CTRL.ABORT aborts the channel's set and queue work with CANCELLED. -/
  | dmaAbort (chan : Fin 64) (src : Source)
  /-- DMA_RESUME (R375): A write of DMA_CH_CTRL.RESUME takes a channel out of HALTED. -/
  | dmaResume (chan : Fin 64) (src : Source)
  /-- DMA_CLR_STATS (R378): A write of DMA_CH_CTRL.CLR_STATS clears the channel counters. -/
  | dmaClrStats (chan : Fin 64) (src : Source)
  /-- DMA_TRANSFER_COMPLETE (R374): Every destination byte of a transfer is written, and its status block is written. -/
  | dmaTransferComplete (unit : DmaUnit) (host : List Byte)
  /-- DMA_TRANSFER_HALT (R375): A transfer that cannot complete stops issuing and ends with a failure status. -/
  | dmaTransferHalt (unit : DmaUnit) (done : Nat) (hostErr : Bool) (host : List Byte)
  /-- DMA_ABORT_COMPLETE (R376): An aborting channel's issued writes complete and its descriptors return. -/
  | dmaAbortComplete (chan : Fin 64) (done : Nat) (host : List Byte)
  /-- TILE_DMA_GO (R372): A core store to GO arms a tile DMA shadow set, or is refused. -/
  | tileDmaGo (core : Fin 256) (chan : Fin 4)
  /-- REGION_COMMAND_GO (R440): A core store to the region port GO issues a command to the die's logic region. -/
  | regionCommandGo (core : Fin 256)
  /-- REGION_COMMAND_END (R441): A region command writes its output and ends. -/
  | regionCommandEnd (tile : Fin 64)
  /-- DRAIN_COMPLETE (R359): A DRAINING proxy port finds no request outstanding and enters OFF. -/
  | drainComplete (domain : Fin 74)
  /-- DRAIN_TIMEOUT (R489): A drain exceeds NOC_DRAIN.TIMEOUT: the port reopens and the power entry is aborted. -/
  | drainTimeout (domain : Fin 74)
  /-- GRID_ENABLE (R386): A write of TIME_CTRL.GRID_EN as 1 arms the grid to start at the next beat start. -/
  | gridEnable (src : Source)
  /-- GRID_DISABLE (R386): A write of TIME_CTRL.GRID_EN as 0 stops the grid after the next beat tick when the calendar is closed and empty. -/
  | gridDisable (src : Source)
  /-- GRID_START (R386): The grid starts at the first beat start after GRID_EN, and GRID_RUN becomes 1. -/
  | gridStart
  /-- TIME_STEP (R380): A write of TIME_CTRL.STEP adds TIME_STEP to TIME_NS while the grid is stopped. -/
  | timeStep (src : Source)
  /-- TIME_CLR_STATS (R405): A write of TIME_CTRL.CLR_STATS clears the time counters. -/
  | timeClrStats (src : Source)
  /-- TIME_NS_LO_READ (R382): A read of TIME_NS_LO latches TIME_NS_HI and TIME_FRAC from the same edge. -/
  | timeNsLoRead (offset len : Nat)
  /-- REFCLK_LOSS (R383): REFCLK_IN absent for 2 µs sets REF_LOSS, raises FATAL, enters holdover and closes the calendar. -/
  | refclkLoss
  /-- REFCLK_RESTORED (R522): REFCLK_IN present for 10 ms clears REF_LOSS. -/
  | refclkRestored
  /-- SOURCE_QUALIFIED (R387): A time source meets its qualification condition. -/
  | sourceQualified (src : Fin 18)
  /-- SOURCE_LOST (R391): Loss of the current time source at once moves the servo to HOLDOVER or FREERUN. -/
  | sourceLost (src : Fin 18)
  /-- SOURCE_SELECT (R390): At each epoch boundary, the steward selects the best qualified time source. -/
  | sourceSelect
  /-- SERVO_UPDATE (R394): Once per beat, the servo writes TIME_INCR within the slew limit. -/
  | servoUpdate (es : List Int)
  /-- HOLDOVER_OUT (R392): HO_SPEC seconds after entering HOLDOVER, the servo moves to HOLDOVER_OUT. -/
  | holdoverOut
  /-- DAC_SAMPLE (R403): At each sample instant, the loop appends its code and the DAC applies the oldest queued code. -/
  | dacSample (dac : Fin 2) (sync : Int)
  /-- DAC_QUEUE_WRITE (R403): A host write of DAC_QUEUE appends a code, or is discarded. -/
  | dacQueueWrite (dac : Fin 2) (value : Word) (src : Source)
  /-- DAC_HO_SET (R406): A write of DAC_HO_SET writes the holdover code within one epoch. -/
  | dacHoSet (dac : Fin 2) (value : Word) (src : Source)
  /-- DAC_RESTART (R404): A write of DAC_CTRL.RESTART clears FAULT once the fault condition has gone. -/
  | dacRestart (dac : Fin 2) (gone : Bool) (src : Source)
  /-- DAC_CLR_STATS (R406): A write of DAC_CTRL.CLR_STATS clears the DAC counters. -/
  | dacClrStats (dac : Fin 2) (src : Source)
  /-- DAC_FAULT (R404): A failed self-check or reference sends the DAC to its holdover code and raises FAULT. -/
  | dacFault (dac : Fin 2)
  /-- HOLDOVER_CODE_WRITE (R399): The steward writes the mean LOCKED steering code to non-volatile memory as the holdover code. -/
  | holdoverCodeWrite
  /-- PTP_MESSAGE_RX (R300): A received PTP event message is timestamped and passed to the time unit. -/
  | ptpMessageRx (port : Fin 16) (ns frac : Nat) (msg : List Byte)
  /-- PTP_MESSAGE_TX (R396): The port sends Announce, Sync or Delay_Req at its profile rate. -/
  | ptpMessageTx (port : Fin 16) (kind : Fin 3)
  /-- ESMC_PDU_TX (R397): Each second, or after a QL change, the port sends an ESMC PDU. -/
  | esmcPduTx (port : Fin 16) (change : Bool)
  /-- ESMC_PDU_RX (R301): A received ESMC PDU is passed to the time unit. -/
  | esmcPduRx (port : Fin 16) (pdu : List Byte)
  /-- PPS_EDGE (R387): An active PPS_IN edge is timestamped for source 17. -/
  | ppsEdge (rise : Bool)
  /-- TOD_SENTENCE (R387): A NMEA sentence on TOD_IN names the second of a pulse. -/
  | todSentence (fast : Bool) (text : List Byte)
  /-- TPO_EDGE (R400): A pulse generator drives an output edge at its nominal time. -/
  | tpoEdge (gen : Fin 8)
  /-- TRIG_EDGE (R401): A selected TRIG_IN edge is timestamped into its FIFO, or counted as overflow. -/
  | trigEdge (input : Fin 4) (rise short : Bool)
  /-- TRIG_POP (R401): A write of TRIG_POP moves the oldest entry into TRIG_TS, or clears VALID. -/
  | trigPop (input : Fin 4) (src : Source)
  /-- CMD_FETCH (R415): The interpreter fetches a command from a ring pair when its reply entries are free, or stalls and retries. -/
  | cmdFetch (ring : List Byte)
  /-- MGMT_DATAGRAM (R417): A UDP datagram on the management port is policed and its packet is checked. -/
  | mgmtDatagram (d : Datagram)
  /-- ARP_REQUEST (R417): The management port answers ARP. -/
  | arpRequest (senderMac senderIp targetIp : Nat)
  /-- ICMP_ECHO (R417): The management port answers ICMP echo. -/
  | icmpEcho (srcMac srcIp dstIp : Nat) (body : List Byte)
  /-- STREAM_WRITE (R444): The SSP transaction delivers bitstream bytes to the loader chain. -/
  | streamWrite (bytes : List Byte)
  /-- STATUS_READ (R449): The SSP transaction returns SSP_STATUS. -/
  | statusRead
  /-- LOAD_SKIP (R451): The SSP transaction ends the configuration-retry window. -/
  | loadSkip
  /-- PACKET_WRITE (R449): The SSP transaction delivers one command packet. -/
  | packetWrite (packet : List Byte)
  /-- REPLY_READ (R449): The SSP transaction returns the oldest waiting reply. -/
  | replyRead
  /-- NOP (R420): Replies with status only. -/
  | nop (c : CmdCtx)
  /-- MODULE_INFO (R420): Reports serial, part, lifecycle, module number and firmware banks. -/
  | moduleInfo (c : CmdCtx)
  /-- REG_READ (R424): Reads up to 256 BAR0 registers. -/
  | regRead (c : CmdCtx)
  /-- REG_WRITE (R424): Writes up to 256 BAR0 registers as PF0 would. -/
  | regWrite (c : CmdCtx)
  /-- REG_STAGE (R423): Loads a batch of register writes into the stage buffer for an epoch boundary. -/
  | regStage (c : CmdCtx)
  /-- STAGE_BATCH_APPLY (R423): In grains 1,008 to 1,022 before the named boundary, the hub performs the staged batches. -/
  | stageBatchApply
  /-- FW_WRITE (R431): Writes firmware data into the inactive bank, which becomes WRITING. -/
  | fwWrite (c : CmdCtx)
  /-- FW_VERIFY (R431): Verifies the inactive bank and moves it to VERIFIED. -/
  | fwVerify (c : CmdCtx)
  /-- FW_ACTIVATE (R431): Arms a restart into the verified bank as TRIAL. -/
  | fwActivate (c : CmdCtx)
  /-- FIRMWARE_SWITCH (R431): One beat after the next epoch boundary, both steward pairs restart into the trial bank. -/
  | firmwareSwitch
  /-- FW_COMMIT (R431): Moves a running TRIAL bank to GOOD. -/
  | fwCommit (c : CmdCtx)
  /-- FW_ROLLBACK (R432): An uncommitted or restarted trial bank is rejected, and the steward restarts into the GOOD bank. -/
  | fwRollback
  /-- STEWARD_RESTART (R427): Restarts the active steward pair. -/
  | stewardRestart (c : CmdCtx)
  /-- STEWARD_FAILOVER (R427): A lockstep mismatch or a missed heartbeat makes the standby pair active. -/
  | stewardFailover (heartbeat selfOk : Bool)
  /-- STEWARD_RESTART_DONE (R427): A steward restart ends in RUN, replaying its journal, or in HALTED. -/
  | stewardRestartDone (ok : Bool)
  /-- POWER_STATE (R484): Sets the target module state, checking any entry against keeper, debug, calendar, fabric and queues. -/
  | powerState (c : CmdCtx)
  /-- CLOCK_STEP (R492): Requests a core clock step for the masked dies. -/
  | clockStep (c : CmdCtx)
  /-- PAD_RELEASE (R493): Releases the latched pads of the named domains. -/
  | padRelease (c : CmdCtx)
  /-- POWER_QUERY (R494): Reports state, domains, pads, steps, feeds and power. -/
  | powerQuery (c : CmdCtx)
  /-- LR_LOAD (R452): Loads a bitstream from host memory into the logic regions. -/
  | lrLoad (c : CmdCtx) (host : List Byte)
  /-- LR_QUERY (R452): Reports a region's state and identity. -/
  | lrQuery (c : CmdCtx)
  /-- TELEMETRY_READ (R433): Returns the latest sensor samples selected by the mask. -/
  | telemetryRead (c : CmdCtx)
  /-- TELEMETRY_SAMPLE (R433): Every 8 beats, the hub samples the sensors and raises threshold events. -/
  | telemetrySample (samples : List Sample)
  /-- EVENT_SUBSCRIBE (R436): Starts or ends an event subscription. -/
  | eventSubscribe (c : CmdCtx)
  /-- EVENT_READ (R435): Returns retained event records from FIRST_SEQ. -/
  | eventRead (c : CmdCtx)
  /-- CMD_PAIR_ENABLE (R412): A write of CMD_PAIR_CFG.EN as 1 binds an ORDER and RESULT queue pair, or is discarded. -/
  | cmdPairEnable (pair : Fin 256) (src : Source)
  /-- CMD_PAIR_DISABLE (R436): Clearing CMD_PAIR_CFG.EN disables the pair and ends its subscription. -/
  | cmdPairDisable (pair : Fin 256) (src : Source)
  /-- CRED_INSTALL (R501): Installs a fabric credential or certificate, fills a key slot, or revokes a slot. -/
  | credInstall (c : CmdCtx)
  /-- MGMT_KEY_INSTALL (R501): Replaces the management key and resets its counter. -/
  | mgmtKeyInstall (c : CmdCtx)
  /-- LIFECYCLE_SET (R499): Starts a permitted lifecycle transition by writing fuses. -/
  | lifecycleSet (c : CmdCtx)
  /-- FUSE_WRITE_DONE (R499): The lifecycle fuse write completes, sessions close, LIFECYCLE is raised and the reply is written. -/
  | fuseWriteDone
  /-- RETURNED_WIPE (R500): After the RETURNED reply is delivered, the keeper destroys its secrets and resets the module. -/
  | returnedWipe
  /-- KEEPER_QUERY (R501): Reports lifecycle, credentials, slots and identity digests. -/
  | keeperQuery (c : CmdCtx)
  /-- SIGNATURE_CHECK_DONE (R497): The keeper completes a signature verification, passing the object or failing it with LOAD_BAD_SIGNATURE. -/
  | signatureCheckDone
  /-- DBG_CHALLENGE (R502): Issues a debug nonce to the transport. -/
  | dbgChallenge (c : CmdCtx)
  /-- DBG_OPEN (R503): Checks a debug token and opens a session as PENDING, or refuses it. -/
  | dbgOpen (c : CmdCtx)
  /-- DEBUG_FILL_DONE (R504): The D2 tile's memories and registers are zero-filled, and the session becomes ACTIVE or is closed. -/
  | debugFillDone (tile : Fin 64)
  /-- DBG_CLOSE (R503): Closes a debug session. -/
  | dbgClose (c : CmdCtx)
  /-- DBG_QUERY (R503): Reports every debug session. -/
  | dbgQuery (c : CmdCtx)
  /-- DBG_READ (R506): Reads a debug space under the observation matrix. -/
  | dbgRead (c : CmdCtx)
  /-- DBG_WRITE (R506): Writes a debug space under the observation matrix. -/
  | dbgWrite (c : CmdCtx)
  /-- JTAG_INSTRUCTION (R505): An IEEE 1149.1 instruction acts as its debug level permits. -/
  | jtagInstruction (code : JtagInstr)
  /-- UART_INPUT (R505): Console input is accepted only in MANUFACTURE and RETURNED. -/
  | uartInput (input : List Byte)
  /-- BITSTREAM_VERIFIED (R445): The keeper's check of a whole bitstream completes, and the named regions start or are cleared. -/
  | bitstreamVerified
  /-- REGION_LOCK_DONE (R447): A starting region's clock loops lock, and its startup steps run to RUN. -/
  | regionLockDone (pos : Fin 5)
  /-- LR_LOCK_TIMEOUT (R447): A region whose loops have not locked in 10 ms is cleared. -/
  | lrLockTimeout (pos : Fin 5)
  /-- STREAM_TRUNCATED (R446): A stream whose source ends early fails with LOAD_TRUNCATED. -/
  | streamTruncated
  /-- RETRY_WINDOW_CLOSE (R451): The configuration-retry window closes, and PCIe answers normally. -/
  | retryWindowClose (limit : Bool)
  /-- LR_SCRUB_FRAME (R454): The scrubber compares one region frame with its golden copy and repairs it. -/
  | lrScrubFrame (votes : Fin 3) (upset regionBad : Bool)
  /-- LR_CLR (R457): A write of LR_CLR clears a region's counters. -/
  | lrClr (pos : Fin 5) (src : Source)
  /-- MERGE_DRAIN (R462): A merge-buffer entry reads, merges and rewrites its code word, or leaves it poisoned. -/
  | mergeDrain (mem word : Nat)
  /-- SCRUB_WALK (R467): Each beat, the brine scrubs its quota of Cave lines and on-die words from margin capacity. -/
  | scrubWalk (fit : Nat) (found : List FoundErr)
  /-- ZERO_FILL (R91): The brine zero-fills returned general-pool blocks from margin capacity so they can be allocated. -/
  | zeroFill (blocks : Nat)
  /-- ERROR_HANDLING_DONE (R475): An uncorrectable error's handling completes and HANDLING clears. -/
  | errorHandlingDone (domain : Fin 5)
  /-- MEMORY_FILL_DONE (R465): The power-on Cave fill completes and ECC_FILL.DONE is set. -/
  | memoryFillDone (fail : Option (Fin 4))
  /-- ECC_FLIP_ARM (R476): A write of ECC_FLIP_CFG.ARM arms error injection into the next matching write, if the keeper permits. -/
  | eccFlipArm (value : Word) (src : Source)
  /-- ECC_CLR_STATS (R477): A write of ECC_CTRL.CLR_STATS clears the ECC counters. -/
  | eccClrStats (src : Source)
  /-- FEED_LOST (R479): A feed out of range for 1 ms raises FEED_LOST. -/
  | feedLost (feed : Fin 2) (mv : Nat)
  /-- FEED_RESTORED (R479): A feed back in range for 100 ms raises FEED_RESTORED. -/
  | feedRestored (feed : Fin 2) (mv : Nat)
  /-- POWER_FAIL (R480): Both feeds below 36 V for 1 ms raise POWER_FAIL and assert SMBALERT_N. -/
  | powerFail (mvA mvB : Nat)
  /-- SUPPLY_COLLAPSE (R480): A joined input below 33 V stops every converter and loses all state. -/
  | supplyCollapse (mv : Nat)
  /-- ENTRY_DRAIN_START (R488): At grain 1,000 of beat E−1, the domains of an accepted entry start draining. -/
  | entryDrainStart
  /-- POWER_REMOVE (R488): At the tick that starts beat E, or at drain completion, power is removed and POWER_ENTERED is raised. -/
  | powerRemove
  /-- POWER_EXIT_DONE (R491): The woken domains finish their power-up, fill and reload, and the reply is written. -/
  | powerExitDone
  /-- POWER_WAKE (R485): A write of POWER_WAKE in M-HOLD leaves M-HOLD toward the target state. -/
  | powerWake (value : Word) (src : Source)
  /-- POWER_CLR_STATS (R495): A write of POWER_CTRL.CLR_STATS clears the POWER_CNT counters. -/
  | powerClrStats (src : Source)
  /-- THERMAL_TRIP (R486): A die junction past its trip temperature isolates that die with cause THERMAL. -/
  | thermalTrip (die : Fin 4) (temp : Int)
  /-- HUB_THERMAL_TRIP (R486): A hub junction past its trip raises a FATAL event and asserts SMBALERT_N. -/
  | hubThermalTrip (temp : Int)
  /-- DIE_ISOLATION (R520): A compute die is held in reset, its pools are zeroed, its holdings are reclaimed and DIE_ISOLATED is raised. -/
  | dieIsolation (die : Fin 4) (cause : Fin 6)
  /-- POWER_ON (R511): A feed in range for 10 ms after total power loss triggers a full start. -/
  | powerOn (mvA mvB : Nat)
  /-- PERST_RELEASE (R511): Release of PERST_N opens the retry window, or triggers an M-OFF start. -/
  | perstRelease
  /-- PERST_ASSERT (R517): Assertion of PERST_N above M-OFF starts a module reset. -/
  | perstAssert
  /-- RAIL_SEQUENCE (R512): Start-up step 2 sequences the domain rails and locks the loops, or fails. -/
  | railSequence (fail : Option (Nat × Nat))
  /-- RAIL_RETRY (R512): One second after a sequencing failure, sequencing is attempted again, up to three attempts. -/
  | railRetry
  /-- BOOT_SELFTEST (R512): The boot ROM self-test and keeper fuse check complete. -/
  | bootSelftest (rom keeper : Bool)
  /-- STEWARD_BANK_START (R514): The boot ROM chooses and verifies a steward bank and runs it, or enters recovery mode. -/
  | stewardBankStart
  /-- DIE_RELEASE (R512): Compute dies self-test, fill and reload, and move to RUN or are isolated. -/
  | dieRelease (fails : Fin 16)
  /-- TIME_GO (R515): A write of GLOBAL_BOOT_CTRL.TIME_GO starts time acquisition and then the grid. -/
  | timeGo (src : Source)
  /-- TIME_WAIT_EXPIRED (R515): With no source after TIME_WAIT epochs, the steward starts the grid free-running. -/
  | timeWaitExpired
  /-- READMIT (R521): A write of GLOBAL_DIE_CTRL.READMIT starts re-admission of an isolated die, or sets REFUSED. -/
  | readmit (dies : Fin 16) (src : Source)
  /-- READMIT_DONE (R521): Re-admission ends with the die in RUN, or isolated again with SELFTEST. -/
  | readmitDone (die : Fin 4) (ok : Bool)
  /-- MODULE_RESET_REQUEST (R523): A write of GLOBAL_RST.MODULE schedules a module reset 1 ms later. -/
  | moduleResetRequest (src : Source)
  /-- MODULE_RESET (R517): Every domain except D_TIME and standby is reset, and start-up runs from step 2. -/
  | moduleReset
  /-- FLR (R519): A function level reset stops the function's queues and pairs and suppresses its TLPs. -/
  | flr (func : Fin 16)
  /-- FLR_COMPLETE (R519): The FLR completes when every queue of the function has Q_HELD 0. -/
  | flrComplete (func : Fin 16)
  /-- PCIE_HOT_RESET (R517): A PCIe hot reset or link down acts as an FLR of every function. -/
  | pcieHotReset
  /-- PAGE (R533): The PMBus command selects feed A or feed B. -/
  | page (feed : Fin 2)
  /-- CLEAR_FAULTS (R533): The PMBus command releases SMBALERT_N until the next fault. -/
  | clearFaults
  /-- STATUS_WORD (R533): The PMBus command returns the feed, temperature and power-fail status bits. -/
  | statusWord
  /-- READ_VIN (R533): The PMBus command returns the selected feed's voltage. -/
  | readVin
  /-- READ_IIN (R533): The PMBus command returns the selected feed's current. -/
  | readIin
  /-- READ_PIN (R533): The PMBus command returns input power. -/
  | readPin
  /-- READ_TEMPERATURE (R533): The PMBus commands return die, HBM and coolant temperatures. -/
  | readTemperature (which : Fin 3)
  /-- MFR_SERIAL (R533): The PMBus command returns the module serial. -/
  | mfrSerial
  /-- CDR_LOCK_LOSS (R344): A lane loses receive clock lock: fabric training restarts from its first phase, any running margin test aborts, and LN_CNT_ALIGN_LOSS increments. -/
  | cdrLockLoss (lane : Fin 145)
  /-- PCIE_MARGINING_COMMAND (R348): A PCIe lane-margining command from the host takes the margin sampler and aborts a test started through LN_MARGIN_CTRL. -/
  | pcieMarginingCommand (lane : Fin 16)
  /-- GOLDEN_FILL_DONE (R450): The power-on fill finishes the golden-copy slots: ECC_FILL.GOLDEN becomes 1 and SSP READY can become 1. -/
  | goldenFillDone
  /-- HBM_SELF_REFRESH_ENTRY (R483): In M-REST, an HBM3E stack enters self-refresh after 1 µs without an access, and its next access then takes up to 2 µs longer. -/
  | hbmSelfRefreshEntry (stack : Fin 4)
  deriving DecidableEq, Repr

end Sys2Proof
end

