-- ==== Sys2Proof/Decode.lean ====
section
/-!
DEFINITION. The command that a word spells by the table's bits. No row of spec/opcode_table.json gives bits: commands reach the
block as register accesses, packets, frames and events, so no word spells one (log entry 1).
-/
namespace Sys2Proof

/-- The command spelt by `nbits` bits of `w`: none. DESIGN CHOICE, log entry 1. -/
def decodeTableWord (_nbits _w : Nat) : Option Instr := none

end Sys2Proof
end

