-- ==== Sys2Proof/Config.lean ====
section
/-!
DEFINITION. The free values: what the spec leaves open is an opaque constant here, so that no proof can use a value of
it. Each is applied to the state's own counter of free values or to the operands it depends on. The tables and decoders
that the spec takes from another document by name (TS 38.212, TS 36.212) without printing them are here too.
-/
namespace Sys2Proof.Config

/-- A value the spec leaves open, as a function of the running count of such values (State.freeCtr). -/
opaque freeValue : Nat → Nat

/-- The first 24 bytes of HMAC-SHA-384 of a message under a key, as a number in network order (R418). -/
opaque hmac384 : List Byte → List Byte → Nat

/-- The parity-check rows of an LDPC base graph (TS 38.212 Tables 5.3.2-2 and 5.3.2-3) for lifting size Zc: for every
row, its (column, shift) entries. The spec names these tables and does not print them. -/
opaque ldpcRows (graph zc : Nat) : List (List (Nat × Nat))

/-- The decibels of a binary32 value that is not positive (R259): the spec states none. -/
opaque dbOfNonPositive (x : Nat) : Int

/-- P16 of a block whose samples are all zero (R264): the spec states none. -/
opaque silentP16 : Int

/-- The 16 samples at 20 MS/s that SE0's front end makes of one block's received samples (R264, steps 1 and 2): by the rate, the
frequency it rotates by and the number of the first sample. The spec gives neither the oscillator's nor the filter's arithmetic. -/
opaque seFront (rate : Nat) (hz : Int) (first : Nat) (raw : List (Int × Int)) : List (Int × Int)

/-- What the personality of LR0 (bitstream `id`, `ver`) returns for one received PRB of a method (R439): 24 components. -/
opaque lrExpand (id ver method param : Nat) (prb : List Byte) : List Int

/-- What it returns for 24 components to be sent: udCompParam and the PRB bytes (R439). -/
opaque lrCompress (id ver method : Nat) (x : List Int) : Nat × List Byte

/-- Byte `i` that a die region's function writes for its source bytes (R440). -/
opaque lrFunction (id ver func : Nat) (src : List Byte) (i : Nat) : Byte

/-- Whether a signature of a message verifies under a key (ECDSA P-384 with SHA-384, R497). -/
opaque sigValid (key msg sig : List Byte) : Bool

/-- What a firmware bank's contents say of their signature: KEY_ID, the bytes it covers, and the signature (R430, R514). The spec gives
the bank no layout. -/
opaque bankSigned (bank : List (Nat × Byte)) : Nat × List Byte × List Byte

/-- Q_CFG of the system queues Q0 to Q255 (R93): which station, port, link or channel each serves, and its depth. The spec gives no list. -/
opaque systemQueueCfg (q : Nat) : Nat

/-- The keys that KEY_ID 1 to 3 name (Table 20.1), which the spec does not print. -/
opaque romKey : Nat → List Byte

/-- SHA-384 of a message, 48 bytes. -/
opaque sha384 : List Byte → List Byte

/-- The ephemeral public key, the nonce and the signature of a HELLO, by the running count of free values (Table 12.5). -/
opaque helloEph : Nat → List Byte
opaque helloNonce : Nat → List Byte

/-- The signature of a message under the identity key of the module of a serial, by the same count (R309, ECDSA P-384). -/
opaque helloSig (ctr serial : Nat) (msg : List Byte) : List Byte

/-- X.509 checks of R309: a certificate chains to a root or credential; the public key and the serial number it carries; the Ivpol
device root that the keeper holds. -/
opaque certChains (root cert : List Byte) : Bool
opaque certKey (cert : List Byte) : List Byte
opaque certSerial (cert : List Byte) : Nat
opaque deviceRoot : List Byte

/-- The ECDH P-384 secret of the owner of one public key with the owner of another, and HKDF-SHA-384 (R310). -/
opaque ecdhP384 (own peer : List Byte) : List Byte
opaque hkdf384 (ikm salt info : List Byte) (n : Nat) : List Byte

/-- The 32 bytes of a debug nonce (R502), by the running count of free values. -/
opaque nonce : Nat → List Byte

/-- Payloads whose layout the spec does not give: BEACON, TOPO, ROUTE_LOAD, and the acknowledgement of a load or commit
(R313, R314, R318). -/
opaque beaconBytes (serial hops : Nat) : List Byte
opaque topoBytes (serial : Nat) (number stored : Option Nat) (links : List (Nat × Nat × Nat)) (quality : Nat) : List Byte
opaque routeBytes (routes : List (Nat × Nat)) (windows : List (Nat × Nat × Nat)) (down : List Nat) (timeSrc number : Option Nat) : List Byte
opaque routeAck (commit : Bool) (status : Nat) : List Byte

/-- The HBM3E stack of a 256-byte granule of the deep tier (R15): a fixed hash that the spec does not print. -/
opaque caveStack (granule : Nat) : Nat

/-- Proportional and integral gain of the servo's loop for a value of BW (R394), scaled by 2^32. -/
opaque servoKp : Nat → Nat
opaque servoKi : Nat → Nat

/-- The version that a firmware bank's contents carry (R431). -/
opaque fwVersion : List (Nat × Byte) → Nat

/-- TOTAL of an on-die network or die-link credit quantity (Table 4.12, QTY 0x03 and 0x04), by QTY and instance: the number of
buffer slots of a router link (R354), which no rule states. -/
opaque creditTotal (qty inst : Nat) : Nat

end Sys2Proof.Config
end

