-- ==== Sys2Proof/Machine/Bits.lean ====
section
/-!
DEFINITION. Bit fields and byte strings: fields of numbers (R5), little-endian and network-order fields of byte strings
(R4), sign extension, and CRC-32C (R408).
-/
namespace Sys2Proof.Machine

/-- Bits [hi:lo] of `v` (R5: both ends included). -/
def bits (v hi lo : Nat) : Nat := v / 2 ^ lo % 2 ^ (hi + 1 - lo)

/-- Bit `i` of `v`. -/
def bitAt (v i : Nat) : Bool := v / 2 ^ i % 2 == 1

/-- `v` with bits [hi:lo] replaced by the low bits of `x`. -/
def putBits (v hi lo x : Nat) : Nat :=
  v - bits v hi lo * 2 ^ lo + x % 2 ^ (hi + 1 - lo) * 2 ^ lo

/-- `v` with bit `i` set or cleared. -/
def putBit (v i : Nat) (b : Bool) : Nat := putBits v i i (if b then 1 else 0)

/-- 1 for true, 0 for false. -/
def b2n (b : Bool) : Nat := if b then 1 else 0

/-- The number of bits of `v` that are 1 among its low `n`. -/
def popCount (v : Nat) : Nat → Nat
  | 0 => 0
  | n + 1 => b2n (bitAt v n) + popCount v n

/-- The low `n` bits of `v` read as two's complement. -/
def sext (n v : Nat) : Int :=
  if v % 2 ^ n < 2 ^ (n - 1) then (v % 2 ^ n : Nat) else (v % 2 ^ n : Nat) - (2 ^ n : Nat)

/-- The two's-complement encoding of `x` in `n` bits. -/
def enc (n : Nat) (x : Int) : Nat := (x % (2 ^ n : Nat)).toNat

/-- `x` held within `lo` to `hi`. -/
def clampI (lo hi x : Int) : Int := if x < lo then lo else if hi < x then hi else x

/-- Division rounded towards plus infinity. -/
def ceilDiv (a b : Nat) : Nat := (a + b - 1) / b

/-- Division of an integer by a positive natural, rounded towards plus infinity. -/
def ceilDivI (a : Int) (b : Nat) : Int := -((-a) / (b : Int))

/-- A byte string as one little-endian number (R4). -/
def leNat : List Byte → Nat
  | [] => 0
  | b :: r => b.toNat + 256 * leNat r

/-- A byte string as one number in network order (R4). -/
def beNat (p : List Byte) : Nat := p.foldl (fun a b => a * 256 + b.toNat) 0

/-- The low `n` bytes of `v`, little-endian. -/
def leBytes : Nat → Nat → List Byte
  | 0, _ => []
  | n + 1, v => BitVec.ofNat 8 v :: leBytes n (v / 256)

/-- The low `n` bytes of `v` in network order. -/
def beBytes (n v : Nat) : List Byte := (leBytes n v).reverse

/-- `n` bytes of `p` from offset `o`. -/
def slice (p : List Byte) (o n : Nat) : List Byte := (p.drop o).take n

/-- The little-endian field of `n` bytes at offset `o`. -/
def fieldAt (p : List Byte) (o n : Nat) : Nat := leNat (slice p o n)
def u8 (p : List Byte) (o : Nat) : Nat := fieldAt p o 1
def u16 (p : List Byte) (o : Nat) : Nat := fieldAt p o 2
def u32 (p : List Byte) (o : Nat) : Nat := fieldAt p o 4
def u64 (p : List Byte) (o : Nat) : Nat := fieldAt p o 8

/-- The network-order field of `n` bytes at offset `o`. -/
def beAt (p : List Byte) (o n : Nat) : Nat := beNat (slice p o n)

/-- `n` zero bytes. -/
def zeros (n : Nat) : List Byte := List.replicate n 0

/-- `p` padded with zero bytes to a multiple of `m`. -/
def padTo (m : Nat) (p : List Byte) : List Byte := p ++ zeros (ceilDiv p.length m * m - p.length)

/-- All bytes of `p` are zero. -/
def allZero (p : List Byte) : Bool := p.all (· == 0)

/-- One bit of the reflected CRC-32C register (R408: polynomial 0x1EDC_6F41 reflected). -/
def crcBit (c : Nat) : Nat :=
  if c % 2 = 1 then Nat.xor (c / 2) 0x82F63B78 else c / 2

/-- One byte into the CRC-32C register. -/
def crcByte (c : Nat) (b : Byte) : Nat :=
  crcBit (crcBit (crcBit (crcBit (crcBit (crcBit (crcBit (crcBit (Nat.xor c b.toNat))))))))

/-- CRC-32C of a byte string: initial value and final XOR 0xFFFF_FFFF (R408). -/
def crc32c (p : List Byte) : Nat := Nat.xor (p.foldl crcByte 0xFFFFFFFF) 0xFFFFFFFF

/-- The indexes below `n` whose bit of `m` is 1, ascending. -/
def maskList (m n : Nat) : List Nat := (List.range n).filter (bitAt m)

/-- The value at index `i` of a list of numbers, 0 beyond its end. -/
def natAt (l : List Nat) (i : Nat) : Nat := l.getD i 0

/-- `l` with index `i` replaced. -/
def setAt {α : Type} (l : List α) (i : Nat) (x : α) : List α := l.set i x

/-- `f` applied to the element at index `i`. -/
def modAt {α : Type} (l : List α) (i : Nat) (f : α → α) : List α :=
  match l, i with
  | [], _ => []
  | x :: r, 0 => f x :: r
  | x :: r, n + 1 => x :: modAt r n f

end Sys2Proof.Machine
end

