-- ==== Sys2Proof/Machine/Sparse.lean ====
section
/-!
DEFINITION. Sparse tables in one canonical form: (key, value) pairs, keys strictly rising, no entry equal to what an
unlisted key reads as. `get` and `set` take that default value; memory, the register file, the flow table and the other
tables of the machine are held this way.
-/
namespace Sys2Proof.Machine

/-- A table of values by key, only the values that differ from the default being listed. -/
abbrev Sparse (V : Type) := List (Nat × V)

/-- The value at key `a`, `d` when `a` is not listed. DEDUCED, log entry 6. -/
def Sparse.get {V : Type} (d : V) : Sparse V → Nat → V
  | [], _ => d
  | (k, v) :: r, a => if k = a then v else Sparse.get d r a

/-- The table without key `a`. -/
def Sparse.erase {V : Type} (m : Sparse V) (a : Nat) : Sparse V := m.filter (fun e => e.1 != a)

/-- The table with an entry for a key that it does not list. -/
def Sparse.insert {V : Type} : Sparse V → Nat → V → Sparse V
  | [], a, v => [(a, v)]
  | (k, w) :: r, a, v => if a < k then (a, v) :: (k, w) :: r else (k, w) :: Sparse.insert r a v

/-- The table with key `a` reading `v`; `d` is the default at `a`, and an entry equal to it is removed. -/
def Sparse.set {V : Type} [DecidableEq V] (d : V) (m : Sparse V) (a : Nat) (v : V) : Sparse V :=
  if v = d then m.erase a else (m.erase a).insert a v

/-- Keys strictly rise from `lo` on, and no entry holds the default `df` gives its key. -/
def Sparse.wfFrom {V : Type} [DecidableEq V] (df : Nat → V) : Nat → Sparse V → Bool
  | _, [] => true
  | lo, (k, v) :: r => decide (lo ≤ k) && decide (v ≠ df k) && Sparse.wfFrom df (k + 1) r

/-- The canonical form of a table whose default at key `k` is `df k`. -/
def Sparse.wf {V : Type} [DecidableEq V] (df : Nat → V) (m : Sparse V) : Bool := Sparse.wfFrom df 0 m

/-- Writes `p` byte by byte from address `a` (unlisted bytes read 0). -/
def writeBytes (m : Sparse Byte) (a : Nat) : List Byte → Sparse Byte
  | [] => m
  | b :: r => writeBytes (Sparse.set 0 m a b) (a + 1) r

/-- Reads `n` bytes from address `a`. DEDUCED, log entry 6. -/
def readBytes (m : Sparse Byte) (a : Nat) : Nat → List Byte
  | 0 => []
  | n + 1 => Sparse.get 0 m a :: readBytes m (a + 1) n

end Sys2Proof.Machine
end

