-- ==== Sys2Proof/Machine/Parts/Access.lean ====
section
/-!
DEFINITION. State of the sensing streams of SE0 and of the listen-before-talk gates (chapter 10).
-/
namespace Sys2Proof.Machine

/-- Blocks seen of one sensing slot: how many lying within it reached ED_THR, and whether the stream was active at a
block end in it (R272). -/
structure SlotAcc where
  slot : Nat
  hot : Nat := 0
  active : Bool := false
  deriving DecidableEq, Repr, Inhabited

/-- A sensing stream (R264 to R272); STATE and GAIN stand in SE_S_STAT. Powers are in 0.5 dB. -/
structure SeStream where
  blk : Nat := 0
  pRef : Int := 0
  pPkt : Int := 0
  prevP : Int := -256
  corr : Int := 0               -- CORR in Hz
  frozen : Bool := false
  search : Option Nat := none   -- blocks since confirmation while the signal field is sought
  start : Nat := 0              -- START in ns
  fin : Option Nat := none      -- END in ns
  rate : Nat := 0
  len : Nat := 0
  sigOk : Bool := false
  raw : List (Int × Int × Int) := []  -- received samples that no block has taken: air time in 1/384 ns, I, Q
  taken : Nat := 0              -- samples and blocks taken since sensing began or resumed
  blocks : Nat := 0
  hist : List (Int × Int) := [] -- the last 64 samples at 20 MS/s
  last : Nat := 0               -- end of the last block, in ns
  acc : List SlotAcc := []
  navs : List (Nat × Nat) := [] -- START to END of accepted signal fields
  gaps : List (Nat × Nat) := [] -- spans that are UNKNOWN
  slots : List (Nat × Nat) := []  -- last 1,024 slots: number, 0 IDLE 1 BUSY 2 UNKNOWN
  deriving DecidableEq, Repr, Inhabited

/-- A gate's window before its last change, and the grain of that change (R273). DEDUCED, log entry 66. -/
structure GateOld where
  air : Nat := 0
  stamp : Option Nat := none    -- absolute grain
  deriving DecidableEq, Repr, Inhabited

end Sys2Proof.Machine
end

