-- ==== Sys2Proof/Machine/Parts/Mgmt.lean ====
section
/-!
DEFINITION. State of the management plane: commands fetched and replies sent, the stage buffer, the steward and its
firmware banks, telemetry and events (chapter 16).
-/
namespace Sys2Proof.Machine

/-- An event record of R435, without the LOST bytes. -/
structure EventRec where
  seq : Nat
  stamp : Nat
  ns : Nat
  code : Nat
  sev : Nat
  unit : Nat
  arg0 : Nat
  arg1 : Nat
  deriving DecidableEq, Repr, Inhabited

/-- An event subscriber (R436). -/
structure Subscriber where
  src : CmdSource
  minSev : Nat
  lost : Nat := 0
  deriving DecidableEq, Repr, Inhabited

/-- A batch in the stage buffer (R423): boundary epoch and beat, the writes, and the command that waits for its reply. -/
structure StageBatch where
  epoch : Nat
  boundary : Nat          -- beat that starts at the boundary
  notBefore : Nat         -- absolute beat of acceptance + 128
  writes : List (Nat × Nat)
  discarded : Nat := 0
  ctx : CmdCtx
  deriving DecidableEq, Repr, Inhabited

/-- A journalled command (R429): taken by the steward, and whether it has taken effect. -/
structure Journal where
  ctx : CmdCtx
  done : Bool
  deriving DecidableEq, Repr, Inhabited

/-- One firmware bank (R431). DESIGN CHOICE, log entry 5. -/
structure FwBank where
  state : Nat := 0        -- 0 EMPTY 1 WRITING 2 VERIFIED 3 TRIAL 4 GOOD 5 REJECTED
  version : Nat := 0
  data : List (Nat × Byte) := []
  deriving DecidableEq, Repr, Inhabited

/-- One sensor's latest sample (R433, R434). -/
structure Sensor where
  valid : Bool := false
  outRec : Bool := false  -- outside the recommended operating conditions
  outAbs : Bool := false  -- outside the absolute ratings
  value : Int := 0
  deriving DecidableEq, Repr, Inhabited

structure MgmtSt where
  fetched : List CmdCtx := []       -- commands past the header checks and not yet executed
  rrNext : Nat := 0                 -- next ring pair in the round robin (R415)
  held : List (Nat × Nat × Nat) := []  -- (pair, tag, entries) held in REPLY_Q (R415)
  ssp : List (List Byte) := []      -- replies waiting for REPLY_READ, oldest first
  portCounter : Nat := 0            -- highest COUNTER accepted (R418)
  nvCounter : Nat := 0              -- the recorded value in non-volatile memory
  portAccepts : Nat := 0            -- packets accepted since the last record
  ownCounter : Nat := 0             -- the module's own trailer counter
  policed : Nat := 0                -- datagrams accepted in this second
  policeSec : Nat := 0
  stage : List StageBatch := []
  journal : List Journal := []
  late : List (CmdCtx × Nat × List Byte) := []  -- replies that wait for the end of a steward restart (R429)
  banks : List FwBank := [{ state := 4 }, {}]
  activate : Option (Nat × Nat) := none  -- FW_ACTIVATE accepted: bank to start, and absolute beat of the switch (R431)
  trialEpochs : Nat := 0            -- epochs since the TRIAL bank started
  standbyOk : Bool := true
  seq : Nat := 0                    -- next event SEQ
  log : List EventRec := []         -- the last 1,024 events, oldest first
  subs : List Subscriber := []
  smbAlert : Bool := false          -- SMBALERT_N asserted
  sensors : List Sensor := List.replicate 64 {}
  sampleStamp : Nat := 0
  deriving DecidableEq, Repr, Inhabited

end Sys2Proof.Machine
end

