-- ==== Sys2Proof/Machine/Parts/Core.lean ====
section
/-!
DEFINITION. State of the Cave, the queues, the flow table, the calendar, the orders, the images and the dispatch
stations (chapters 2 to 5), as plain data, with the values they have at reset.
-/
namespace Sys2Proof.Machine

/-- The owner of a block outside SYSTEM (R89, Table 4.2); a free block has none. -/
inductive Owner where
  | order (handle : Nat)
  | queue (q : Nat)
  | flow (f : Nat)
  | image (slot index : Nat)   -- block `index` of the image in `slot`
  deriving DecidableEq, Repr, Inhabited

/-- The ledger's block terms (Table 4.12, QTY 0x01 and 0x02). -/
structure BlockTerms where
  freeArena : Nat := 13631488
  freeGen : Nat := 11272192
  order : Nat := 0
  queue : Nat := 0
  flow : Nat := 0
  image : Nat := 0
  system : Nat := 262144
  nearFree : Nat := 45056
  nearQueue : Nat := 0
  nearSystem : Nat := 4096
  deriving DecidableEq, Repr, Inhabited

/-- The three terms of a credit invariant (QTY 0x03 to 0x05): AT_SENDER, IN_FLIGHT and IN_BUFFER. -/
structure CreditTerms where
  atSender : Nat
  inFlight : Nat := 0
  inBuffer : Nat := 0
  deriving DecidableEq, Repr, Inhabited

/-- State of the flow-table entry of Table 4.6. -/
structure FlowEntry where
  state : Nat := 0          -- 0 FREE, 1 ACTIVE, 2 PENDING
  owner : Nat := 0
  holder : Nat := 0
  out : Bool := false
  atFlow : Bool := true     -- the ledger's AT_FLOW term (QTY 0x06)
  sbBlocks : Nat := 0
  sbState : Nat := 0        -- 0 EMPTY, 1 VALID, 2 SUSPECT
  sbMap : Nat := 0
  refs : Nat := 0
  last : Nat := 0
  services : Nat := 0
  gateWaits : Nat := 0
  clipped : Nat := 0
  suspects : Nat := 0
  deriving DecidableEq, Repr, Inhabited

/-- Who produced an enqueue that awaits the settlement of R97, and so whose rule applies on a refusal (R96). -/
inductive Producer where
  | station (st records lost : Nat)  -- trace descriptor: records that count, and the number its LOST record carries (R139)
  | errorUnit (domain : Nat)         -- error record stays in its store (R474)
  | fhPort (port len : Nat)          -- a host frame of so many bytes (R291, check 16)
  | whey (port : Nat)                -- a sample of a dropped frame (R294)
  | held                             -- a reply or a result: its entries are held for it (R96, R415)
  | notice (pair : Nat) (e : EventRec)  -- an event to a subscribed ring pair (R436)
  deriving DecidableEq, Repr, Inhabited

/-- An enqueue that reached the queue manager in this grain: one descriptor, or a packet over consecutive entries; the
entries of Q_HELD that it gives up, and the MSI-X message that follows it (function and vector). -/
structure QEnq where
  queue : Nat
  desc : List Byte
  producer : Producer
  held : Nat := 0
  msix : Option (Nat × Nat) := none
  deriving DecidableEq, Repr, Inhabited

/-- A write of Q_HEAD or Q_TAIL, direct or by a doorbell, that reached the queue manager in this grain: where it was made
is kept for GLOBAL_WERR. -/
structure QIndex where
  queue : Nat
  value : Nat
  offset : Nat
  src : Source
  bar : Nat := 0
  deriving DecidableEq, Repr, Inhabited

/-- What awaits the settlement of the grain, in order of arrival (R97). -/
inductive QOp where
  | put (e : QEnq)
  | tail (w : QIndex)
  | head (w : QIndex)
  deriving DecidableEq, Repr, Inhabited

/-- One pool of one calendar column (R35): its admittable capacity and the ledger's FREE and RESERVED terms. -/
structure PoolCell where
  pool : Nat
  index : Nat
  admits : Nat
  free : Nat
  res : Nat
  cap : Nat := 0                 -- the capacity it opened with, less what was withdrawn since
  deriving DecidableEq, Repr, Inhabited

/-- One column of the calendar. -/
structure Column where
  beat : Nat
  margin : Nat := 4              -- the MARGIN it opened with (R36)
  cells : List PoolCell
  deriving DecidableEq, Repr, Inhabited

/-- A REMOTE pool's capacity by epoch: lease slot, epoch and leased amount per beat (R50, R325). -/
structure RemoteCap where
  slot : Nat
  epoch : Nat
  amount : Nat
  deriving DecidableEq, Repr, Inhabited

/-- What columns that open from now on hold (R36, Table 2.6): capacity in service, as masks and per-unit figures. -/
structure CapState where
  fabNext : Option (Nat × List Nat) := none  -- epoch and windows per link while a ROUTE_LOAD is held (R321)
  grants : List (Nat × Nat × Nat × Nat × Nat × Nat) := []  -- leases granted: epoch, pool, die, amount, CAVE, LINK (R325)
  closed : Bool := false              -- an entry into M-HOLD or M-OFF has taken every pool
  tiles : Nat := 0                    -- bit = global tile, its CORE and BMU capacity in service
  dies : Nat := 0                     -- bit = die, its engines and link in service
  engFence : List Nat := [0, 0, 0, 0]  -- per die, bit = engine fenced
  pxFence : Nat := 0
  egress : List Nat := List.replicate 16 0  -- FH_EGRESS capacity per port
  fabTt : List Nat := List.replicate 12 0   -- scheduled windows per link
  remote : List RemoteCap := []
  deriving DecidableEq, Repr, Inhabited

/-- An input of an order (Table 3.4) and what has come of it (R53). -/
structure InputSt where
  port : Nat
  kind : Nat
  ref : Nat
  len : Nat
  ready : Nat                 -- declared grain stamp
  firstBeat : Nat             -- beat of its first consumer, or the promised beat
  arrived : Bool := false
  late : Bool := false
  missing : Bool := false
  closed : Bool := false
  buf : Nat := 0              -- Cave address of the input's data, 0 until it has one
  bound : Option Nat := none  -- FH_UPLANE: slots since frame 0 of the slot it is bound to (R288)
  cov : List (Nat × Nat × Nat) := []  -- FH_UPLANE: (symbol x stream, first PRB, PRBs) written so far
  got : List Nat := []        -- FABRIC: chunk numbers written so far
  deriving DecidableEq, Repr, Inhabited

/-- An allocation entry (Table 3.5) and what has come of it (R538). -/
structure AllocSt where
  flow : Nat
  kind : Nat
  tbs : Nat
  body : List Byte
  out : Option Nat := none      -- Cave address of its decoded transport block (R195)
  crcOk : Bool := false         -- TB_CRC_OK of its TB word (R215)
  iter : Nat := 0               -- largest ITER_MAX over its passes
  cached : Bool := false        -- its block was taken from the retransmission cache (R235)
  deriving DecidableEq, Repr, Inhabited

/-- A placed task of an order. -/
structure TaskSt where
  cls : Nat
  beat : Nat
  die : Nat
  count : Nat
  budget : Nat
  costs : List (Nat × Nat × Nat)   -- (pool, index, units)
  flowGated : Bool
  floorRan : Bool := false
  failed : Bool := false           -- a curd of the task ended with a status other than DONE
  deriving DecidableEq, Repr, Inhabited

/-- What a remote order holds at its lessor (R328, R329): lessee, lease slot, and its OUT bytes. -/
structure RemoteSt where
  lessee : Nat
  slot : Nat
  outTag : Nat
  outAddr : Nat
  outLen : Nat
  cost : Nat                    -- units of the lease it uses, and its share of CAVE, LINK_UP and LINK_DN
  side : List Nat := [0, 0, 0]
  deriving DecidableEq, Repr, Inhabited

/-- An order in flight (R51, R70). -/
structure Order where
  handle : Nat
  func : Nat
  pair : Nat
  slot : Nat
  dl : Bool
  deadline : Nat
  promised : Nat                  -- promised grain stamp
  resultQ : Nat
  msix : Nat
  resultBuf : Nat
  resultLen : Nat
  user : Nat
  tag : Nat
  prio : Nat
  homeDie : Nat
  dieMask : Nat
  params : List Nat
  inputs : List InputSt
  allocs : List AllocSt
  tasks : List TaskSt
  started : Option Nat := none    -- grain stamp at which its first curd or job started
  fault : Bool := false           -- a FAILED_ON_TIME condition of Table 2.8 holds
  failedAllocs : List Nat := []   -- allocations whose producing curd did not end DONE
  ranges : List (Nat × Nat) := []  -- arena address ranges set aside for it: first block, blocks
  remote : Option RemoteSt := none
  txSent : Nat := 0               -- symbols of which an egress job sent a frame, and of which one did not leave in its window
  txLost : Nat := 0
  deriving DecidableEq, Repr, Inhabited

/-- Dispatch states of a curd (Table 5.2). -/
inductive CurdState where
  | held | released | ready | gated | running | ended
  deriving DecidableEq, Repr, Inhabited

/-- A curd: its descriptor (Table 3.11) and its entry in a station's store. -/
structure Curd where
  handle : Nat
  task : Nat
  index : Nat
  cls : Nat
  floor : Bool := false
  skip : Bool := false
  hasFlow : Bool := false
  outOverrun : Bool := false
  outAbsent : Bool := false
  budget : Nat
  quantum : Nat
  beat : Nat
  die : Nat
  dep : Nat
  flow : Nat
  entry : Nat
  entryOff : Nat                  -- ENTRY as an offset in the image's code section
  args : Nat
  succ : Nat
  nSucc : Nat
  prio : Nat
  status : Nat := 0
  endStatus : Nat := 0            -- how it ended, until STATUS is written (R130)
  relFault : Bool := false        -- released with SKIP or with DEP not zero (R118)
  freed : Bool := false           -- its entry in the store is freed
  addr : Nat                      -- Cave address of the descriptor
  rank : Nat                      -- acceptance rank of the order
  func : Nat := 0                 -- the PCIe function that posted the order
  st : CurdState := .held
  exec : Nat := 0x3FF
  startStamp : Nat := 0
  endStamp : Nat := 0
  unstarted : Bool := false       -- ended without having started (NOSTART)
  token : Bool := false           -- holds its flow's token
  staged : Option (Nat × Nat) := none   -- tile and staging buffer
  stagedRead : Bool := false
  arg : List Byte := []           -- a coding engine's descriptor, read at the start grain (R209)
  deriving DecidableEq, Repr, Inhabited

/-- A dispatch station's trace writer (R138, R139). -/
structure TraceSt where
  half : List Byte := []          -- one record waiting for the second half of its descriptor
  halfRecs : Nat := 0             -- 1 when that record counts towards LIMIT (R139)
  halfLost : Nat := 0             -- the number it carries when it is a LOST record
  written : Nat := 0              -- records written in this beat
  lost : Nat := 0                 -- records lost since the last one written
  deriving DecidableEq, Repr, Inhabited

/-- An image slot (Table 3.15). -/
structure ImageSlot where
  state : Nat := 0                -- 0 EMPTY, 1 LOADING, 2 LOADED, 3 BLOCKED
  gen : Nat := 0
  bytes : List Byte := []
  blocks : List Nat := []         -- its IMAGE blocks, in order
  loadLen : Nat := 0
  loadCtx : Option CmdCtx := none -- the IMAGE_LOAD that waits for its reply
  deriving DecidableEq, Repr, Inhabited

/-- A PCIe write of the module to host memory. -/
structure HostWrite where
  addr : Nat
  data : List Byte
  deriving DecidableEq, Repr, Inhabited

/-- A reply or event packet sent by the module. -/
structure Reply where
  src : CmdSource
  bytes : List Byte
  deriving DecidableEq, Repr, Inhabited

end Sys2Proof.Machine
end

