-- ==== Sys2Proof/Machine/Parts/Dsp.lean ====
section
/-!
DEFINITION. State of the DSP cores, the tile DMA channels and the region ports (chapter 6; R372, R440).
-/
namespace Sys2Proof.Machine

/-- A CMU operation in flight (R170 to R172): where its lanes go, its flags, its bundle, whether it is long, the cycles of
its issue and of its result, and whether its bundle did not commit (R171). -/
structure CmuOp where
  toV : Bool                    -- destination is a v-register
  dest : Nat
  first : Nat                   -- first destination lane
  lanes : List Nat
  flags : Nat
  pc : Nat
  long : Bool
  cycle : Nat
  due : Nat
  squashed : Bool := false
  deriving DecidableEq, Repr, Inhabited

/-- A committed Cave store the hub has not yet acknowledged (R147). -/
structure CaveStore where
  addr : Nat
  data : List Byte
  pc : Nat
  curd : Option Nat
  deriving DecidableEq, Repr, Inhabited

/-- What a core waits for before it issues again. -/
inductive CoreWait where
  | none
  | fence (kind : Nat)          -- FUNC of the fence: 3 L, 4 C, 5 D, 6 A
  | give (status : Nat)
  | stop (status : Nat)         -- the procedure of R164, to end with this status
  deriving DecidableEq, Repr, Inhabited

/-- One DSP core (Table 6.1). DESIGN CHOICE, log entry 5. -/
structure Core where
  s : List Nat := List.replicate 32 0
  v : List (List Nat) := List.replicate 32 (List.replicate 32 0)
  p : List Nat := List.replicate 8 0
  c : List (List Nat) := List.replicate 16 (List.replicate 32 0)
  pc : Nat := 0
  cmucsr : Nat := 0             -- NUM_TRAP and FLAGS
  slot : Nat := 0               -- image slot its code is fetched from
  curd : Option Nat := Option.none   -- descriptor address of the curd it holds
  wait : CoreWait := .none
  lbuf : List (Nat × Byte) := []     -- VM and TSM stores not yet visible to others, oldest first (R148)
  csts : List CaveStore := []
  cmu : List CmuOp := []
  longAt : Option Nat := Option.none -- issue cycle of the last long operation
  cyc : Nat := 0                -- cycle of the last issue, counted from the curd's start
  tied : Bool := false          -- the exception of the cycle of its stop is recorded (R162)
  wprot : Bool := false         -- a CST of this curd was refused (R150)
  lateErr : Bool := false       -- CMU_LATE while GIVE waits (R173)
  deriving DecidableEq, Repr, Inhabited

/-- A transfer of a tile channel or region port: its descriptor, the core that wrote GO and that core's curd. -/
structure TileJob where
  desc : List Byte
  core : Nat
  curd : Option Nat
  aborted : Bool := false
  lost : Bool := false          -- a region command that was issued, or ran, while its region was not RUN (R440)
  deriving DecidableEq, Repr, Inhabited

/-- A tile DMA channel, or a tile's region port (R372, R440). -/
structure TileChan where
  shadow : List Nat := List.replicate 16 0
  armed : Option TileJob := none
  active : Option TileJob := none
  refused : Bool := false
  lastStatus : Nat := 0
  done : Nat := 0
  deriving DecidableEq, Repr, Inhabited

/-- A beamforming matrix unit (R203): the curd it runs and the index of its next command. -/
structure Bmu where
  curd : Option Nat := none
  idx : Nat := 0
  deriving DecidableEq, Repr, Inhabited

end Sys2Proof.Machine
end

