-- ==== Sys2Proof/Machine/Parts/Fabric.lean ====
section
/-!
DEFINITION. State of the fabric links, of the module in the fabric, and of the serial lanes (chapters 12 and 13).
-/
namespace Sys2Proof.Machine

/-- A frame that waits on a link for credits or for a window, with the link numbers still open. -/
structure TxFrame where
  kind : Nat
  vl : Nat
  gen : Bool := false
  dph : Bool := false
  last : Bool := false
  dst : Nat
  src : Nat
  ttl : Nat := 0
  ridx : Nat := 0
  stag : Nat := 0
  off : Nat := 0
  status : Nat := 0
  payload : List Byte
  curd : Option Nat := none     -- the FABRIC or REMOTE job it belongs to
  win : Option Nat := none      -- absolute grain in which a forwarded VL0 frame leaves (R320)
  stamp : Option Nat := none    -- STAMP of a forwarded frame: the grain at its source (Table 12.1)
  buf : Option (Nat × Nat × Nat) := none  -- link, VL and credits of the receive buffer that a forwarded frame still fills (R306)
  deriving DecidableEq, Repr, Inhabited

/-- A frame sent and not yet acknowledged (R307). -/
structure HeldFrame where
  lseq : Nat
  vl : Nat
  cost : Nat
  bytes : List Byte
  resent : Nat := 0             -- how often it has been sent again
  deriving DecidableEq, Repr, Inhabited

/-- An ordered set that the module sent (R304): an acknowledgement, a request to resend, a credit return, or the time mark
that precedes a TIME frame (R332). -/
inductive OrdSet where
  | ack (link lseq : Nat)
  | nak (link lseq : Nat)
  | credit (link vl n : Nat)
  | mark (link ns : Nat)
  deriving DecidableEq, Repr, Inhabited

/-- One fabric link. DESIGN CHOICE, log entry 5. -/
structure FlLink where
  txSeq : Nat := 0              -- next LSEQ sent
  rxSeq : Nat := 0              -- next LSEQ expected
  held : List HeldFrame := []
  rxFree : List Nat := [256, 1024, 512, 64]   -- credits granted to the peer and not used
  rxHeld : List Nat := [0, 0, 0, 0]           -- credits of buffers that are free and not yet returned
  unacked : Nat := 0            -- frames accepted since the last ACK
  unackNs : Nat := 0            -- arrival of the oldest of them
  txQ : List TxFrame := []
  txPhase : Bool := false
  rxPhase : Bool := false
  hello : List Byte := []       -- the HELLO or REKEY payload this side sent
  txKey : List Byte := []       -- transmit key and salt of this side (R310)
  rxKey : List Byte := []       -- transmit key and salt of the peer
  nextRx : Option (List Byte) := none    -- the peer's of a re-key, until its first frame under them
  nextTx : Option (List Byte) := none    -- this side's of a re-key, until its REKEY frame has left and KPHASE turns
  rekeying : Bool := false      -- this side's REKEY frame is out
  seqKeyed : Bool := false      -- a re-key has started because LSEQ reached 2^48 (R311)
  peerCert : List Byte := []    -- the peer's identity certificate (R309)
  keyEpochs : Nat := 0          -- epochs since the last keying
  sealedTx : Bool := false      -- the peer has accepted LSEQ 0
  sealedRx : Bool := false
  beacon : Option (Nat × Nat × Nat) := none  -- candidate serial, hops, absolute beat of the last BEACON
  vl1 : Nat := 0                -- VL1 bytes accepted in this beat
  lastRx : Nat := 0             -- ns of the last arrival
  sentAt : Nat := 0             -- when the last TIME frame was sent, in 2^-32 ns
  timeRx : Option Nat := none   -- when the last TIME frame arrived, in 2^-32 ns
  vl0At : Option Nat := none    -- absolute grain of the last VL0 frame started
  freeNs : Nat := 0             -- end of the last frame sent
  deriving DecidableEq, Repr, Inhabited

/-- A lease held as lessee (R325, R326). -/
structure Lease where
  lessor : Nat
  pool : Nat
  die : Nat
  amount : Nat
  cave : Nat
  link : Nat
  epoch : Nat
  deriving DecidableEq, Repr, Inhabited

/-- A lease granted as lessor: the lessee, its slot, and the lease. -/
structure Grant where
  lessee : Nat
  slot : Nat
  lease : Lease
  deriving DecidableEq, Repr, Inhabited

/-- A REMOTE job that has sent its REMOTE_RUN. -/
structure RemoteJob where
  curd : Nat
  lessor : Nat
  acked : Bool := false
  leftNs : Nat := 0             -- when the last of its frames that were sent has left the link
  deriving DecidableEq, Repr, Inhabited

/-- A cell move (R330): peer, boundary epoch, range, whether the boundary has passed, and flows copied so far. -/
structure Move where
  peer : Nat
  epoch : Nat
  first : Nat
  n : Nat
  live : Bool := false
  copied : Nat := 0
  deriving DecidableEq, Repr, Inhabited

/-- A route change that this module, as coordinator, has started (R318). -/
structure RouteChange where
  epoch : Nat                   -- at whose boundary the new generation starts
  gen : Bool
  acked : List Nat              -- modules that have acknowledged
  members : List Nat
  committed : Bool := false
  confirmed : List Nat := []
  deriving DecidableEq, Repr, Inhabited

/-- A request for windows that waits for the next generation (R331). -/
structure TtWish where
  src : Nat
  dst : Nat
  n : Nat
  deriving DecidableEq, Repr, Inhabited

structure FabSt where
  links : Sparse FlLink := []
  disAt : List (Nat × Nat × Bool) := []  -- links whose accepted disable takes effect at a beat, and whether EN is 1 again
  computed : Option Nat := none          -- epoch count of the last route computation (R315)
  stable : Nat := 0
  best : Nat × Nat := (0, 0)    -- candidate serial and hops of the last beacon tick
  nvNum : Option Nat := none    -- the number in non-volatile memory
  pendNum : Option (Option Nat) := none  -- assignment for the next epoch boundary
  dirty : Option Nat := none    -- absolute beat of a link change not yet reported
  reported : Option Nat := none -- epoch count of the last TOPO report
  reports : List TopoReport := []
  changed : Bool := false       -- the coordinator's topology has changed since the last computation
  change : Option RouteChange := none
  wishes : List TtWish := []
  loadEpoch : Option Nat := none     -- a ROUTE_LOAD is held for this epoch
  commitEpoch : Option Nat := none   -- its ROUTE_COMMIT
  expireEpoch : Option Nat := none   -- the old generation expires at the boundary into it
  leases : List (Option Lease) := List.replicate 16 none
  grants : List Grant := []
  jobs : List RemoteJob := []
  moveIn : List Move := []
  moveOut : List Move := []
  sets : List OrdSet := []
  outbox : List (Nat × Nat × List Byte) := []  -- kind, destination, payload of routed frames to be sent
  asked : List (CmdCtx × Nat) := []            -- lease requests forwarded, and the slot kept for each
  down : List (List Nat) := [[], []]           -- links whose hop is DOWN, by route generation
  timeSrc : Option Nat := none                 -- number of the fabric time source (R333)
  deriving DecidableEq, Repr, Inhabited

/-- One serial lane: since when it is unaligned, and the start of a margin test that runs (ns). -/
structure LaneSt where
  lostNs : Option Nat := none
  test : Option Nat := none
  deriving DecidableEq, Repr, Inhabited

end Sys2Proof.Machine
end

