-- ==== Sys2Proof/Machine/Parts/Front.lean ====
section
/-!
DEFINITION. State of the fronthaul port engines and of the logic regions (chapters 11 and 17).
-/
namespace Sys2Proof.Machine

/-- Sequence state of one stream (R292): the last SEQ_ID and the arrival of its frame in ns; FRESH has none. -/
structure FhSeq where
  last : Nat
  ns : Nat
  deriving DecidableEq, Repr, Inhabited

/-- An accepted U-plane frame whose sections are not yet written (R290). -/
structure FhHeld where
  granules : Nat
  handle : Nat                  -- order
  inPort : Nat                  -- the order's input port
  unit : Nat                    -- l × N_AXC + a
  car : Nat                     -- carrier of the stream, 0 to 31
  prach : Bool
  payload : List Byte           -- the sections
  grain : Nat                   -- absolute grain of its last byte
  deriving DecidableEq, Repr, Inhabited

/-- An FH_EGRESS job (R296, R297): its descriptor, the message and PRB it is at, and what it has sent. -/
structure FhEgress where
  curd : Nat
  desc : List Byte
  msg : Nat := 0
  prb : Nat := 0                -- PRBs of the message already sent
  sent : Nat := 0               -- symbols of which a frame left inside its window
  held : Nat := 0
  missed : Nat := 0
  frames : Nat := 0
  bytes : Nat := 0
  unsent : Nat := 0             -- symbols of which a frame was not sent for another reason
  bad : Bool := false           -- a read failed, or the descriptor is invalid
  down : Bool := false          -- the port was not UP at some time while it ran (R281)
  deriving DecidableEq, Repr, Inhabited

/-- One fronthaul port. DESIGN CHOICE, log entry 5. -/
structure FhPort where
  disAt : Option Nat := none    -- absolute beat at which an accepted disable takes effect
  pendEn : Bool := false        -- an enable waits for that tick (R280)
  linked : Bool := false        -- the link has come up since the enable
  seq : Sparse (Option FhSeq) := []   -- stream entries 0 to 127, sensing streams 128 + n
  txSeq : Sparse Nat := []      -- next SEQ_ID by eAxC
  data : Nat := 0               -- DATA bucket, in 1/1,000 bits
  ctrl : Nat := 0               -- CTRL bucket, in 1/1,000 bits
  fillNs : Nat := 0             -- time of the last fill of the buckets
  drops : Nat := 0              -- dropped frames since the last sampled one
  held : List FhHeld := []
  rxPn : List Nat := [0, 0, 0, 0]
  txPn : List Nat := [0, 0, 0, 0]  -- last packet number sent, by association
  txOut : List (Nat × Nat) := []   -- frames being sent: ns of the last byte, transmit granules held
  job : List FhEgress := []
  freeNs : Nat := 0             -- end of the last frame sent, in ns
  deriving DecidableEq, Repr, Inhabited

/-- A frame or fabric frame the module put on a wire: 0 to 15 fronthaul ports, 16 to 27 fabric links, 28 the management
port. `sec` is the association of a protected frame. -/
structure Wire where
  port : Nat
  ns : Nat
  bytes : List Byte
  sec : Option (Nat × Nat) := none
  key : List Byte := []
  deriving DecidableEq, Repr, Inhabited

/-- A logic region (R438 to R447): its frames, and what its last bitstream section declared. -/
structure Region where
  data : List Byte := []        -- its configuration frames
  len : Nat := 0                -- bytes of its golden copy
  startup : Nat := 0
  prbLen : List Nat := []       -- LR0: bytes per PRB of methods 8 to 15
  id : Nat := 0
  ver : Nat := 0
  cap : Nat := 0                -- METHODS or N_FUNC
  rate : Nat := 0
  deriving DecidableEq, Repr, Inhabited

/-- The load in progress (R443 to R452): the bytes that arrived, and how far the loader chain has taken them. -/
structure LrLoad where
  ssp : Bool                    -- over the serial slave port
  bytes : List Byte := []
  hdr : Bool := false           -- the stream header has been checked
  sect : Nat := 0               -- sections taken whole
  off : Nat := 128              -- offset of the next section header
  pos : Option Nat := none      -- position being loaded
  last : Option Nat := none     -- POS of the last section header
  named : List Nat := []        -- positions whose region it has cleared
  verify : Bool := false        -- the keeper's check runs
  ctx : Option CmdCtx := none
  deriving DecidableEq, Repr, Inhabited

structure LrSt where
  regions : List Region := List.replicate 5 {}
  load : Option LrLoad := none
  window : Bool := false        -- the configuration-retry window is open
  closed : Bool := false        -- it has closed
  loadEnded : Bool := false     -- an SSP load has ended
  dropped : Bool := false       -- SSP_STATUS.DROPPED
  pendReply : Option (CmdCtx × Nat × List Nat × Nat × Nat) := none  -- LR_LOAD waiting for its regions: bytes, positions, status, FAIL_POS
  frame : Nat := 0              -- scrubber: region and frame pointers
  region : Nat := 0
  stopped : Bool := false       -- no two control copies agree (R456)
  deriving DecidableEq, Repr, Inhabited

end Sys2Proof.Machine
end

