-- ==== Sys2Proof/Machine/Parts/Power.lean ====
section
/-!
DEFINITION. State of the power controller and of the debug sessions (chapters 19 and 20).
-/
namespace Sys2Proof.Machine

/-- A power entry in progress (R487 to R489): what turns off, when, and the calendar it took capacity from. -/
structure PwEntry where
  target : Nat
  dies : Nat := 0               -- dies turning off
  tiles : Nat := 0              -- tiles turning off
  doms : Nat := 0               -- domain mask turning off
  wakeTiles : Nat := 0          -- tiles and domains the same command turns on (R484)
  wakeDoms : Nat := 0
  atBeat : Nat                  -- absolute beat E
  draining : Bool := false
  drained : List Nat := []      -- domains whose drain is complete: 0 to 63 tiles, 64 + bit of Table 19.1
  cal : List Column := []       -- the calendar and the capacity in service before it
  cap : CapState := {}
  ctx : Option CmdCtx := none   -- none for a write of POWER_WAKE
  deriving DecidableEq, Repr, Inhabited

/-- An exit in progress (R491). -/
structure PwExit where
  target : Nat
  tiles : Nat := 0
  doms : Nat := 0
  ctx : Option CmdCtx := none
  deriving DecidableEq, Repr, Inhabited

/-- A clock step in progress (R492). -/
structure PwStep where
  dies : Nat
  step : Nat
  atBeat : Nat
  ctx : CmdCtx
  deriving DecidableEq, Repr, Inhabited

/-- The power controller and its pins. -/
structure PwSt where
  entry : Option PwEntry := none
  exit : Option PwExit := none
  step : Option PwStep := none
  refresh : Nat := 0            -- HBM3E stacks in self-refresh, bit = stack
  feedMv : List Nat := [0, 0]
  powerFail : Bool := false     -- both feeds are below 36 V (R480)
  page : Nat := 0               -- PAGE of the PMBus interface (R533)
  deriving DecidableEq, Repr, Inhabited

/-- A debug session's start and fill (R503, R504); its other fields stand in the DEBUG registers. -/
structure Sess where
  atBeat : Nat := 0             -- absolute beat at which it starts
  filling : Bool := false       -- the opening fill runs; the tile is withdrawn
  ctx : Option CmdCtx := none
  deriving DecidableEq, Repr, Inhabited

/-- A nonce outstanding on a transport (R502): transport as DBG_SESS_SRC and DBG_SESS_IP give it, and the epoch count of
its issue. -/
structure Nonce where
  src : Nat
  ip : Nat
  bytes : List Byte
  epoch : Nat
  deriving DecidableEq, Repr, Inhabited

/-- What the keeper holds beyond its registers (R496 to R502). DESIGN CHOICE, log entry 3. -/
structure KeeperSt where
  sess : List Sess := List.replicate 4 {}
  fills : List Nat := []        -- tiles of closed D2 sessions whose fill runs (R504)
  nonces : List Nonce := []
  slots : Sparse (List Byte) := []      -- customer public keys
  cred : List Byte := []                -- fabric credential
  credNext : Option (List Byte) := none -- governs HELLO checks from the next epoch boundary
  cert : List Byte := []                -- this module's fabric certificate
  serial : Nat := 0
  identity : List Byte := []            -- identity public key
  idCert : List Byte := []              -- identity certificate
  closeAll : Bool := false              -- CLOSE_ALL written, acts at the next beat tick
  checks : List CmdCtx := []            -- commands whose signature check runs, in order of arrival (R497)
  lifeCtx : Option (CmdCtx × Nat) := none  -- LIFECYCLE_SET whose fuse write runs, and its target
  wipe : Bool := false                  -- RETURNED_WIPE due
  tap : Option JtagInstr := none        -- the IEEE 1149.1 instruction in effect (R505)
  console : List Byte := []             -- UART console input accepted (R505)
  deriving DecidableEq, Repr, Inhabited

/-- Start-up (R511 to R517), on the standby supply. DESIGN CHOICE, log entry 5. -/
structure BootSt where
  started : Bool := false       -- a trigger has been taken since power was last lost
  done : Nat := 0               -- bit n: step n of Table 21.1 has completed
  stopped : Bool := false       -- the start ended in a stop (R512)
  retry : Bool := false         -- sequencing failed and is tried again
  perst : Bool := false         -- PERST_N is released
  resetAt : Option (Nat × Nat) := none  -- a module reset is due: its cause, and TIME_NS from which it acts
  readmit : Nat := 0            -- dies whose re-admission runs
  deriving DecidableEq, Repr, Inhabited

end Sys2Proof.Machine
end

