-- ==== Sys2Proof/Machine/Parts/Time.lean ====
section
/-!
DEFINITION. State of the time unit and the steering DACs (chapter 15).
-/
namespace Sys2Proof.Machine

/-- One time source (R387, R388): whether its qualification condition holds, and the fields of Q(s). -/
structure TimeSource where
  qualified : Bool := false
  cls : Nat := 0
  accuracy : Nat := 0
  variance : Nat := 0
  prio2 : Nat := 0
  steps : Nat := 0
  deriving DecidableEq, Repr, Inhabited

/-- One captured edge (R401): TIME_NS, the upper 16 bits of TIME_FRAC, and whether it rises. -/
structure TrigEntry where
  ns : Nat
  frac : Nat
  rise : Bool
  deriving DecidableEq, Repr, Inhabited

/-- A pulse generator's output (R400): the level before POL, and TIME_NS when EN took effect. -/
structure PulseGen where
  active : Bool := false
  enNs : Nat := 0
  deriving DecidableEq, Repr, Inhabited

/-- A steering DAC (R402 to R404): queued codes, the loop's k with 16 fraction bits, and the holdover code in non-volatile
memory. -/
structure Dac where
  queue : List Nat := []
  k : Int := 0
  hoCode : Option Nat := none
  deriving DecidableEq, Repr, Inhabited

/-- What the steward keeps of one epoch for the holdover code (R399): whether it was LOCKED, the sum and the number of the
codes the loop applied in it. -/
structure EpochCodes where
  locked : Bool
  sum : Nat
  n : Nat
  deriving DecidableEq, Repr, Inhabited

/-- A PTP event or ESMC PDU handed to the time unit or to a port (R300, R301, R396, R397). -/
structure PtpRecord where
  port : Nat
  kind : Nat
  ns : Nat
  frac : Nat
  data : List Byte
  deriving DecidableEq, Repr, Inhabited

structure TimeSt where
  ns : Nat := 0                  -- TIME_NS
  frac : Nat := 0                -- TIME_FRAC
  absGrain : Nat := 0            -- grains from the start of frame 0 (R384) to the grain in progress
  ticked : Option Nat := none    -- the beat whose tick has been taken, and the one whose epoch boundary has
  epochAt : Option Nat := none
  gridArm : Bool := false        -- GRID_EN written 1, grid not yet started (R386)
  gridStop : Bool := false       -- GRID_EN written 0, last beat tick still to come
  stepPending : Option Int := none  -- a STEP write to add at the next edge (R380)
  sources : List TimeSource := List.replicate 18 {}
  acqFrom : Nat := 0             -- state from which ACQUIRING was entered: 3 HOLDOVER, 4 HOLDOVER_OUT, 0 any other
  hoSince : Nat := 0             -- TIME_NS at the entry to HOLDOVER
  lockRun : Nat := 0             -- consecutive epochs with mean |e| at most LOCK_NS
  lastE : Int := 0               -- the last phase error, and those of the epoch so far, in 2^-32 ns
  errSum : Nat := 0              -- sum of |e|
  errSigned : Int := 0           -- sum of e
  errN : Nat := 0
  integ : Int := 0               -- the integrator of the loop of R394
  stepped : Bool := false        -- the one step of R394 has been taken
  go : Option Nat := none        -- TIME_GO accepted: selections run since (R515)
  parentFrames : Nat := 0        -- TIME frames from the fabric parent, and its link
  parentOf : Option Nat := none
  selAt : Option Nat := none     -- epoch in which R390 last ran, and beat in which the servo last wrote TIME_INCR
  servoAt : Option Nat := none
  dacs : List Dac := [{}, {}]
  epochs : List EpochCodes := [] -- the last 1,024 epochs, newest first
  curSum : Nat := 0
  curN : Nat := 0
  epochCount : Nat := 0          -- epoch boundaries since start-up
  hoDue : Option Nat := none     -- R399: a refresh is due, given so many LOCKED epochs
  trig : List (List TrigEntry) := [[], [], [], []]
  tpo : List PulseGen := List.replicate 8 {}
  ptpRx : List PtpRecord := []   -- event messages and ESMC PDUs passed to the time unit
  ptpTx : List PtpRecord := []   -- messages the ports sent
  todSecond : Option Nat := none -- TAI second at the pulse before the last valid TOD_IN sentence
  lastPps : Option Nat := none   -- TIME_NS of the last active PPS_IN edge
  ppsRun : Nat := 0              -- consecutive good pulses
  todOk : Bool := false          -- a valid ToD message since the last pulse
  deriving DecidableEq, Repr, Inhabited

end Sys2Proof.Machine
end

