-- ==== Sys2Proof/Machine/Parts/Units.lean ====
section
/-!
DEFINITION. State of the error stores, the coding engines and the hub DMA channels (chapters 8, 14 and 18).
-/
namespace Sys2Proof.Machine

/-- What the code of a word finds (R458, R459): correctable, uncorrectable, or poison. -/
inductive WordErr where
  | ce | ue | poison
  deriving DecidableEq, Repr, Inhabited

/-- A code word that is not intact. `mem` is MEM of Table 18.4; `word` the word's index in that memory (Cave address / 64
or / 8, TSM or VM key / 8); `injected` under R476. -/
structure BadWord where
  mem : Nat
  word : Nat
  err : WordErr
  injected : Bool := false
  sym : Option Nat := none      -- where an injected single error lies: its symbol or bit (Table 18.4, SYNDROME)
  deriving DecidableEq, Repr, Inhabited

/-- A merge-buffer entry over a word that is not intact (R461): the requester that wrote it, as `reqCode` reports it, its order
and the die that records. -/
structure Merge where
  mem : Nat
  word : Nat
  req : Nat
  handle : Nat
  die : Nat
  deriving DecidableEq, Repr, Inhabited

/-- An error record in a die's store (Table 18.4), without LOST. -/
structure ErrRec where
  stamp : Nat
  status : Nat
  mem : Nat
  die : Nat
  flags : Nat
  addr : Nat
  req : Nat
  synd : Nat
  handle : Nat
  func : Option Nat              -- the function that posted the order of the handle
  count : Nat
  owner : Nat
  beat : Nat                    -- absolute beat of creation
  word : Nat                    -- the code word, which ADDR names within its die
  deriving DecidableEq, Repr, Inhabited

/-- A coding engine (R208): its job, how far it is, and its fence. -/
structure Eng where
  curd : Option Nat := none
  next : Nat := 0               -- next code block, from FIRST_CB
  empty : Bool := false         -- the job started the TB empty (R217)
  wrote : Bool := false         -- a soft-buffer region was written
  iterMax : Nat := 0
  resetting : Bool := false     -- self-reset after an internal fault (R227)
  fenceFrom : Option Nat := none  -- absolute beat from which it takes no job (R228)
  freeFrom : Nat := 0           -- absolute grain from which an unfenced engine is free (R228)
  deriving DecidableEq, Repr, Inhabited

/-- A PRACH engine or SE0: its job and its fence. -/
structure Px where
  curd : Option Nat := none
  resetting : Bool := false
  fenceFrom : Option Nat := none
  freeFrom : Nat := 0
  deriving DecidableEq, Repr, Inhabited

/-- Set or queue work of a hub channel: 0 SET0, 1 SET1, 2 the queue; the descriptor in progress, how many its chain has
had, and the pointer descriptor it came from. -/
structure DmaWork where
  kind : Nat
  desc : List Byte
  n : Nat := 1
  ptr : List Byte := []
  ue : Bool := false            -- the descriptor could not be read
  deriving DecidableEq, Repr, Inhabited

/-- A hub DMA channel (R368 to R371). -/
structure DmaChan where
  armed : List Nat := []        -- armed sets, in the order in which they start
  active : Option DmaWork := none
  halted : Bool := false
  aborting : Bool := false
  deriving DecidableEq, Repr, Inhabited

/-- A HUB_DMA job that has started (R368): its curd, its cost left, the descriptor in progress, and its channel now. -/
structure DmaJob where
  curd : Nat
  remaining : Nat
  desc : List Byte
  n : Nat := 1
  chan : Option Nat := none
  ue : Bool := false            -- the descriptor could not be read
  deriving DecidableEq, Repr, Inhabited

end Sys2Proof.Machine
end

