-- ==== Sys2Proof/Machine/RegTable.lean ====
section
/-!
DEFINITION. The BAR0 registers of the spec's register tables (Table 1.9 and the register tables of chapters 1 to 21):
every register kind is one constructor of `RegId`; `regDescs` gives, in the same order, its offset, how it repeats,
and its fields with access class (Table 0.5, R7) and reset value. A field whose reset column says Fused holds 0
(log entry 3). `Fld` names the fields.
-/
namespace Sys2Proof.Machine

/-- Access classes of Table 0.5 (R7). -/
inductive Access where | ro | rw | rws | rwe | rwl | w1c | wo
  deriving DecidableEq, Repr, Inhabited

/-- One field: its highest and lowest bit, access class and reset value. -/
structure FieldDesc where
  hi : Nat
  lo : Nat
  acc : Access
  reset : Nat
  deriving DecidableEq, Repr, Inhabited

/-- One register kind: BAR0 offset of its first register, the (count, stride) of each index, and its fields. -/
structure RegDesc where
  base : Nat
  dims : List (Nat × Nat)
  fields : List FieldDesc
  deriving DecidableEq, Repr, Inhabited

/-- The register kinds, named as the spec names them. -/
inductive RegId where
  | GLOBAL_ID | GLOBAL_SERIAL_LO | GLOBAL_SERIAL_HI | GLOBAL_CAVEWIN | GLOBAL_DIESTAT | GLOBAL_WERR
  | GLOBAL_WERR_CNT | STEWARD_STAT | STEWARD_CAUSE | MGMT_CFG | MGMT_IP | MGMT_MAC_LO
  | MGMT_MAC_HI | MGMT_CNT_RX | MGMT_CNT_RUNT | MGMT_CNT_AUTH | MGMT_CNT_POLICE | MGMT_CNT_HDR
  | MGMT_CNT_EVLOST | GLOBAL_BOOT | GLOBAL_BOOT_TIME | GLOBAL_BOOT_CTRL | GLOBAL_DIE_CTRL | GLOBAL_ISO_CAUSE
  | GLOBAL_RST | GLOBAL_RESET_CAUSE | DL_PORT | DL_CNT_PROXY | DL_CNT_DISCARD | NOC_DRAIN
  | CMD_PAIR_CFG | CMD_PAIR_MSIX | CMD_PAIR_STAT | CMD_PAIR_CNT | TIME_CTRL | TIME_STAT
  | TIME_NS_LO | TIME_NS_HI | TIME_FRAC | TIME_INCR_FRAC | TIME_INCR_NS | TIME_STEP_LO
  | TIME_STEP_HI | TIME_FRAME_OFS | TIME_FRAME_BASE_LO | TIME_FRAME_BASE_HI | TIME_SERVO | TIME_SLEW
  | TIME_HO_SPEC | TIME_PHASE | TIME_FREQ | TIME_SRC_EN | TIME_PTP | TIME_PPS
  | TIME_PPS_Q | TIME_UTC | TIME_FREQ_SRC | TIME_SYNCE_OUT | TIME_CNT_SWITCH | TIME_CNT_HOLDOVER
  | TIME_CNT_LOSS | TIME_LPRIO | TIME_PTP_PORT | TIME_SRC_STAT | TRIG_CFG | TRIG_POP
  | TRIG_TS_LO | TRIG_TS_HI | TRIG_TS_INFO | TRIG_CNT_OVF | TPO_CTRL | TPO_STAT
  | TPO_START_LO | TPO_START_HI | TPO_PERIOD_LO | TPO_PERIOD_HI | TPO_WIDTH | TPO_OFS
  | TPO_MASK0 | TPO_MASK1 | TPO_MASK2 | DAC_CFG | DAC_QUEUE | DAC_STAT
  | DAC_CODE | DAC_HO | DAC_HO_SET | DAC_KSENS | DAC_TAU | DAC_CODE_MIN
  | DAC_CODE_MAX | DAC_CTRL | DAC_CNT_OVF | DAC_CNT_UNDER | DAC_CNT_HO_WR | POWER_CTRL
  | POWER_STAT | POWER_DOM | POWER_TILES_LO | POWER_TILES_HI | POWER_PADS | POWER_STEP
  | POWER_FEED | POWER_WAKE | POWER_LAST | POWER_LAST_STAMP | POWER_CNT | KEEPER_STAT
  | KEEPER_REVOKED | KEEPER_LAST | KEEPER_CNT_VERIFY | KEEPER_CNT_FAIL | KEEPER_CNT_BAR4 | DBG_SESS
  | DBG_SESS_SRC | DBG_SESS_IP | DBG_CTRL | DBG_CNT_OPEN | DBG_CNT_REFUSED | DBG_CNT_EXPIRED
  | Q_CFG | Q_CTRL | Q_STAT | Q_BASE | Q_HEAD | Q_TAIL
  | Q_HELD | Q_DROPS | Q_HOSTRING_LO | Q_HOSTRING_HI | LEDGER_SEL | LEDGER_SEL2
  | LEDGER_SNAP | LEDGER_BREACHES | LEDGER_LAST_QTY | LEDGER_LAST_STAMP | LEDGER_LAST_DELTA | LEDGER_SUM
  | RENNET_CTRL | RENNET_MARGIN | RENNET_NOW | RENNET_FIRST_OPEN | RENNET_ACCEPTS | RENNET_REJ_CAP
  | RENNET_REJ_WIN | RENNET_REJ_GRAPH | RENNET_REJ_LEASE | RENNET_INFLIGHT | RENNET_DEC_MAX | RENNET_COLSEL
  | RENNET_COLCAP | RENNET_COLRES | DISP_CTRL | DISP_TRACE_CFG | DISP_TRACE_Q | DISP_TRACE_DROPS
  | DISP_STORE | DISP_STORE_MAX | DISP_READY | DISP_UNSTARTED | DISP_RELEASE_FLT | DISP_STRAY
  | DISP_STAGED | DISP_STAGE_UNUSED | DISP_WAIT_LO | DISP_WAIT_HI | ENG_FENCE | ENG_FENCE_STAT
  | ENG_STAT | ENG_CUR | ENG_EXC | ENG_EXC_HANDLE | ENG_CNT_JOBS | ENG_CNT_CB
  | ENG_CNT_ITER | ENG_CNT_CBFAIL | ENG_CNT_EXC | ENG_CNT_FAULT | ENG_CNT_MISMATCH | ENG_CNT_CLIP
  | ENG_CLR | DMA_CH_CFG | DMA_CH_CTRL | DMA_CH_STAT | DMA_CH_DONE | DMA_CH_RESIDUE
  | DMA_CH_CNT_XFER | DMA_CH_CNT_HALT | DMA_CH_CNT_JOBGR | DMA_CH_SET0 | DMA_CH_SET1 | ECC_CTRL
  | ECC_ERRQ | ECC_FILL | ECC_SCRUB_CFG | ECC_SCRUB_PASS | ECC_SCRUB_POS_LO | ECC_SCRUB_POS_HI
  | ECC_SCRUB_PENDING | ECC_SCRUB_DEFER | ECC_D_CNT_CE | ECC_D_CNT_UE | ECC_D_CNT_POISON | ECC_D_CNT_LOST
  | ECC_D_CNT_ESC | ECC_D_STORE | ECC_FLIP_CFG | ECC_FLIP_DLO | ECC_FLIP_DHI | ECC_FLIP_CHK
  | ECC_FLIP_STAT | ECC_FLIP_ADDR_LO | ECC_FLIP_ADDR_HI | ECC_FLIP_STAMP | FH_CTRL | FH_STAT
  | FH_CFG | FH_MAC_LO | FH_MAC_HI | FH_POLICE | FH_POLICE_CTRL | FH_HOST_ETYPE
  | FH_INQ | FH_OUTQ | FH_WHEYQ | FH_PTP_ASYM | FH_SMAC_LO | FH_SMAC_HI
  | FH_VLAN | FH_WHEY_NOBUF | FH_WHEY_MAC | FH_WHEY_SEC | FH_WHEY_DMAC | FH_WHEY_SMAC
  | FH_WHEY_VLAN | FH_WHEY_ETYPE | FH_WHEY_POLICE | FH_WHEY_ECPRI | FH_WHEY_EAXC | FH_WHEY_SEQ
  | FH_WHEY_HDR | FH_WHEY_EARLY | FH_WHEY_LATE | FH_WHEY_NOORDER | FH_WHEY_CLOSED | FH_WHEY_SECTION
  | FH_WHEY_INQ | FH_SEQ_GAP | FH_RX_FRAMES | FH_TX_FRAMES | FH_TX_MISSED | FH_TX_HOST
  | FH_GRAN | FH_SEC_CFG | FH_SEC_SAK | FH_C_CFG | FH_C_MAC_LO | FH_C_MAC_HI
  | FH_C_ULU | FH_C_DLU | FH_C_DLC | FH_C_ULC | FH_AXC | FAB_CTRL
  | FAB_MODNUM | FAB_COORD | FAB_GEN | FAB_TTL | FAB_CNT_EXPIRED | FAB_CNT_TTL
  | FAB_CNT_NOROUTE | FAB_CNT_DOWN | FAB_CNT_NOINPUT | FAB_CNT_CLOSED | FAB_CNT_BADHDR | FAB_CNT_UNSCHED
  | FAB_CNT_MOVE_DISC | FL_CTRL | FL_STAT | FL_PEER | FL_PEER_SERIAL_LO | FL_PEER_SERIAL_HI
  | FL_POLICE | FL_ASYM | FL_DELAY | FL_T_OFFSET | FL_CNT_TX | FL_CNT_RX
  | FL_CNT_RESEND | FL_CNT_AUTH | FL_CNT_CREDIT_OVR | FL_CNT_HELLO_REJ | FL_CNT_POLICE | FL_TT
  | ROUTE | LN_CTRL | LN_STAT | LN_EQ | LN_LAT | LN_CNT_ERR
  | LN_CNT_PRBS | LN_CNT_ALIGN_LOSS | LN_MARGIN_CTRL | LN_MARGIN_RES | SP_CTRL | SE_DET
  | SE_AGC | SE_ED | SE_LOG_LO | SE_LOG_HI | SE_LOG_CFG | SE_LOG_HEAD
  | SE_LOG_TAIL | SE_LOG_DROPS | SE_J_JOBS | SE_J_GRANTS | SE_J_EXC | SE_S_CFG
  | SE_S_CENTER | SE_S_LAT | SE_S_STAT | SE_S_CFO | SE_S_STARTS | SE_S_FALSE_DET
  | SE_S_CAPTURED | SE_S_NO_QUAL | SE_S_SIG_FAIL | SE_S_GAPS | SE_S_BUSY_SLOTS | SE_G_CFG
  | SE_G_COT | SE_G_WIN | SE_G_HELD | PX_FENCE | PX_FENCE_STAT | PX_STAT
  | PX_CUR | PX_EXC | PX_EXC_HANDLE | PX_CNT_JOBS | PX_CNT_DET | PX_CNT_EXC
  | PX_CLR | LR_STAT | LR_ID | LR_VER | LR_CAP | LR_CNT_REPAIR
  | LR_CNT_GFIX | LR_CNT_CMD | LR_CLR | LR_SCRUB_CFG | LR_SCRUB_PASS | LR_SCRUB_VOTES
  | LR_SCRUB_RESTARTS | LR_LOAD_STAT | CORE_STAT | CORE_CUR | CORE_EXC | CORE_EXC_PC
  | CORE_EXC_HANDLE | CORE_EXC_STAMP | CORE_LATE | CORE_LATE_PC | CORE_CNT_EXC | CORE_CNT_COLL
  | CORE_CNT_LATE | CORE_CNT_ROMCE | CORE_CNT_SQUASH | CORE_CNT_CURDS | CORE_CLR | BMU_STAT
  | BMU_CUR | BMU_EXC | BMU_EXC_HANDLE | BMU_CNT_JOBS | BMU_CNT_SAT | BMU_CNT_NOTPD
  | BMU_CNT_EXC | BMU_CLR | TDMA_STAT | TDMA_DONE | TDMA_CNT_XFER | TDMA_CNT_ABORT
  | NOC_PORT | NOC_CNT_PROXY | NOC_CNT_DISCARD
  deriving DecidableEq, Repr, Inhabited

/-- Register descriptions, part 1. -/
def regDescs1 : List RegDesc := [
  ⟨0x0, [], [⟨15, 0, .ro, 0x5120⟩, ⟨23, 16, .ro, 1⟩]⟩,  -- GLOBAL_ID (16_management.md)
  ⟨0x4, [], [⟨31, 0, .ro, 0⟩]⟩,  -- GLOBAL_SERIAL_LO (16_management.md)
  ⟨0x8, [], [⟨31, 0, .ro, 0⟩]⟩,  -- GLOBAL_SERIAL_HI (16_management.md)
  ⟨0x40, [], [⟨7, 0, .rw, 0⟩]⟩,  -- GLOBAL_CAVEWIN (01_architecture.md)
  ⟨0x44, [], [⟨1, 0, .ro, 0⟩, ⟨3, 2, .ro, 0⟩, ⟨5, 4, .ro, 0⟩, ⟨7, 6, .ro, 0⟩]⟩,  -- GLOBAL_DIESTAT (01_architecture.md)
  ⟨0x50, [], [⟨25, 0, .ro, 0⟩, ⟨28, 26, .ro, 0⟩, ⟨29, 29, .ro, 0⟩, ⟨30, 30, .ro, 0⟩, ⟨31, 31, .w1c, 0⟩]⟩,  -- GLOBAL_WERR (16_management.md)
  ⟨0x54, [], [⟨31, 0, .ro, 0⟩]⟩,  -- GLOBAL_WERR_CNT (16_management.md)
  ⟨0x60, [], [⟨1, 0, .ro, 0⟩, ⟨2, 2, .ro, 0⟩, ⟨3, 3, .ro, 0⟩, ⟨4, 4, .ro, 0⟩, ⟨5, 5, .ro, 0⟩, ⟨31, 16, .ro, 0⟩]⟩,  -- STEWARD_STAT (16_management.md)
  ⟨0x64, [], [⟨7, 0, .ro, 0⟩]⟩,  -- STEWARD_CAUSE (16_management.md)
  ⟨0x70, [], [⟨0, 0, .rw, 0⟩, ⟨1, 1, .rwl, 0⟩, ⟨2, 2, .rwl, 0⟩, ⟨31, 16, .rwl, 0x5544⟩]⟩,  -- MGMT_CFG (16_management.md)
  ⟨0x74, [], [⟨31, 0, .rwl, 0⟩]⟩,  -- MGMT_IP (16_management.md)
  ⟨0x78, [], [⟨31, 0, .rwl, 0⟩]⟩,  -- MGMT_MAC_LO (16_management.md)
  ⟨0x7c, [], [⟨15, 0, .rwl, 0⟩]⟩,  -- MGMT_MAC_HI (16_management.md)
  ⟨0x80, [], [⟨31, 0, .ro, 0⟩]⟩,  -- MGMT_CNT_RX (16_management.md)
  ⟨0x84, [], [⟨31, 0, .ro, 0⟩]⟩,  -- MGMT_CNT_RUNT (16_management.md)
  ⟨0x88, [], [⟨31, 0, .ro, 0⟩]⟩,  -- MGMT_CNT_AUTH (16_management.md)
  ⟨0x8c, [], [⟨31, 0, .ro, 0⟩]⟩,  -- MGMT_CNT_POLICE (16_management.md)
  ⟨0x90, [], [⟨31, 0, .ro, 0⟩]⟩,  -- MGMT_CNT_HDR (16_management.md)
  ⟨0x94, [], [⟨31, 0, .ro, 0⟩]⟩,  -- MGMT_CNT_EVLOST (16_management.md)
  ⟨0x100, [], [⟨3, 0, .ro, 0⟩, ⟨15, 8, .ro, 0⟩, ⟨19, 16, .ro, 0⟩, ⟨23, 20, .ro, 0⟩]⟩,  -- GLOBAL_BOOT (21_startup.md)
  ⟨0x104, [], [⟨31, 0, .ro, 0⟩]⟩,  -- GLOBAL_BOOT_TIME (21_startup.md)
  ⟨0x108, [], [⟨0, 0, .wo, 0⟩, ⟨15, 8, .rw, 0x40⟩]⟩,  -- GLOBAL_BOOT_CTRL (21_startup.md)
  ⟨0x10c, [], [⟨3, 0, .wo, 0⟩, ⟨7, 4, .ro, 0⟩]⟩,  -- GLOBAL_DIE_CTRL (21_startup.md)
  ⟨0x110, [], [⟨7, 0, .ro, 0⟩, ⟨15, 8, .ro, 0⟩, ⟨23, 16, .ro, 0⟩, ⟨31, 24, .ro, 0⟩]⟩,  -- GLOBAL_ISO_CAUSE (21_startup.md)
  ⟨0x114, [], [⟨0, 0, .wo, 0⟩]⟩,  -- GLOBAL_RST (21_startup.md)
  ⟨0x118, [], [⟨2, 0, .ro, 0⟩]⟩,  -- GLOBAL_RESET_CAUSE (21_startup.md)
  ⟨0x1000, [(4, 0x40)], [⟨1, 0, .ro, 0⟩]⟩,  -- DL_PORT (14_noc_dma.md)
  ⟨0x1004, [(4, 0x40)], [⟨31, 0, .ro, 0⟩]⟩,  -- DL_CNT_PROXY (14_noc_dma.md)
  ⟨0x1008, [(4, 0x40)], [⟨31, 0, .ro, 0⟩]⟩,  -- DL_CNT_DISCARD (14_noc_dma.md)
  ⟨0x1100, [], [⟨11, 0, .rw, 4⟩]⟩,  -- NOC_DRAIN (14_noc_dma.md)
  ⟨0x2000, [(256, 0x10)], [⟨11, 0, .rwl, 0⟩, ⟨23, 12, .rwl, 0⟩, ⟨31, 31, .rw, 0⟩]⟩,  -- CMD_PAIR_CFG (16_management.md)
  ⟨0x2004, [(256, 0x10)], [⟨10, 0, .rwl, 0⟩, ⟨11, 11, .rwl, 0⟩]⟩,  -- CMD_PAIR_MSIX (16_management.md)
  ⟨0x2008, [(256, 0x10)], [⟨0, 0, .ro, 0⟩, ⟨1, 1, .ro, 0⟩]⟩,  -- CMD_PAIR_STAT (16_management.md)
  ⟨0x200c, [(256, 0x10)], [⟨31, 0, .ro, 0⟩]⟩,  -- CMD_PAIR_CNT (16_management.md)
  ⟨0x100000, [], [⟨0, 0, .rw, 0⟩, ⟨1, 1, .rws, 1⟩, ⟨2, 2, .rws, 0⟩, ⟨3, 3, .wo, 0⟩, ⟨4, 4, .wo, 0⟩]⟩,  -- TIME_CTRL (15_time.md)
  ⟨0x100004, [], [⟨2, 0, .ro, 0⟩, ⟨8, 4, .ro, 0x1f⟩, ⟨12, 12, .ro, 0⟩, ⟨13, 13, .ro, 0⟩]⟩,  -- TIME_STAT (15_time.md)
  ⟨0x100008, [], [⟨31, 0, .ro, 0⟩]⟩,  -- TIME_NS_LO (15_time.md)
  ⟨0x10000c, [], [⟨31, 0, .ro, 0⟩]⟩,  -- TIME_NS_HI (15_time.md)
  ⟨0x100010, [], [⟨31, 0, .ro, 0⟩]⟩,  -- TIME_FRAC (15_time.md)
  ⟨0x100014, [], [⟨31, 0, .rw, 0⟩]⟩,  -- TIME_INCR_FRAC (15_time.md)
  ⟨0x100018, [], [⟨31, 0, .rw, 1⟩]⟩,  -- TIME_INCR_NS (15_time.md)
  ⟨0x10001c, [], [⟨31, 0, .rw, 0⟩]⟩,  -- TIME_STEP_LO (15_time.md)
  ⟨0x100020, [], [⟨31, 0, .rw, 0⟩]⟩,  -- TIME_STEP_HI (15_time.md)
  ⟨0x100024, [], [⟨31, 0, .rwl, 0⟩]⟩,  -- TIME_FRAME_OFS (15_time.md)
  ⟨0x100028, [], [⟨31, 0, .rwl, 0x2e03fe00⟩]⟩,  -- TIME_FRAME_BASE_LO (15_time.md)
  ⟨0x10002c, [], [⟨31, 0, .rwl, 0x4628854⟩]⟩,  -- TIME_FRAME_BASE_HI (15_time.md)
  ⟨0x100030, [], [⟨1, 0, .rws, 0⟩, ⟨15, 8, .rws, 0x64⟩]⟩,  -- TIME_SERVO (15_time.md)
  ⟨0x100034, [], [⟨17, 0, .rws, 0x2710⟩]⟩  -- TIME_SLEW (15_time.md)
]

/-- Register descriptions, part 2. -/
def regDescs2 : List RegDesc := [
  ⟨0x100038, [], [⟨23, 0, .rws, 0xe10⟩]⟩,  -- TIME_HO_SPEC (15_time.md)
  ⟨0x100040, [], [⟨31, 0, .ro, 0⟩]⟩,  -- TIME_PHASE (15_time.md)
  ⟨0x100044, [], [⟨31, 0, .ro, 0⟩]⟩,  -- TIME_FREQ (15_time.md)
  ⟨0x100050, [], [⟨17, 0, .rws, 0⟩]⟩,  -- TIME_SRC_EN (15_time.md)
  ⟨0x100054, [], [⟨7, 0, .rwe, 0x18⟩, ⟨15, 8, .rwe, 0x80⟩]⟩,  -- TIME_PTP (15_time.md)
  ⟨0x100058, [], [⟨0, 0, .rws, 0⟩, ⟨1, 1, .rws, 0⟩, ⟨2, 2, .rws, 0⟩, ⟨31, 16, .rws, 0⟩]⟩,  -- TIME_PPS (15_time.md)
  ⟨0x10005c, [], [⟨7, 0, .rws, 6⟩, ⟨15, 8, .rws, 0x21⟩, ⟨31, 16, .rws, 0x4e5d⟩]⟩,  -- TIME_PPS_Q (15_time.md)
  ⟨0x100060, [], [⟨15, 0, .rws, 0x25⟩]⟩,  -- TIME_UTC (15_time.md)
  ⟨0x100064, [], [⟨0, 0, .rwe, 0⟩, ⟨4, 1, .rwe, 0⟩]⟩,  -- TIME_FREQ_SRC (15_time.md)
  ⟨0x100068, [], [⟨3, 0, .rws, 0⟩, ⟨4, 4, .rws, 0⟩, ⟨5, 5, .rws, 0⟩, ⟨11, 8, .rws, 0⟩, ⟨12, 12, .rws, 0⟩, ⟨13, 13, .rws, 0⟩]⟩,  -- TIME_SYNCE_OUT (15_time.md)
  ⟨0x100070, [], [⟨31, 0, .ro, 0⟩]⟩,  -- TIME_CNT_SWITCH (15_time.md)
  ⟨0x100074, [], [⟨31, 0, .ro, 0⟩]⟩,  -- TIME_CNT_HOLDOVER (15_time.md)
  ⟨0x100078, [], [⟨31, 0, .ro, 0⟩]⟩,  -- TIME_CNT_LOSS (15_time.md)
  ⟨0x100100, [(18, 0x4)], [⟨7, 0, .rws, 0x80⟩]⟩,  -- TIME_LPRIO (15_time.md)
  ⟨0x100180, [(16, 0x4)], [⟨0, 0, .rwe, 0⟩, ⟨7, 4, .ro, 0⟩]⟩,  -- TIME_PTP_PORT (15_time.md)
  ⟨0x100200, [(18, 0x4)], [⟨0, 0, .ro, 0⟩, ⟨15, 8, .ro, 0⟩, ⟨23, 16, .ro, 0⟩, ⟨31, 24, .ro, 0⟩]⟩,  -- TIME_SRC_STAT (15_time.md)
  ⟨0x100300, [(4, 0x20)], [⟨0, 0, .rw, 0⟩, ⟨2, 1, .rwl, 0⟩]⟩,  -- TRIG_CFG (15_time.md)
  ⟨0x100304, [(4, 0x20)], [⟨0, 0, .wo, 0⟩]⟩,  -- TRIG_POP (15_time.md)
  ⟨0x100308, [(4, 0x20)], [⟨31, 0, .ro, 0⟩]⟩,  -- TRIG_TS_LO (15_time.md)
  ⟨0x10030c, [(4, 0x20)], [⟨31, 0, .ro, 0⟩]⟩,  -- TRIG_TS_HI (15_time.md)
  ⟨0x100310, [(4, 0x20)], [⟨0, 0, .ro, 0⟩, ⟨1, 1, .ro, 0⟩, ⟨31, 16, .ro, 0⟩]⟩,  -- TRIG_TS_INFO (15_time.md)
  ⟨0x100314, [(4, 0x20)], [⟨31, 0, .ro, 0⟩]⟩,  -- TRIG_CNT_OVF (15_time.md)
  ⟨0x100400, [(8, 0x40)], [⟨0, 0, .rw, 0⟩, ⟨2, 1, .rwl, 0⟩, ⟨3, 3, .rwl, 0⟩]⟩,  -- TPO_CTRL (15_time.md)
  ⟨0x100404, [(8, 0x40)], [⟨0, 0, .ro, 0⟩, ⟨1, 1, .w1c, 0⟩]⟩,  -- TPO_STAT (15_time.md)
  ⟨0x100408, [(8, 0x40)], [⟨31, 0, .rwl, 0⟩]⟩,  -- TPO_START_LO (15_time.md)
  ⟨0x10040c, [(8, 0x40)], [⟨31, 0, .rwl, 0⟩]⟩,  -- TPO_START_HI (15_time.md)
  ⟨0x100410, [(8, 0x40)], [⟨31, 0, .rwl, 0⟩]⟩,  -- TPO_PERIOD_LO (15_time.md)
  ⟨0x100414, [(8, 0x40)], [⟨15, 0, .rwl, 0⟩]⟩,  -- TPO_PERIOD_HI (15_time.md)
  ⟨0x100418, [(8, 0x40)], [⟨31, 0, .rwl, 0⟩]⟩,  -- TPO_WIDTH (15_time.md)
  ⟨0x10041c, [(8, 0x40)], [⟨31, 0, .rwl, 0⟩]⟩,  -- TPO_OFS (15_time.md)
  ⟨0x100420, [(8, 0x40)], [⟨31, 0, .rwe, 0⟩]⟩,  -- TPO_MASK0 (15_time.md)
  ⟨0x100424, [(8, 0x40)], [⟨31, 0, .rwe, 0⟩]⟩,  -- TPO_MASK1 (15_time.md)
  ⟨0x100428, [(8, 0x40)], [⟨15, 0, .rwe, 0⟩]⟩,  -- TPO_MASK2 (15_time.md)
  ⟨0x200000, [(2, 0x40)], [⟨0, 0, .rw, 0⟩, ⟨1, 1, .rwl, 0⟩, ⟨2, 2, .rwl, 0⟩, ⟨28, 16, .rwl, 0x64⟩]⟩,  -- DAC_CFG (15_time.md)
  ⟨0x200004, [(2, 0x40)], [⟨23, 0, .wo, 0⟩]⟩,  -- DAC_QUEUE (15_time.md)
  ⟨0x200008, [(2, 0x40)], [⟨4, 0, .ro, 0⟩, ⟨8, 8, .ro, 0⟩, ⟨9, 9, .ro, 0⟩]⟩,  -- DAC_STAT (15_time.md)
  ⟨0x20000c, [(2, 0x40)], [⟨23, 0, .ro, 0⟩]⟩,  -- DAC_CODE (15_time.md)
  ⟨0x200010, [(2, 0x40)], [⟨23, 0, .ro, 0⟩]⟩,  -- DAC_HO (15_time.md)
  ⟨0x200014, [(2, 0x40)], [⟨23, 0, .wo, 0⟩]⟩,  -- DAC_HO_SET (15_time.md)
  ⟨0x200018, [(2, 0x40)], [⟨31, 0, .rws, 0⟩]⟩,  -- DAC_KSENS (15_time.md)
  ⟨0x20001c, [(2, 0x40)], [⟨15, 0, .rws, 0x3e8⟩]⟩,  -- DAC_TAU (15_time.md)
  ⟨0x200020, [(2, 0x40)], [⟨23, 0, .rws, 0⟩]⟩,  -- DAC_CODE_MIN (15_time.md)
  ⟨0x200024, [(2, 0x40)], [⟨23, 0, .rws, 0xffffff⟩]⟩,  -- DAC_CODE_MAX (15_time.md)
  ⟨0x200028, [(2, 0x40)], [⟨0, 0, .wo, 0⟩, ⟨1, 1, .wo, 0⟩]⟩,  -- DAC_CTRL (15_time.md)
  ⟨0x20002c, [(2, 0x40)], [⟨31, 0, .ro, 0⟩]⟩,  -- DAC_CNT_OVF (15_time.md)
  ⟨0x200030, [(2, 0x40)], [⟨31, 0, .ro, 0⟩]⟩,  -- DAC_CNT_UNDER (15_time.md)
  ⟨0x200034, [(2, 0x40)], [⟨31, 0, .ro, 0⟩]⟩,  -- DAC_CNT_HO_WR (15_time.md)
  ⟨0x300000, [], [⟨0, 0, .wo, 0⟩]⟩  -- POWER_CTRL (19_power.md)
]

/-- Register descriptions, part 3. -/
def regDescs3 : List RegDesc := [
  ⟨0x300004, [], [⟨2, 0, .ro, 0⟩, ⟨4, 3, .ro, 0⟩]⟩,  -- POWER_STAT (19_power.md)
  ⟨0x300008, [], [⟨9, 0, .ro, 0⟩]⟩,  -- POWER_DOM (19_power.md)
  ⟨0x30000c, [], [⟨31, 0, .ro, 0⟩]⟩,  -- POWER_TILES_LO (19_power.md)
  ⟨0x300010, [], [⟨31, 0, .ro, 0⟩]⟩,  -- POWER_TILES_HI (19_power.md)
  ⟨0x300014, [], [⟨9, 0, .ro, 0⟩]⟩,  -- POWER_PADS (19_power.md)
  ⟨0x300018, [], [⟨7, 0, .ro, 0⟩, ⟨15, 8, .ro, 0⟩]⟩,  -- POWER_STEP (19_power.md)
  ⟨0x30001c, [], [⟨3, 0, .ro, 0⟩]⟩,  -- POWER_FEED (19_power.md)
  ⟨0x300020, [], [⟨2, 0, .wo, 0⟩]⟩,  -- POWER_WAKE (19_power.md)
  ⟨0x300024, [], [⟨7, 0, .ro, 0⟩, ⟨10, 8, .ro, 0⟩, ⟨13, 11, .ro, 0⟩, ⟨31, 16, .ro, 0⟩]⟩,  -- POWER_LAST (19_power.md)
  ⟨0x300028, [], [⟨31, 0, .ro, 0⟩]⟩,  -- POWER_LAST_STAMP (19_power.md)
  ⟨0x300100, [(6, 0x20), (6, 0x4)], [⟨31, 0, .ro, 0⟩]⟩,  -- POWER_CNT (19_power.md)
  ⟨0x400000, [], [⟨1, 0, .ro, 0⟩, ⟨2, 2, .ro, 0⟩, ⟨3, 3, .ro, 0⟩, ⟨4, 4, .ro, 0⟩, ⟨31, 16, .ro, 0⟩]⟩,  -- KEEPER_STAT (20_security_debug.md)
  ⟨0x400004, [], [⟨15, 0, .ro, 0⟩]⟩,  -- KEEPER_REVOKED (20_security_debug.md)
  ⟨0x400008, [], [⟨7, 0, .ro, 0⟩, ⟨10, 8, .ro, 0⟩]⟩,  -- KEEPER_LAST (20_security_debug.md)
  ⟨0x400010, [], [⟨31, 0, .ro, 0⟩]⟩,  -- KEEPER_CNT_VERIFY (20_security_debug.md)
  ⟨0x400014, [], [⟨31, 0, .ro, 0⟩]⟩,  -- KEEPER_CNT_FAIL (20_security_debug.md)
  ⟨0x400018, [], [⟨31, 0, .ro, 0⟩]⟩,  -- KEEPER_CNT_BAR4 (20_security_debug.md)
  ⟨0x500000, [(4, 0x10)], [⟨1, 0, .ro, 0⟩, ⟨3, 2, .ro, 0⟩, ⟨9, 4, .ro, 0⟩, ⟨31, 16, .ro, 0⟩]⟩,  -- DBG_SESS (20_security_debug.md)
  ⟨0x500004, [(4, 0x10)], [⟨8, 0, .ro, 0⟩]⟩,  -- DBG_SESS_SRC (20_security_debug.md)
  ⟨0x500008, [(4, 0x10)], [⟨31, 0, .ro, 0⟩]⟩,  -- DBG_SESS_IP (20_security_debug.md)
  ⟨0x500100, [], [⟨0, 0, .wo, 0⟩]⟩,  -- DBG_CTRL (20_security_debug.md)
  ⟨0x500104, [], [⟨31, 0, .ro, 0⟩]⟩,  -- DBG_CNT_OPEN (20_security_debug.md)
  ⟨0x500108, [], [⟨31, 0, .ro, 0⟩]⟩,  -- DBG_CNT_REFUSED (20_security_debug.md)
  ⟨0x50010c, [], [⟨31, 0, .ro, 0⟩]⟩,  -- DBG_CNT_EXPIRED (20_security_debug.md)
  ⟨0x610000, [(4096, 0x40)], [⟨3, 0, .rwl, 0⟩, ⟨8, 4, .rwl, 0⟩, ⟨23, 16, .rwl, 0xff⟩]⟩,  -- Q_CFG (04_cave_ledger.md)
  ⟨0x610004, [(4096, 0x40)], [⟨0, 0, .rw, 0⟩, ⟨1, 1, .wo, 0⟩]⟩,  -- Q_CTRL (04_cave_ledger.md)
  ⟨0x610008, [(4096, 0x40)], [⟨1, 0, .ro, 0⟩, ⟨3, 2, .ro, 0⟩]⟩,  -- Q_STAT (04_cave_ledger.md)
  ⟨0x61000c, [(4096, 0x40)], [⟨15, 0, .ro, 0⟩]⟩,  -- Q_BASE (04_cave_ledger.md)
  ⟨0x610010, [(4096, 0x40)], [⟨20, 0, .rw, 0⟩]⟩,  -- Q_HEAD (04_cave_ledger.md)
  ⟨0x610014, [(4096, 0x40)], [⟨20, 0, .rw, 0⟩]⟩,  -- Q_TAIL (04_cave_ledger.md)
  ⟨0x610018, [(4096, 0x40)], [⟨20, 0, .ro, 0⟩]⟩,  -- Q_HELD (04_cave_ledger.md)
  ⟨0x61001c, [(4096, 0x40)], [⟨31, 0, .ro, 0⟩]⟩,  -- Q_DROPS (04_cave_ledger.md)
  ⟨0x610020, [(4096, 0x40)], [⟨31, 0, .rwl, 0⟩]⟩,  -- Q_HOSTRING_LO (04_cave_ledger.md)
  ⟨0x610024, [(4096, 0x40)], [⟨31, 0, .rwl, 0⟩]⟩,  -- Q_HOSTRING_HI (04_cave_ledger.md)
  ⟨0x800000, [], [⟨7, 0, .rw, 0⟩, ⟨31, 8, .rw, 0⟩]⟩,  -- LEDGER_SEL (04_cave_ledger.md)
  ⟨0x800004, [], [⟨16, 0, .rw, 0⟩, ⟨23, 20, .rw, 0⟩, ⟨31, 24, .rw, 0⟩]⟩,  -- LEDGER_SEL2 (04_cave_ledger.md)
  ⟨0x800008, [], [⟨0, 0, .ro, 0⟩]⟩,  -- LEDGER_SNAP (04_cave_ledger.md)
  ⟨0x800010, [], [⟨31, 0, .ro, 0⟩]⟩,  -- LEDGER_BREACHES (04_cave_ledger.md)
  ⟨0x800014, [], [⟨7, 0, .ro, 0⟩, ⟨31, 8, .ro, 0⟩]⟩,  -- LEDGER_LAST_QTY (04_cave_ledger.md)
  ⟨0x800018, [], [⟨31, 0, .ro, 0⟩]⟩,  -- LEDGER_LAST_STAMP (04_cave_ledger.md)
  ⟨0x80001c, [], [⟨31, 0, .ro, 0⟩]⟩,  -- LEDGER_LAST_DELTA (04_cave_ledger.md)
  ⟨0x800100, [(8, 0x4)], [⟨31, 0, .ro, 0⟩]⟩,  -- LEDGER_SUM (04_cave_ledger.md)
  ⟨0x900000, [], [⟨0, 0, .rws, 0⟩, ⟨1, 1, .wo, 0⟩]⟩,  -- RENNET_CTRL (02_deadline_contract.md)
  ⟨0x900004, [], [⟨5, 0, .rws, 4⟩]⟩,  -- RENNET_MARGIN (02_deadline_contract.md)
  ⟨0x900008, [], [⟨31, 0, .ro, 0⟩]⟩,  -- RENNET_NOW (02_deadline_contract.md)
  ⟨0x90000c, [], [⟨16, 0, .ro, 0⟩]⟩,  -- RENNET_FIRST_OPEN (02_deadline_contract.md)
  ⟨0x900010, [], [⟨31, 0, .ro, 0⟩]⟩,  -- RENNET_ACCEPTS (02_deadline_contract.md)
  ⟨0x900014, [], [⟨31, 0, .ro, 0⟩]⟩  -- RENNET_REJ_CAP (02_deadline_contract.md)
]

/-- Register descriptions, part 4. -/
def regDescs4 : List RegDesc := [
  ⟨0x900018, [], [⟨31, 0, .ro, 0⟩]⟩,  -- RENNET_REJ_WIN (02_deadline_contract.md)
  ⟨0x90001c, [], [⟨31, 0, .ro, 0⟩]⟩,  -- RENNET_REJ_GRAPH (02_deadline_contract.md)
  ⟨0x900020, [], [⟨31, 0, .ro, 0⟩]⟩,  -- RENNET_REJ_LEASE (02_deadline_contract.md)
  ⟨0x900024, [], [⟨14, 0, .ro, 0⟩]⟩,  -- RENNET_INFLIGHT (02_deadline_contract.md)
  ⟨0x900028, [], [⟨4, 0, .ro, 0⟩]⟩,  -- RENNET_DEC_MAX (02_deadline_contract.md)
  ⟨0x900030, [], [⟨16, 0, .rw, 0⟩, ⟨23, 20, .rw, 0⟩, ⟨31, 24, .rw, 0⟩]⟩,  -- RENNET_COLSEL (02_deadline_contract.md)
  ⟨0x900034, [], [⟨23, 0, .ro, 0⟩, ⟨31, 31, .ro, 0⟩]⟩,  -- RENNET_COLCAP (02_deadline_contract.md)
  ⟨0x900038, [], [⟨23, 0, .ro, 0⟩]⟩,  -- RENNET_COLRES (02_deadline_contract.md)
  ⟨0xa00000, [(5, 0x10000)], [⟨0, 0, .rws, 1⟩, ⟨1, 1, .wo, 0⟩]⟩,  -- DISP_CTRL (05_dispatch.md)
  ⟨0xa00004, [(5, 0x10000)], [⟨7, 0, .rws, 0x70⟩, ⟨19, 8, .rws, 0x100⟩]⟩,  -- DISP_TRACE_CFG (05_dispatch.md)
  ⟨0xa00008, [(5, 0x10000)], [⟨11, 0, .rws, 0⟩, ⟨12, 12, .rws, 0⟩]⟩,  -- DISP_TRACE_Q (05_dispatch.md)
  ⟨0xa0000c, [(5, 0x10000)], [⟨31, 0, .ro, 0⟩]⟩,  -- DISP_TRACE_DROPS (05_dispatch.md)
  ⟨0xa00010, [(5, 0x10000)], [⟨18, 0, .ro, 0⟩]⟩,  -- DISP_STORE (05_dispatch.md)
  ⟨0xa00014, [(5, 0x10000)], [⟨18, 0, .ro, 0⟩]⟩,  -- DISP_STORE_MAX (05_dispatch.md)
  ⟨0xa00018, [(5, 0x10000)], [⟨15, 0, .ro, 0⟩, ⟨31, 16, .ro, 0⟩]⟩,  -- DISP_READY (05_dispatch.md)
  ⟨0xa0001c, [(5, 0x10000)], [⟨31, 0, .ro, 0⟩]⟩,  -- DISP_UNSTARTED (05_dispatch.md)
  ⟨0xa00020, [(5, 0x10000)], [⟨31, 0, .ro, 0⟩]⟩,  -- DISP_RELEASE_FLT (05_dispatch.md)
  ⟨0xa00024, [(5, 0x10000)], [⟨31, 0, .ro, 0⟩]⟩,  -- DISP_STRAY (05_dispatch.md)
  ⟨0xa00028, [(5, 0x10000)], [⟨31, 0, .ro, 0⟩]⟩,  -- DISP_STAGED (05_dispatch.md)
  ⟨0xa0002c, [(5, 0x10000)], [⟨31, 0, .ro, 0⟩]⟩,  -- DISP_STAGE_UNUSED (05_dispatch.md)
  ⟨0xa00030, [(5, 0x10000)], [⟨31, 0, .ro, 0⟩]⟩,  -- DISP_WAIT_LO (05_dispatch.md)
  ⟨0xa00034, [(5, 0x10000)], [⟨31, 0, .ro, 0⟩]⟩,  -- DISP_WAIT_HI (05_dispatch.md)
  ⟨0xa00800, [(4, 0x10000)], [⟨15, 0, .rw, 0⟩]⟩,  -- ENG_FENCE (08_coding.md)
  ⟨0xa00804, [(4, 0x10000)], [⟨15, 0, .ro, 0⟩, ⟨16, 16, .ro, 0⟩]⟩,  -- ENG_FENCE_STAT (08_coding.md)
  ⟨0xa01000, [(4, 0x10000), (16, 0x40)], [⟨1, 0, .ro, 0⟩]⟩,  -- ENG_STAT (08_coding.md)
  ⟨0xa01004, [(4, 0x10000), (16, 0x40)], [⟨31, 0, .ro, 0⟩]⟩,  -- ENG_CUR (08_coding.md)
  ⟨0xa01008, [(4, 0x10000), (16, 0x40)], [⟨7, 0, .ro, 0⟩, ⟨15, 8, .ro, 0⟩]⟩,  -- ENG_EXC (08_coding.md)
  ⟨0xa0100c, [(4, 0x10000), (16, 0x40)], [⟨31, 0, .ro, 0⟩]⟩,  -- ENG_EXC_HANDLE (08_coding.md)
  ⟨0xa01010, [(4, 0x10000), (16, 0x40)], [⟨31, 0, .ro, 0⟩]⟩,  -- ENG_CNT_JOBS (08_coding.md)
  ⟨0xa01014, [(4, 0x10000), (16, 0x40)], [⟨31, 0, .ro, 0⟩]⟩,  -- ENG_CNT_CB (08_coding.md)
  ⟨0xa01018, [(4, 0x10000), (16, 0x40)], [⟨31, 0, .ro, 0⟩]⟩,  -- ENG_CNT_ITER (08_coding.md)
  ⟨0xa0101c, [(4, 0x10000), (16, 0x40)], [⟨31, 0, .ro, 0⟩]⟩,  -- ENG_CNT_CBFAIL (08_coding.md)
  ⟨0xa01020, [(4, 0x10000), (16, 0x40)], [⟨31, 0, .ro, 0⟩]⟩,  -- ENG_CNT_EXC (08_coding.md)
  ⟨0xa01024, [(4, 0x10000), (16, 0x40)], [⟨31, 0, .ro, 0⟩]⟩,  -- ENG_CNT_FAULT (08_coding.md)
  ⟨0xa01028, [(4, 0x10000), (16, 0x40)], [⟨31, 0, .ro, 0⟩]⟩,  -- ENG_CNT_MISMATCH (08_coding.md)
  ⟨0xa0102c, [(4, 0x10000), (16, 0x40)], [⟨31, 0, .ro, 0⟩]⟩,  -- ENG_CNT_CLIP (08_coding.md)
  ⟨0xa0103c, [(4, 0x10000), (16, 0x40)], [⟨0, 0, .wo, 0⟩]⟩,  -- ENG_CLR (08_coding.md)
  ⟨0xc00000, [(64, 0x400)], [⟨11, 0, .rwl, 0⟩, ⟨12, 12, .rwl, 0⟩]⟩,  -- DMA_CH_CFG (14_noc_dma.md)
  ⟨0xc00004, [(64, 0x400)], [⟨0, 0, .wo, 0⟩, ⟨1, 1, .wo, 0⟩, ⟨2, 2, .wo, 0⟩, ⟨3, 3, .wo, 0⟩, ⟨4, 4, .wo, 0⟩]⟩,  -- DMA_CH_CTRL (14_noc_dma.md)
  ⟨0xc00008, [(64, 0x400)], [⟨1, 0, .ro, 0⟩, ⟨2, 2, .ro, 0⟩, ⟨3, 3, .ro, 0⟩, ⟨4, 4, .ro, 0⟩, ⟨15, 8, .ro, 0⟩]⟩,  -- DMA_CH_STAT (14_noc_dma.md)
  ⟨0xc0000c, [(64, 0x400)], [⟨31, 0, .ro, 0⟩]⟩,  -- DMA_CH_DONE (14_noc_dma.md)
  ⟨0xc00010, [(64, 0x400)], [⟨31, 0, .ro, 0⟩]⟩,  -- DMA_CH_RESIDUE (14_noc_dma.md)
  ⟨0xc00020, [(64, 0x400)], [⟨31, 0, .ro, 0⟩]⟩,  -- DMA_CH_CNT_XFER (14_noc_dma.md)
  ⟨0xc00024, [(64, 0x400)], [⟨31, 0, .ro, 0⟩]⟩,  -- DMA_CH_CNT_HALT (14_noc_dma.md)
  ⟨0xc00028, [(64, 0x400)], [⟨31, 0, .ro, 0⟩]⟩,  -- DMA_CH_CNT_JOBGR (14_noc_dma.md)
  ⟨0xc00100, [(64, 0x400), (16, 0x4)], [⟨31, 0, .rw, 0⟩]⟩,  -- DMA_CH_SET0 (14_noc_dma.md)
  ⟨0xc00140, [(64, 0x400), (16, 0x4)], [⟨31, 0, .rw, 0⟩]⟩,  -- DMA_CH_SET1 (14_noc_dma.md)
  ⟨0xd00000, [], [⟨0, 0, .wo, 0⟩]⟩  -- ECC_CTRL (18_memory_integrity.md)
]

/-- Register descriptions, part 5. -/
def regDescs5 : List RegDesc := [
  ⟨0xd00004, [], [⟨11, 0, .rws, 0⟩, ⟨12, 12, .rws, 0⟩]⟩,  -- ECC_ERRQ (18_memory_integrity.md)
  ⟨0xd00008, [], [⟨0, 0, .ro, 0⟩, ⟨1, 1, .ro, 0⟩, ⟨14, 8, .ro, 0⟩]⟩,  -- ECC_FILL (18_memory_integrity.md)
  ⟨0xd00010, [], [⟨0, 0, .rw, 1⟩, ⟨23, 8, .rws, 0x40⟩]⟩,  -- ECC_SCRUB_CFG (18_memory_integrity.md)
  ⟨0xd00014, [], [⟨31, 0, .ro, 0⟩]⟩,  -- ECC_SCRUB_PASS (18_memory_integrity.md)
  ⟨0xd00018, [], [⟨31, 0, .ro, 0⟩]⟩,  -- ECC_SCRUB_POS_LO (18_memory_integrity.md)
  ⟨0xd0001c, [], [⟨7, 0, .ro, 0⟩]⟩,  -- ECC_SCRUB_POS_HI (18_memory_integrity.md)
  ⟨0xd00020, [], [⟨24, 0, .ro, 0⟩]⟩,  -- ECC_SCRUB_PENDING (18_memory_integrity.md)
  ⟨0xd00024, [], [⟨31, 0, .ro, 0⟩]⟩,  -- ECC_SCRUB_DEFER (18_memory_integrity.md)
  ⟨0xd00100, [(5, 0x20)], [⟨31, 0, .ro, 0⟩]⟩,  -- ECC_D_CNT_CE (18_memory_integrity.md)
  ⟨0xd00104, [(5, 0x20)], [⟨31, 0, .ro, 0⟩]⟩,  -- ECC_D_CNT_UE (18_memory_integrity.md)
  ⟨0xd00108, [(5, 0x20)], [⟨31, 0, .ro, 0⟩]⟩,  -- ECC_D_CNT_POISON (18_memory_integrity.md)
  ⟨0xd0010c, [(5, 0x20)], [⟨31, 0, .ro, 0⟩]⟩,  -- ECC_D_CNT_LOST (18_memory_integrity.md)
  ⟨0xd00110, [(5, 0x20)], [⟨31, 0, .ro, 0⟩]⟩,  -- ECC_D_CNT_ESC (18_memory_integrity.md)
  ⟨0xd00114, [(5, 0x20)], [⟨4, 0, .ro, 0⟩, ⟨8, 8, .ro, 0⟩, ⟨31, 16, .ro, 0⟩]⟩,  -- ECC_D_STORE (18_memory_integrity.md)
  ⟨0xd00200, [], [⟨0, 0, .rw, 0⟩, ⟨3, 1, .rwl, 0⟩, ⟨12, 4, .rwl, 0x1ff⟩, ⟨15, 13, .rwl, 0⟩]⟩,  -- ECC_FLIP_CFG (18_memory_integrity.md)
  ⟨0xd00204, [], [⟨31, 0, .rwl, 0⟩]⟩,  -- ECC_FLIP_DLO (18_memory_integrity.md)
  ⟨0xd00208, [], [⟨31, 0, .rwl, 0⟩]⟩,  -- ECC_FLIP_DHI (18_memory_integrity.md)
  ⟨0xd0020c, [], [⟨31, 0, .rwl, 0⟩]⟩,  -- ECC_FLIP_CHK (18_memory_integrity.md)
  ⟨0xd00210, [], [⟨0, 0, .w1c, 0⟩]⟩,  -- ECC_FLIP_STAT (18_memory_integrity.md)
  ⟨0xd00214, [], [⟨31, 0, .ro, 0⟩]⟩,  -- ECC_FLIP_ADDR_LO (18_memory_integrity.md)
  ⟨0xd00218, [], [⟨31, 0, .ro, 0⟩]⟩,  -- ECC_FLIP_ADDR_HI (18_memory_integrity.md)
  ⟨0xd0021c, [], [⟨31, 0, .ro, 0⟩]⟩,  -- ECC_FLIP_STAMP (18_memory_integrity.md)
  ⟨0xe00000, [(16, 0x10000)], [⟨0, 0, .rw, 0⟩, ⟨1, 1, .wo, 0⟩]⟩,  -- FH_CTRL (11_fronthaul.md)
  ⟨0xe00004, [(16, 0x10000)], [⟨1, 0, .ro, 0⟩, ⟨2, 2, .ro, 0⟩]⟩,  -- FH_STAT (11_fronthaul.md)
  ⟨0xe00008, [(16, 0x10000)], [⟨1, 0, .rwl, 0⟩, ⟨2, 2, .rwl, 0⟩, ⟨3, 3, .rwl, 0⟩, ⟨4, 4, .rwl, 1⟩, ⟨5, 5, .rwl, 1⟩, ⟨6, 6, .rwl, 0⟩, ⟨29, 16, .rwl, 0x2400⟩]⟩,  -- FH_CFG (11_fronthaul.md)
  ⟨0xe0000c, [(16, 0x10000)], [⟨31, 0, .rwl, 0⟩]⟩,  -- FH_MAC_LO (11_fronthaul.md)
  ⟨0xe00010, [(16, 0x10000)], [⟨15, 0, .rwl, 0⟩]⟩,  -- FH_MAC_HI (11_fronthaul.md)
  ⟨0xe00014, [(16, 0x10000)], [⟨11, 0, .rws, 0⟩, ⟨23, 12, .rws, 0⟩]⟩,  -- FH_POLICE (11_fronthaul.md)
  ⟨0xe00018, [(16, 0x10000)], [⟨9, 0, .rws, 0x64⟩, ⟨17, 10, .rws, 0x10⟩]⟩,  -- FH_POLICE_CTRL (11_fronthaul.md)
  ⟨0xe0001c, [(16, 0x10000)], [⟨15, 0, .rws, 0⟩, ⟨31, 16, .rws, 0⟩]⟩,  -- FH_HOST_ETYPE (11_fronthaul.md)
  ⟨0xe00020, [(16, 0x10000)], [⟨11, 0, .rws, 0⟩, ⟨12, 12, .rws, 0⟩]⟩,  -- FH_INQ (11_fronthaul.md)
  ⟨0xe00024, [(16, 0x10000)], [⟨11, 0, .rws, 0⟩, ⟨12, 12, .rws, 0⟩]⟩,  -- FH_OUTQ (11_fronthaul.md)
  ⟨0xe00028, [(16, 0x10000)], [⟨11, 0, .rws, 0⟩, ⟨12, 12, .rws, 0⟩, ⟨16, 13, .rws, 0⟩]⟩,  -- FH_WHEYQ (11_fronthaul.md)
  ⟨0xe0002c, [(16, 0x10000)], [⟨15, 0, .rws, 0⟩]⟩,  -- FH_PTP_ASYM (11_fronthaul.md)
  ⟨0xe00040, [(16, 0x10000), (8, 0x8)], [⟨31, 0, .rws, 0⟩]⟩,  -- FH_SMAC_LO (11_fronthaul.md)
  ⟨0xe00044, [(16, 0x10000), (8, 0x8)], [⟨15, 0, .rws, 0⟩, ⟨16, 16, .rws, 0⟩]⟩,  -- FH_SMAC_HI (11_fronthaul.md)
  ⟨0xe00080, [(16, 0x10000), (4, 0x4)], [⟨11, 0, .rws, 0⟩, ⟨27, 16, .rws, 0⟩, ⟨15, 15, .rws, 0⟩, ⟨31, 31, .rws, 0⟩]⟩,  -- FH_VLAN (11_fronthaul.md)
  ⟨0xe00200, [(16, 0x10000)], [⟨31, 0, .ro, 0⟩]⟩,  -- FH_WHEY_NOBUF (11_fronthaul.md)
  ⟨0xe00204, [(16, 0x10000)], [⟨31, 0, .ro, 0⟩]⟩,  -- FH_WHEY_MAC (11_fronthaul.md)
  ⟨0xe00208, [(16, 0x10000)], [⟨31, 0, .ro, 0⟩]⟩,  -- FH_WHEY_SEC (11_fronthaul.md)
  ⟨0xe0020c, [(16, 0x10000)], [⟨31, 0, .ro, 0⟩]⟩,  -- FH_WHEY_DMAC (11_fronthaul.md)
  ⟨0xe00210, [(16, 0x10000)], [⟨31, 0, .ro, 0⟩]⟩,  -- FH_WHEY_SMAC (11_fronthaul.md)
  ⟨0xe00214, [(16, 0x10000)], [⟨31, 0, .ro, 0⟩]⟩,  -- FH_WHEY_VLAN (11_fronthaul.md)
  ⟨0xe00218, [(16, 0x10000)], [⟨31, 0, .ro, 0⟩]⟩,  -- FH_WHEY_ETYPE (11_fronthaul.md)
  ⟨0xe0021c, [(16, 0x10000)], [⟨31, 0, .ro, 0⟩]⟩,  -- FH_WHEY_POLICE (11_fronthaul.md)
  ⟨0xe00220, [(16, 0x10000)], [⟨31, 0, .ro, 0⟩]⟩,  -- FH_WHEY_ECPRI (11_fronthaul.md)
  ⟨0xe00224, [(16, 0x10000)], [⟨31, 0, .ro, 0⟩]⟩,  -- FH_WHEY_EAXC (11_fronthaul.md)
  ⟨0xe00228, [(16, 0x10000)], [⟨31, 0, .ro, 0⟩]⟩  -- FH_WHEY_SEQ (11_fronthaul.md)
]

/-- Register descriptions, part 6. -/
def regDescs6 : List RegDesc := [
  ⟨0xe0022c, [(16, 0x10000)], [⟨31, 0, .ro, 0⟩]⟩,  -- FH_WHEY_HDR (11_fronthaul.md)
  ⟨0xe00230, [(16, 0x10000)], [⟨31, 0, .ro, 0⟩]⟩,  -- FH_WHEY_EARLY (11_fronthaul.md)
  ⟨0xe00234, [(16, 0x10000)], [⟨31, 0, .ro, 0⟩]⟩,  -- FH_WHEY_LATE (11_fronthaul.md)
  ⟨0xe00238, [(16, 0x10000)], [⟨31, 0, .ro, 0⟩]⟩,  -- FH_WHEY_NOORDER (11_fronthaul.md)
  ⟨0xe0023c, [(16, 0x10000)], [⟨31, 0, .ro, 0⟩]⟩,  -- FH_WHEY_CLOSED (11_fronthaul.md)
  ⟨0xe00240, [(16, 0x10000)], [⟨31, 0, .ro, 0⟩]⟩,  -- FH_WHEY_SECTION (11_fronthaul.md)
  ⟨0xe00244, [(16, 0x10000)], [⟨31, 0, .ro, 0⟩]⟩,  -- FH_WHEY_INQ (11_fronthaul.md)
  ⟨0xe00250, [(16, 0x10000)], [⟨31, 0, .ro, 0⟩]⟩,  -- FH_SEQ_GAP (11_fronthaul.md)
  ⟨0xe00254, [(16, 0x10000)], [⟨31, 0, .ro, 0⟩]⟩,  -- FH_RX_FRAMES (11_fronthaul.md)
  ⟨0xe00258, [(16, 0x10000)], [⟨31, 0, .ro, 0⟩]⟩,  -- FH_TX_FRAMES (11_fronthaul.md)
  ⟨0xe0025c, [(16, 0x10000)], [⟨31, 0, .ro, 0⟩]⟩,  -- FH_TX_MISSED (11_fronthaul.md)
  ⟨0xe00260, [(16, 0x10000)], [⟨31, 0, .ro, 0⟩]⟩,  -- FH_TX_HOST (11_fronthaul.md)
  ⟨0xe00264, [(16, 0x10000)], [⟨14, 0, .ro, 0x2000⟩, ⟨30, 16, .ro, 0x2000⟩]⟩,  -- FH_GRAN (11_fronthaul.md)
  ⟨0xe00300, [(16, 0x10000)], [⟨1, 0, .rws, 0⟩, ⟨7, 4, .rws, 0⟩, ⟨31, 16, .rws, 0⟩]⟩,  -- FH_SEC_CFG (11_fronthaul.md)
  ⟨0xe00320, [(16, 0x10000), (4, 0x40), (8, 0x4)], [⟨31, 0, .wo, 0⟩]⟩,  -- FH_SEC_SAK (11_fronthaul.md)
  ⟨0xe00400, [(16, 0x10000), (32, 0x20)], [⟨0, 0, .rwe, 0⟩, ⟨3, 1, .rwe, 0⟩, ⟨12, 4, .rwe, 0⟩, ⟨16, 13, .rwe, 0⟩, ⟨21, 17, .rwe, 0x10⟩, ⟨22, 22, .rwe, 0⟩, ⟨23, 23, .rwe, 1⟩]⟩,  -- FH_C_CFG (11_fronthaul.md)
  ⟨0xe00404, [(16, 0x10000), (32, 0x20)], [⟨31, 0, .rwe, 0⟩]⟩,  -- FH_C_MAC_LO (11_fronthaul.md)
  ⟨0xe00408, [(16, 0x10000), (32, 0x20)], [⟨15, 0, .rwe, 0⟩, ⟨27, 16, .rwe, 0⟩, ⟨30, 28, .rwe, 0⟩]⟩,  -- FH_C_MAC_HI (11_fronthaul.md)
  ⟨0xe0040c, [(16, 0x10000), (32, 0x20)], [⟨15, 0, .rwe, 0⟩, ⟨31, 16, .rwe, 0⟩]⟩,  -- FH_C_ULU (11_fronthaul.md)
  ⟨0xe00410, [(16, 0x10000), (32, 0x20)], [⟨15, 0, .rwe, 0⟩, ⟨31, 16, .rwe, 0⟩]⟩,  -- FH_C_DLU (11_fronthaul.md)
  ⟨0xe00414, [(16, 0x10000), (32, 0x20)], [⟨15, 0, .rwe, 0⟩, ⟨31, 16, .rwe, 0⟩]⟩,  -- FH_C_DLC (11_fronthaul.md)
  ⟨0xe00418, [(16, 0x10000), (32, 0x20)], [⟨15, 0, .rwe, 0⟩, ⟨31, 16, .rwe, 0⟩]⟩,  -- FH_C_ULC (11_fronthaul.md)
  ⟨0xe00800, [(16, 0x10000), (128, 0x4)], [⟨8, 0, .rwe, 0⟩, ⟨9, 9, .rwe, 0⟩, ⟨10, 10, .rwe, 0⟩, ⟨15, 11, .rwe, 0⟩, ⟨31, 16, .rwe, 0⟩]⟩,  -- FH_AXC (11_fronthaul.md)
  ⟨0x10c0000, [], [⟨0, 0, .wo, 0⟩]⟩,  -- FAB_CTRL (12_fabric.md)
  ⟨0x10c0004, [], [⟨9, 0, .ro, 0x3ff⟩, ⟨10, 10, .ro, 0⟩, ⟨11, 11, .ro, 0⟩]⟩,  -- FAB_MODNUM (12_fabric.md)
  ⟨0x10c0008, [], [⟨9, 0, .ro, 0x3ff⟩, ⟨10, 10, .ro, 0⟩]⟩,  -- FAB_COORD (12_fabric.md)
  ⟨0x10c000c, [], [⟨0, 0, .ro, 0⟩, ⟨1, 1, .ro, 0⟩, ⟨2, 2, .ro, 0⟩]⟩,  -- FAB_GEN (12_fabric.md)
  ⟨0x10c0010, [], [⟨5, 0, .rwe, 0x10⟩]⟩,  -- FAB_TTL (12_fabric.md)
  ⟨0x10c0020, [], [⟨31, 0, .ro, 0⟩]⟩,  -- FAB_CNT_EXPIRED (12_fabric.md)
  ⟨0x10c0024, [], [⟨31, 0, .ro, 0⟩]⟩,  -- FAB_CNT_TTL (12_fabric.md)
  ⟨0x10c0028, [], [⟨31, 0, .ro, 0⟩]⟩,  -- FAB_CNT_NOROUTE (12_fabric.md)
  ⟨0x10c002c, [], [⟨31, 0, .ro, 0⟩]⟩,  -- FAB_CNT_DOWN (12_fabric.md)
  ⟨0x10c0030, [], [⟨31, 0, .ro, 0⟩]⟩,  -- FAB_CNT_NOINPUT (12_fabric.md)
  ⟨0x10c0034, [], [⟨31, 0, .ro, 0⟩]⟩,  -- FAB_CNT_CLOSED (12_fabric.md)
  ⟨0x10c0038, [], [⟨31, 0, .ro, 0⟩]⟩,  -- FAB_CNT_BADHDR (12_fabric.md)
  ⟨0x10c003c, [], [⟨31, 0, .ro, 0⟩]⟩,  -- FAB_CNT_UNSCHED (12_fabric.md)
  ⟨0x10c0040, [], [⟨31, 0, .ro, 0⟩]⟩,  -- FAB_CNT_MOVE_DISC (12_fabric.md)
  ⟨0x1000000, [(12, 0x10000)], [⟨0, 0, .rw, 0⟩, ⟨1, 1, .wo, 0⟩, ⟨2, 2, .wo, 0⟩]⟩,  -- FL_CTRL (12_fabric.md)
  ⟨0x1000004, [(12, 0x10000)], [⟨2, 0, .ro, 0⟩, ⟨3, 3, .ro, 0⟩]⟩,  -- FL_STAT (12_fabric.md)
  ⟨0x1000008, [(12, 0x10000)], [⟨9, 0, .ro, 0x3ff⟩, ⟨10, 10, .ro, 0⟩, ⟨15, 12, .ro, 0⟩]⟩,  -- FL_PEER (12_fabric.md)
  ⟨0x100000c, [(12, 0x10000)], [⟨31, 0, .ro, 0⟩]⟩,  -- FL_PEER_SERIAL_LO (12_fabric.md)
  ⟨0x1000010, [(12, 0x10000)], [⟨31, 0, .ro, 0⟩]⟩,  -- FL_PEER_SERIAL_HI (12_fabric.md)
  ⟨0x1000014, [(12, 0x10000)], [⟨11, 0, .rws, 0⟩]⟩,  -- FL_POLICE (12_fabric.md)
  ⟨0x1000018, [(12, 0x10000)], [⟨15, 0, .rws, 0⟩]⟩,  -- FL_ASYM (12_fabric.md)
  ⟨0x100001c, [(12, 0x10000)], [⟨31, 0, .ro, 0⟩]⟩,  -- FL_DELAY (12_fabric.md)
  ⟨0x1000020, [(12, 0x10000)], [⟨31, 0, .ro, 0⟩]⟩,  -- FL_T_OFFSET (12_fabric.md)
  ⟨0x1000100, [(12, 0x10000)], [⟨31, 0, .ro, 0⟩]⟩,  -- FL_CNT_TX (12_fabric.md)
  ⟨0x1000104, [(12, 0x10000)], [⟨31, 0, .ro, 0⟩]⟩  -- FL_CNT_RX (12_fabric.md)
]

/-- Register descriptions, part 7. -/
def regDescs7 : List RegDesc := [
  ⟨0x1000108, [(12, 0x10000)], [⟨31, 0, .ro, 0⟩]⟩,  -- FL_CNT_RESEND (12_fabric.md)
  ⟨0x100010c, [(12, 0x10000)], [⟨31, 0, .ro, 0⟩]⟩,  -- FL_CNT_AUTH (12_fabric.md)
  ⟨0x1000110, [(12, 0x10000)], [⟨31, 0, .ro, 0⟩]⟩,  -- FL_CNT_CREDIT_OVR (12_fabric.md)
  ⟨0x1000114, [(12, 0x10000)], [⟨31, 0, .ro, 0⟩]⟩,  -- FL_CNT_HELLO_REJ (12_fabric.md)
  ⟨0x1000118, [(12, 0x10000)], [⟨31, 0, .ro, 0⟩]⟩,  -- FL_CNT_POLICE (12_fabric.md)
  ⟨0x1008000, [(12, 0x10000), (2, 0x1000), (1024, 0x4)], [⟨0, 0, .ro, 0⟩, ⟨10, 1, .ro, 0⟩]⟩,  -- FL_TT (12_fabric.md)
  ⟨0x1c00000, [(2, 0x1000), (1024, 0x4)], [⟨31, 0, .ro, 0xffffffff⟩]⟩,  -- ROUTE (12_fabric.md)
  ⟨0x1400000, [(145, 0x100)], [⟨1, 0, .rwl, 0⟩, ⟨2, 2, .rwl, 0⟩, ⟨3, 3, .rwl, 0⟩, ⟨5, 4, .rwl, 0⟩, ⟨6, 6, .rwl, 0⟩, ⟨7, 7, .wo, 0⟩]⟩,  -- LN_CTRL (13_serial_lanes.md)
  ⟨0x1400004, [(145, 0x100)], [⟨1, 0, .ro, 0⟩, ⟨2, 2, .ro, 0⟩, ⟨3, 3, .ro, 0⟩, ⟨4, 4, .ro, 0⟩, ⟨5, 5, .ro, 0⟩]⟩,  -- LN_STAT (13_serial_lanes.md)
  ⟨0x1400008, [(145, 0x100)], [⟨3, 0, .rwl, 8⟩, ⟨4, 4, .rwl, 1⟩, ⟨11, 8, .ro, 0⟩, ⟨14, 12, .rwl, 3⟩]⟩,  -- LN_EQ (13_serial_lanes.md)
  ⟨0x140000c, [(145, 0x100)], [⟨19, 0, .ro, 0⟩]⟩,  -- LN_LAT (13_serial_lanes.md)
  ⟨0x1400010, [(145, 0x100)], [⟨31, 0, .ro, 0⟩]⟩,  -- LN_CNT_ERR (13_serial_lanes.md)
  ⟨0x1400014, [(145, 0x100)], [⟨31, 0, .ro, 0⟩]⟩,  -- LN_CNT_PRBS (13_serial_lanes.md)
  ⟨0x1400018, [(145, 0x100)], [⟨31, 0, .ro, 0⟩]⟩,  -- LN_CNT_ALIGN_LOSS (13_serial_lanes.md)
  ⟨0x1400020, [(145, 0x100)], [⟨6, 0, .rw, 0⟩, ⟨14, 8, .rw, 0⟩, ⟨19, 16, .rw, 0⟩, ⟨21, 20, .rw, 0⟩, ⟨31, 31, .wo, 0⟩]⟩,  -- LN_MARGIN_CTRL (13_serial_lanes.md)
  ⟨0x1400024, [(145, 0x100)], [⟨0, 0, .ro, 0⟩, ⟨1, 1, .ro, 0⟩, ⟨31, 8, .ro, 0⟩]⟩,  -- LN_MARGIN_RES (13_serial_lanes.md)
  ⟨0x1800000, [], [⟨0, 0, .wo, 0⟩]⟩,  -- SP_CTRL (10_access_sensing.md)
  ⟨0x1800010, [], [⟨7, 0, .rws, 0x84⟩, ⟨15, 8, .rws, 0xc⟩, ⟨23, 16, .rws, 0x14⟩, ⟨31, 24, .rws, 0xcd⟩]⟩,  -- SE_DET (10_access_sensing.md)
  ⟨0x1800014, [], [⟨7, 0, .rws, 0xdc⟩, ⟨15, 8, .rws, 0xe8⟩, ⟨23, 16, .rws, 0x54⟩, ⟨27, 24, .rws, 6⟩]⟩,  -- SE_AGC (10_access_sensing.md)
  ⟨0x1800018, [], [⟨7, 0, .rws, 0x94⟩, ⟨8, 8, .rws, 1⟩]⟩,  -- SE_ED (10_access_sensing.md)
  ⟨0x1800020, [], [⟨31, 0, .rwl, 0⟩]⟩,  -- SE_LOG_LO (10_access_sensing.md)
  ⟨0x1800024, [], [⟨31, 0, .rwl, 0⟩]⟩,  -- SE_LOG_HI (10_access_sensing.md)
  ⟨0x1800028, [], [⟨4, 0, .rwl, 6⟩, ⟨8, 8, .rw, 0⟩]⟩,  -- SE_LOG_CFG (10_access_sensing.md)
  ⟨0x180002c, [], [⟨16, 0, .rw, 0⟩]⟩,  -- SE_LOG_HEAD (10_access_sensing.md)
  ⟨0x1800030, [], [⟨16, 0, .ro, 0⟩]⟩,  -- SE_LOG_TAIL (10_access_sensing.md)
  ⟨0x1800034, [], [⟨31, 0, .ro, 0⟩]⟩,  -- SE_LOG_DROPS (10_access_sensing.md)
  ⟨0x1800040, [], [⟨31, 0, .ro, 0⟩]⟩,  -- SE_J_JOBS (10_access_sensing.md)
  ⟨0x1800044, [], [⟨31, 0, .ro, 0⟩]⟩,  -- SE_J_GRANTS (10_access_sensing.md)
  ⟨0x1800048, [], [⟨7, 0, .ro, 0⟩]⟩,  -- SE_J_EXC (10_access_sensing.md)
  ⟨0x1801000, [(32, 0x40)], [⟨0, 0, .rws, 0⟩, ⟨4, 1, .rwl, 0⟩, ⟨6, 5, .rwl, 0⟩, ⟨31, 16, .rwl, 0⟩]⟩,  -- SE_S_CFG (10_access_sensing.md)
  ⟨0x1801004, [(32, 0x40)], [⟨31, 0, .rwl, 0⟩]⟩,  -- SE_S_CENTER (10_access_sensing.md)
  ⟨0x1801008, [(32, 0x40)], [⟨23, 0, .rwl, 0⟩]⟩,  -- SE_S_LAT (10_access_sensing.md)
  ⟨0x180100c, [(32, 0x40)], [⟨2, 0, .ro, 0⟩, ⟨15, 8, .ro, 0⟩]⟩,  -- SE_S_STAT (10_access_sensing.md)
  ⟨0x1801010, [(32, 0x40)], [⟨31, 0, .ro, 0⟩]⟩,  -- SE_S_CFO (10_access_sensing.md)
  ⟨0x1801014, [(32, 0x40)], [⟨31, 0, .ro, 0⟩]⟩,  -- SE_S_STARTS (10_access_sensing.md)
  ⟨0x1801018, [(32, 0x40)], [⟨31, 0, .ro, 0⟩]⟩,  -- SE_S_FALSE_DET (10_access_sensing.md)
  ⟨0x180101c, [(32, 0x40)], [⟨31, 0, .ro, 0⟩]⟩,  -- SE_S_CAPTURED (10_access_sensing.md)
  ⟨0x1801020, [(32, 0x40)], [⟨31, 0, .ro, 0⟩]⟩,  -- SE_S_NO_QUAL (10_access_sensing.md)
  ⟨0x1801024, [(32, 0x40)], [⟨31, 0, .ro, 0⟩]⟩,  -- SE_S_SIG_FAIL (10_access_sensing.md)
  ⟨0x1801028, [(32, 0x40)], [⟨31, 0, .ro, 0⟩]⟩,  -- SE_S_GAPS (10_access_sensing.md)
  ⟨0x180102c, [(32, 0x40)], [⟨31, 0, .ro, 0⟩]⟩,  -- SE_S_BUSY_SLOTS (10_access_sensing.md)
  ⟨0x1802000, [(32, 0x10)], [⟨0, 0, .rws, 0⟩, ⟨10, 1, .rws, 0⟩, ⟨20, 11, .rws, 0⟩]⟩,  -- SE_G_CFG (10_access_sensing.md)
  ⟨0x1802004, [(32, 0x10)], [⟨13, 0, .rws, 0⟩]⟩,  -- SE_G_COT (10_access_sensing.md)
  ⟨0x1802008, [(32, 0x10)], [⟨31, 0, .ro, 0⟩]⟩,  -- SE_G_WIN (10_access_sensing.md)
  ⟨0x180200c, [(32, 0x10)], [⟨31, 0, .ro, 0⟩]⟩,  -- SE_G_HELD (10_access_sensing.md)
  ⟨0x1803f00, [], [⟨3, 0, .rw, 0⟩]⟩,  -- PX_FENCE (10_access_sensing.md)
  ⟨0x1803f04, [], [⟨3, 0, .ro, 0⟩, ⟨4, 4, .ro, 0⟩]⟩,  -- PX_FENCE_STAT (10_access_sensing.md)
  ⟨0x1804000, [(4, 0x40)], [⟨1, 0, .ro, 0⟩]⟩  -- PX_STAT (10_access_sensing.md)
]

/-- Register descriptions, part 8. -/
def regDescs8 : List RegDesc := [
  ⟨0x1804004, [(4, 0x40)], [⟨31, 0, .ro, 0⟩]⟩,  -- PX_CUR (10_access_sensing.md)
  ⟨0x1804008, [(4, 0x40)], [⟨7, 0, .ro, 0⟩]⟩,  -- PX_EXC (10_access_sensing.md)
  ⟨0x180400c, [(4, 0x40)], [⟨31, 0, .ro, 0⟩]⟩,  -- PX_EXC_HANDLE (10_access_sensing.md)
  ⟨0x1804010, [(4, 0x40)], [⟨31, 0, .ro, 0⟩]⟩,  -- PX_CNT_JOBS (10_access_sensing.md)
  ⟨0x1804014, [(4, 0x40)], [⟨31, 0, .ro, 0⟩]⟩,  -- PX_CNT_DET (10_access_sensing.md)
  ⟨0x1804018, [(4, 0x40)], [⟨31, 0, .ro, 0⟩]⟩,  -- PX_CNT_EXC (10_access_sensing.md)
  ⟨0x180403c, [(4, 0x40)], [⟨0, 0, .wo, 0⟩]⟩,  -- PX_CLR (10_access_sensing.md)
  ⟨0x1a00000, [(5, 0x40)], [⟨1, 0, .ro, 0⟩, ⟨2, 2, .ro, 0⟩, ⟨15, 8, .ro, 0⟩]⟩,  -- LR_STAT (17_logic_regions.md)
  ⟨0x1a00004, [(5, 0x40)], [⟨31, 0, .ro, 0⟩]⟩,  -- LR_ID (17_logic_regions.md)
  ⟨0x1a00008, [(5, 0x40)], [⟨31, 0, .ro, 0⟩]⟩,  -- LR_VER (17_logic_regions.md)
  ⟨0x1a0000c, [(5, 0x40)], [⟨7, 0, .ro, 0⟩, ⟨15, 8, .ro, 0⟩]⟩,  -- LR_CAP (17_logic_regions.md)
  ⟨0x1a00010, [(5, 0x40)], [⟨31, 0, .ro, 0⟩]⟩,  -- LR_CNT_REPAIR (17_logic_regions.md)
  ⟨0x1a00014, [(5, 0x40)], [⟨31, 0, .ro, 0⟩]⟩,  -- LR_CNT_GFIX (17_logic_regions.md)
  ⟨0x1a00018, [(5, 0x40)], [⟨31, 0, .ro, 0⟩]⟩,  -- LR_CNT_CMD (17_logic_regions.md)
  ⟨0x1a0003c, [(5, 0x40)], [⟨0, 0, .wo, 0⟩]⟩,  -- LR_CLR (17_logic_regions.md)
  ⟨0x1a00400, [], [⟨0, 0, .rw, 1⟩, ⟨15, 8, .rws, 4⟩]⟩,  -- LR_SCRUB_CFG (17_logic_regions.md)
  ⟨0x1a00404, [], [⟨31, 0, .ro, 0⟩]⟩,  -- LR_SCRUB_PASS (17_logic_regions.md)
  ⟨0x1a00408, [], [⟨31, 0, .ro, 0⟩]⟩,  -- LR_SCRUB_VOTES (17_logic_regions.md)
  ⟨0x1a0040c, [], [⟨31, 0, .ro, 0⟩]⟩,  -- LR_SCRUB_RESTARTS (17_logic_regions.md)
  ⟨0x1a00500, [], [⟨3, 0, .ro, 0⟩, ⟨15, 8, .ro, 0⟩, ⟨18, 16, .ro, 7⟩, ⟨19, 19, .ro, 0⟩]⟩,  -- LR_LOAD_STAT (17_logic_regions.md)
  ⟨0x207c000, [(4, 0x800000), (16, 0x80000), (4, 0x100)], [⟨1, 0, .ro, 0⟩, ⟨2, 2, .ro, 0⟩]⟩,  -- CORE_STAT (06_dsp_core.md)
  ⟨0x207c004, [(4, 0x800000), (16, 0x80000), (4, 0x100)], [⟨31, 0, .ro, 0⟩]⟩,  -- CORE_CUR (06_dsp_core.md)
  ⟨0x207c008, [(4, 0x800000), (16, 0x80000), (4, 0x100)], [⟨7, 0, .ro, 0⟩, ⟨10, 8, .ro, 0⟩]⟩,  -- CORE_EXC (06_dsp_core.md)
  ⟨0x207c00c, [(4, 0x800000), (16, 0x80000), (4, 0x100)], [⟨31, 0, .ro, 0⟩]⟩,  -- CORE_EXC_PC (06_dsp_core.md)
  ⟨0x207c010, [(4, 0x800000), (16, 0x80000), (4, 0x100)], [⟨31, 0, .ro, 0⟩]⟩,  -- CORE_EXC_HANDLE (06_dsp_core.md)
  ⟨0x207c014, [(4, 0x800000), (16, 0x80000), (4, 0x100)], [⟨31, 0, .ro, 0⟩]⟩,  -- CORE_EXC_STAMP (06_dsp_core.md)
  ⟨0x207c018, [(4, 0x800000), (16, 0x80000), (4, 0x100)], [⟨1, 0, .ro, 0⟩, ⟨12, 8, .ro, 0⟩]⟩,  -- CORE_LATE (06_dsp_core.md)
  ⟨0x207c01c, [(4, 0x800000), (16, 0x80000), (4, 0x100)], [⟨31, 0, .ro, 0⟩]⟩,  -- CORE_LATE_PC (06_dsp_core.md)
  ⟨0x207c020, [(4, 0x800000), (16, 0x80000), (4, 0x100)], [⟨31, 0, .ro, 0⟩]⟩,  -- CORE_CNT_EXC (06_dsp_core.md)
  ⟨0x207c024, [(4, 0x800000), (16, 0x80000), (4, 0x100)], [⟨31, 0, .ro, 0⟩]⟩,  -- CORE_CNT_COLL (06_dsp_core.md)
  ⟨0x207c028, [(4, 0x800000), (16, 0x80000), (4, 0x100)], [⟨31, 0, .ro, 0⟩]⟩,  -- CORE_CNT_LATE (06_dsp_core.md)
  ⟨0x207c02c, [(4, 0x800000), (16, 0x80000), (4, 0x100)], [⟨31, 0, .ro, 0⟩]⟩,  -- CORE_CNT_ROMCE (06_dsp_core.md)
  ⟨0x207c030, [(4, 0x800000), (16, 0x80000), (4, 0x100)], [⟨31, 0, .ro, 0⟩]⟩,  -- CORE_CNT_SQUASH (06_dsp_core.md)
  ⟨0x207c034, [(4, 0x800000), (16, 0x80000), (4, 0x100)], [⟨31, 0, .ro, 0⟩]⟩,  -- CORE_CNT_CURDS (06_dsp_core.md)
  ⟨0x207c03c, [(4, 0x800000), (16, 0x80000), (4, 0x100)], [⟨0, 0, .wo, 0⟩]⟩,  -- CORE_CLR (06_dsp_core.md)
  ⟨0x207d000, [(4, 0x800000), (16, 0x80000)], [⟨1, 0, .ro, 0⟩]⟩,  -- BMU_STAT (07_uplink.md)
  ⟨0x207d004, [(4, 0x800000), (16, 0x80000)], [⟨31, 0, .ro, 0⟩]⟩,  -- BMU_CUR (07_uplink.md)
  ⟨0x207d008, [(4, 0x800000), (16, 0x80000)], [⟨7, 0, .ro, 0⟩, ⟨19, 8, .ro, 0⟩]⟩,  -- BMU_EXC (07_uplink.md)
  ⟨0x207d00c, [(4, 0x800000), (16, 0x80000)], [⟨31, 0, .ro, 0⟩]⟩,  -- BMU_EXC_HANDLE (07_uplink.md)
  ⟨0x207d010, [(4, 0x800000), (16, 0x80000)], [⟨31, 0, .ro, 0⟩]⟩,  -- BMU_CNT_JOBS (07_uplink.md)
  ⟨0x207d014, [(4, 0x800000), (16, 0x80000)], [⟨31, 0, .ro, 0⟩]⟩,  -- BMU_CNT_SAT (07_uplink.md)
  ⟨0x207d018, [(4, 0x800000), (16, 0x80000)], [⟨31, 0, .ro, 0⟩]⟩,  -- BMU_CNT_NOTPD (07_uplink.md)
  ⟨0x207d01c, [(4, 0x800000), (16, 0x80000)], [⟨31, 0, .ro, 0⟩]⟩,  -- BMU_CNT_EXC (07_uplink.md)
  ⟨0x207d03c, [(4, 0x800000), (16, 0x80000)], [⟨0, 0, .wo, 0⟩]⟩,  -- BMU_CLR (07_uplink.md)
  ⟨0x207e000, [(4, 0x800000), (16, 0x80000), (4, 0x40)], [⟨1, 0, .ro, 0⟩, ⟨2, 2, .ro, 0⟩, ⟨3, 3, .ro, 0⟩, ⟨5, 4, .ro, 0⟩, ⟨15, 8, .ro, 0⟩]⟩,  -- TDMA_STAT (14_noc_dma.md)
  ⟨0x207e004, [(4, 0x800000), (16, 0x80000), (4, 0x40)], [⟨31, 0, .ro, 0⟩]⟩,  -- TDMA_DONE (14_noc_dma.md)
  ⟨0x207e008, [(4, 0x800000), (16, 0x80000), (4, 0x40)], [⟨31, 0, .ro, 0⟩]⟩,  -- TDMA_CNT_XFER (14_noc_dma.md)
  ⟨0x207e00c, [(4, 0x800000), (16, 0x80000), (4, 0x40)], [⟨31, 0, .ro, 0⟩]⟩  -- TDMA_CNT_ABORT (14_noc_dma.md)
]

/-- Register descriptions, part 9. -/
def regDescs9 : List RegDesc := [
  ⟨0x207e800, [(4, 0x800000), (16, 0x80000)], [⟨1, 0, .ro, 0⟩]⟩,  -- NOC_PORT (14_noc_dma.md)
  ⟨0x207e804, [(4, 0x800000), (16, 0x80000)], [⟨31, 0, .ro, 0⟩]⟩,  -- NOC_CNT_PROXY (14_noc_dma.md)
  ⟨0x207e808, [(4, 0x800000), (16, 0x80000)], [⟨31, 0, .ro, 0⟩]⟩  -- NOC_CNT_DISCARD (14_noc_dma.md)
]

/-- Every register description, in the order of `RegId`. DESIGN CHOICE, log entry 3. -/
def regDescs : List RegDesc :=
  regDescs1 ++ regDescs2 ++ regDescs3 ++ regDescs4 ++ regDescs5 ++ regDescs6 ++ regDescs7 ++ regDescs8 ++ regDescs9

/-- Register kinds, part 1. -/
def regIds1 : List RegId := [
  .GLOBAL_ID, .GLOBAL_SERIAL_LO, .GLOBAL_SERIAL_HI, .GLOBAL_CAVEWIN, .GLOBAL_DIESTAT, .GLOBAL_WERR, .GLOBAL_WERR_CNT, .STEWARD_STAT,
  .STEWARD_CAUSE, .MGMT_CFG, .MGMT_IP, .MGMT_MAC_LO, .MGMT_MAC_HI, .MGMT_CNT_RX, .MGMT_CNT_RUNT, .MGMT_CNT_AUTH,
  .MGMT_CNT_POLICE, .MGMT_CNT_HDR, .MGMT_CNT_EVLOST, .GLOBAL_BOOT, .GLOBAL_BOOT_TIME, .GLOBAL_BOOT_CTRL, .GLOBAL_DIE_CTRL, .GLOBAL_ISO_CAUSE,
  .GLOBAL_RST, .GLOBAL_RESET_CAUSE, .DL_PORT, .DL_CNT_PROXY, .DL_CNT_DISCARD, .NOC_DRAIN, .CMD_PAIR_CFG, .CMD_PAIR_MSIX,
  .CMD_PAIR_STAT, .CMD_PAIR_CNT, .TIME_CTRL, .TIME_STAT, .TIME_NS_LO, .TIME_NS_HI, .TIME_FRAC, .TIME_INCR_FRAC,
  .TIME_INCR_NS, .TIME_STEP_LO, .TIME_STEP_HI, .TIME_FRAME_OFS, .TIME_FRAME_BASE_LO, .TIME_FRAME_BASE_HI, .TIME_SERVO, .TIME_SLEW
]

/-- Register kinds, part 2. -/
def regIds2 : List RegId := [
  .TIME_HO_SPEC, .TIME_PHASE, .TIME_FREQ, .TIME_SRC_EN, .TIME_PTP, .TIME_PPS, .TIME_PPS_Q, .TIME_UTC,
  .TIME_FREQ_SRC, .TIME_SYNCE_OUT, .TIME_CNT_SWITCH, .TIME_CNT_HOLDOVER, .TIME_CNT_LOSS, .TIME_LPRIO, .TIME_PTP_PORT, .TIME_SRC_STAT,
  .TRIG_CFG, .TRIG_POP, .TRIG_TS_LO, .TRIG_TS_HI, .TRIG_TS_INFO, .TRIG_CNT_OVF, .TPO_CTRL, .TPO_STAT,
  .TPO_START_LO, .TPO_START_HI, .TPO_PERIOD_LO, .TPO_PERIOD_HI, .TPO_WIDTH, .TPO_OFS, .TPO_MASK0, .TPO_MASK1,
  .TPO_MASK2, .DAC_CFG, .DAC_QUEUE, .DAC_STAT, .DAC_CODE, .DAC_HO, .DAC_HO_SET, .DAC_KSENS,
  .DAC_TAU, .DAC_CODE_MIN, .DAC_CODE_MAX, .DAC_CTRL, .DAC_CNT_OVF, .DAC_CNT_UNDER, .DAC_CNT_HO_WR, .POWER_CTRL
]

/-- Register kinds, part 3. -/
def regIds3 : List RegId := [
  .POWER_STAT, .POWER_DOM, .POWER_TILES_LO, .POWER_TILES_HI, .POWER_PADS, .POWER_STEP, .POWER_FEED, .POWER_WAKE,
  .POWER_LAST, .POWER_LAST_STAMP, .POWER_CNT, .KEEPER_STAT, .KEEPER_REVOKED, .KEEPER_LAST, .KEEPER_CNT_VERIFY, .KEEPER_CNT_FAIL,
  .KEEPER_CNT_BAR4, .DBG_SESS, .DBG_SESS_SRC, .DBG_SESS_IP, .DBG_CTRL, .DBG_CNT_OPEN, .DBG_CNT_REFUSED, .DBG_CNT_EXPIRED,
  .Q_CFG, .Q_CTRL, .Q_STAT, .Q_BASE, .Q_HEAD, .Q_TAIL, .Q_HELD, .Q_DROPS,
  .Q_HOSTRING_LO, .Q_HOSTRING_HI, .LEDGER_SEL, .LEDGER_SEL2, .LEDGER_SNAP, .LEDGER_BREACHES, .LEDGER_LAST_QTY, .LEDGER_LAST_STAMP,
  .LEDGER_LAST_DELTA, .LEDGER_SUM, .RENNET_CTRL, .RENNET_MARGIN, .RENNET_NOW, .RENNET_FIRST_OPEN, .RENNET_ACCEPTS, .RENNET_REJ_CAP
]

/-- Register kinds, part 4. -/
def regIds4 : List RegId := [
  .RENNET_REJ_WIN, .RENNET_REJ_GRAPH, .RENNET_REJ_LEASE, .RENNET_INFLIGHT, .RENNET_DEC_MAX, .RENNET_COLSEL, .RENNET_COLCAP, .RENNET_COLRES,
  .DISP_CTRL, .DISP_TRACE_CFG, .DISP_TRACE_Q, .DISP_TRACE_DROPS, .DISP_STORE, .DISP_STORE_MAX, .DISP_READY, .DISP_UNSTARTED,
  .DISP_RELEASE_FLT, .DISP_STRAY, .DISP_STAGED, .DISP_STAGE_UNUSED, .DISP_WAIT_LO, .DISP_WAIT_HI, .ENG_FENCE, .ENG_FENCE_STAT,
  .ENG_STAT, .ENG_CUR, .ENG_EXC, .ENG_EXC_HANDLE, .ENG_CNT_JOBS, .ENG_CNT_CB, .ENG_CNT_ITER, .ENG_CNT_CBFAIL,
  .ENG_CNT_EXC, .ENG_CNT_FAULT, .ENG_CNT_MISMATCH, .ENG_CNT_CLIP, .ENG_CLR, .DMA_CH_CFG, .DMA_CH_CTRL, .DMA_CH_STAT,
  .DMA_CH_DONE, .DMA_CH_RESIDUE, .DMA_CH_CNT_XFER, .DMA_CH_CNT_HALT, .DMA_CH_CNT_JOBGR, .DMA_CH_SET0, .DMA_CH_SET1, .ECC_CTRL
]

/-- Register kinds, part 5. -/
def regIds5 : List RegId := [
  .ECC_ERRQ, .ECC_FILL, .ECC_SCRUB_CFG, .ECC_SCRUB_PASS, .ECC_SCRUB_POS_LO, .ECC_SCRUB_POS_HI, .ECC_SCRUB_PENDING, .ECC_SCRUB_DEFER,
  .ECC_D_CNT_CE, .ECC_D_CNT_UE, .ECC_D_CNT_POISON, .ECC_D_CNT_LOST, .ECC_D_CNT_ESC, .ECC_D_STORE, .ECC_FLIP_CFG, .ECC_FLIP_DLO,
  .ECC_FLIP_DHI, .ECC_FLIP_CHK, .ECC_FLIP_STAT, .ECC_FLIP_ADDR_LO, .ECC_FLIP_ADDR_HI, .ECC_FLIP_STAMP, .FH_CTRL, .FH_STAT,
  .FH_CFG, .FH_MAC_LO, .FH_MAC_HI, .FH_POLICE, .FH_POLICE_CTRL, .FH_HOST_ETYPE, .FH_INQ, .FH_OUTQ,
  .FH_WHEYQ, .FH_PTP_ASYM, .FH_SMAC_LO, .FH_SMAC_HI, .FH_VLAN, .FH_WHEY_NOBUF, .FH_WHEY_MAC, .FH_WHEY_SEC,
  .FH_WHEY_DMAC, .FH_WHEY_SMAC, .FH_WHEY_VLAN, .FH_WHEY_ETYPE, .FH_WHEY_POLICE, .FH_WHEY_ECPRI, .FH_WHEY_EAXC, .FH_WHEY_SEQ
]

/-- Register kinds, part 6. -/
def regIds6 : List RegId := [
  .FH_WHEY_HDR, .FH_WHEY_EARLY, .FH_WHEY_LATE, .FH_WHEY_NOORDER, .FH_WHEY_CLOSED, .FH_WHEY_SECTION, .FH_WHEY_INQ, .FH_SEQ_GAP,
  .FH_RX_FRAMES, .FH_TX_FRAMES, .FH_TX_MISSED, .FH_TX_HOST, .FH_GRAN, .FH_SEC_CFG, .FH_SEC_SAK, .FH_C_CFG,
  .FH_C_MAC_LO, .FH_C_MAC_HI, .FH_C_ULU, .FH_C_DLU, .FH_C_DLC, .FH_C_ULC, .FH_AXC, .FAB_CTRL,
  .FAB_MODNUM, .FAB_COORD, .FAB_GEN, .FAB_TTL, .FAB_CNT_EXPIRED, .FAB_CNT_TTL, .FAB_CNT_NOROUTE, .FAB_CNT_DOWN,
  .FAB_CNT_NOINPUT, .FAB_CNT_CLOSED, .FAB_CNT_BADHDR, .FAB_CNT_UNSCHED, .FAB_CNT_MOVE_DISC, .FL_CTRL, .FL_STAT, .FL_PEER,
  .FL_PEER_SERIAL_LO, .FL_PEER_SERIAL_HI, .FL_POLICE, .FL_ASYM, .FL_DELAY, .FL_T_OFFSET, .FL_CNT_TX, .FL_CNT_RX
]

/-- Register kinds, part 7. -/
def regIds7 : List RegId := [
  .FL_CNT_RESEND, .FL_CNT_AUTH, .FL_CNT_CREDIT_OVR, .FL_CNT_HELLO_REJ, .FL_CNT_POLICE, .FL_TT, .ROUTE, .LN_CTRL,
  .LN_STAT, .LN_EQ, .LN_LAT, .LN_CNT_ERR, .LN_CNT_PRBS, .LN_CNT_ALIGN_LOSS, .LN_MARGIN_CTRL, .LN_MARGIN_RES,
  .SP_CTRL, .SE_DET, .SE_AGC, .SE_ED, .SE_LOG_LO, .SE_LOG_HI, .SE_LOG_CFG, .SE_LOG_HEAD,
  .SE_LOG_TAIL, .SE_LOG_DROPS, .SE_J_JOBS, .SE_J_GRANTS, .SE_J_EXC, .SE_S_CFG, .SE_S_CENTER, .SE_S_LAT,
  .SE_S_STAT, .SE_S_CFO, .SE_S_STARTS, .SE_S_FALSE_DET, .SE_S_CAPTURED, .SE_S_NO_QUAL, .SE_S_SIG_FAIL, .SE_S_GAPS,
  .SE_S_BUSY_SLOTS, .SE_G_CFG, .SE_G_COT, .SE_G_WIN, .SE_G_HELD, .PX_FENCE, .PX_FENCE_STAT, .PX_STAT
]

/-- Register kinds, part 8. -/
def regIds8 : List RegId := [
  .PX_CUR, .PX_EXC, .PX_EXC_HANDLE, .PX_CNT_JOBS, .PX_CNT_DET, .PX_CNT_EXC, .PX_CLR, .LR_STAT,
  .LR_ID, .LR_VER, .LR_CAP, .LR_CNT_REPAIR, .LR_CNT_GFIX, .LR_CNT_CMD, .LR_CLR, .LR_SCRUB_CFG,
  .LR_SCRUB_PASS, .LR_SCRUB_VOTES, .LR_SCRUB_RESTARTS, .LR_LOAD_STAT, .CORE_STAT, .CORE_CUR, .CORE_EXC, .CORE_EXC_PC,
  .CORE_EXC_HANDLE, .CORE_EXC_STAMP, .CORE_LATE, .CORE_LATE_PC, .CORE_CNT_EXC, .CORE_CNT_COLL, .CORE_CNT_LATE, .CORE_CNT_ROMCE,
  .CORE_CNT_SQUASH, .CORE_CNT_CURDS, .CORE_CLR, .BMU_STAT, .BMU_CUR, .BMU_EXC, .BMU_EXC_HANDLE, .BMU_CNT_JOBS,
  .BMU_CNT_SAT, .BMU_CNT_NOTPD, .BMU_CNT_EXC, .BMU_CLR, .TDMA_STAT, .TDMA_DONE, .TDMA_CNT_XFER, .TDMA_CNT_ABORT
]

/-- Register kinds, part 9. -/
def regIds9 : List RegId := [
  .NOC_PORT, .NOC_CNT_PROXY, .NOC_CNT_DISCARD
]

/-- Every register kind, in the order of `RegId`. -/
def regIds : List RegId :=
  regIds1 ++ regIds2 ++ regIds3 ++ regIds4 ++ regIds5 ++ regIds6 ++ regIds7 ++ regIds8 ++ regIds9

/-- A named field of a register kind. -/
structure Fld where
  reg : RegId
  hi : Nat
  lo : Nat
  deriving DecidableEq, Repr

namespace Fld
@[reducible] def GLOBAL_ID_PART : Fld := ⟨.GLOBAL_ID, 15, 0⟩
@[reducible] def GLOBAL_ID_STEPPING : Fld := ⟨.GLOBAL_ID, 23, 16⟩
@[reducible] def GLOBAL_CAVEWIN_BASE : Fld := ⟨.GLOBAL_CAVEWIN, 7, 0⟩
@[reducible] def GLOBAL_DIESTAT_CD0 : Fld := ⟨.GLOBAL_DIESTAT, 1, 0⟩
@[reducible] def GLOBAL_DIESTAT_CD1 : Fld := ⟨.GLOBAL_DIESTAT, 3, 2⟩
@[reducible] def GLOBAL_DIESTAT_CD2 : Fld := ⟨.GLOBAL_DIESTAT, 5, 4⟩
@[reducible] def GLOBAL_DIESTAT_CD3 : Fld := ⟨.GLOBAL_DIESTAT, 7, 6⟩
@[reducible] def GLOBAL_WERR_OFFSET : Fld := ⟨.GLOBAL_WERR, 25, 0⟩
@[reducible] def GLOBAL_WERR_SOURCE : Fld := ⟨.GLOBAL_WERR, 28, 26⟩
@[reducible] def GLOBAL_WERR_BAR : Fld := ⟨.GLOBAL_WERR, 29, 29⟩
@[reducible] def GLOBAL_WERR_MORE : Fld := ⟨.GLOBAL_WERR, 30, 30⟩
@[reducible] def GLOBAL_WERR_VALID : Fld := ⟨.GLOBAL_WERR, 31, 31⟩
@[reducible] def STEWARD_STAT_STATE : Fld := ⟨.STEWARD_STAT, 1, 0⟩
@[reducible] def STEWARD_STAT_PAIR : Fld := ⟨.STEWARD_STAT, 2, 2⟩
@[reducible] def STEWARD_STAT_DEGRADED : Fld := ⟨.STEWARD_STAT, 3, 3⟩
@[reducible] def STEWARD_STAT_BANK : Fld := ⟨.STEWARD_STAT, 4, 4⟩
@[reducible] def STEWARD_STAT_TRIAL : Fld := ⟨.STEWARD_STAT, 5, 5⟩
@[reducible] def STEWARD_STAT_RESTARTS : Fld := ⟨.STEWARD_STAT, 31, 16⟩
@[reducible] def STEWARD_CAUSE_CAUSE : Fld := ⟨.STEWARD_CAUSE, 7, 0⟩
@[reducible] def MGMT_CFG_EN : Fld := ⟨.MGMT_CFG, 0, 0⟩
@[reducible] def MGMT_CFG_MODE : Fld := ⟨.MGMT_CFG, 1, 1⟩
@[reducible] def MGMT_CFG_JUMBO : Fld := ⟨.MGMT_CFG, 2, 2⟩
@[reducible] def MGMT_CFG_UDP : Fld := ⟨.MGMT_CFG, 31, 16⟩
@[reducible] def MGMT_MAC_HI_MAC : Fld := ⟨.MGMT_MAC_HI, 15, 0⟩
@[reducible] def GLOBAL_BOOT_STEP : Fld := ⟨.GLOBAL_BOOT, 3, 0⟩
@[reducible] def GLOBAL_BOOT_FAIL : Fld := ⟨.GLOBAL_BOOT, 15, 8⟩
@[reducible] def GLOBAL_BOOT_UNIT : Fld := ⟨.GLOBAL_BOOT, 19, 16⟩
@[reducible] def GLOBAL_BOOT_ATTEMPT : Fld := ⟨.GLOBAL_BOOT, 23, 20⟩
@[reducible] def GLOBAL_BOOT_CTRL_TIME_GO : Fld := ⟨.GLOBAL_BOOT_CTRL, 0, 0⟩
@[reducible] def GLOBAL_BOOT_CTRL_TIME_WAIT : Fld := ⟨.GLOBAL_BOOT_CTRL, 15, 8⟩
@[reducible] def GLOBAL_DIE_CTRL_READMIT : Fld := ⟨.GLOBAL_DIE_CTRL, 3, 0⟩
@[reducible] def GLOBAL_DIE_CTRL_REFUSED : Fld := ⟨.GLOBAL_DIE_CTRL, 7, 4⟩
@[reducible] def GLOBAL_ISO_CAUSE_CD0_to_CD3 : Fld := ⟨.GLOBAL_ISO_CAUSE, 7, 0⟩
@[reducible] def GLOBAL_ISO_CAUSE_CD0_to_CD3_8 : Fld := ⟨.GLOBAL_ISO_CAUSE, 15, 8⟩
@[reducible] def GLOBAL_ISO_CAUSE_CD0_to_CD3_16 : Fld := ⟨.GLOBAL_ISO_CAUSE, 23, 16⟩
@[reducible] def GLOBAL_ISO_CAUSE_CD0_to_CD3_24 : Fld := ⟨.GLOBAL_ISO_CAUSE, 31, 24⟩
@[reducible] def GLOBAL_RST_MODULE : Fld := ⟨.GLOBAL_RST, 0, 0⟩
@[reducible] def GLOBAL_RESET_CAUSE_CAUSE : Fld := ⟨.GLOBAL_RESET_CAUSE, 2, 0⟩
@[reducible] def DL_PORT_STATE : Fld := ⟨.DL_PORT, 1, 0⟩
@[reducible] def NOC_DRAIN_TIMEOUT : Fld := ⟨.NOC_DRAIN, 11, 0⟩
@[reducible] def CMD_PAIR_CFG_ORDER_Q : Fld := ⟨.CMD_PAIR_CFG, 11, 0⟩
@[reducible] def CMD_PAIR_CFG_REPLY_Q : Fld := ⟨.CMD_PAIR_CFG, 23, 12⟩
@[reducible] def CMD_PAIR_CFG_EN : Fld := ⟨.CMD_PAIR_CFG, 31, 31⟩
@[reducible] def CMD_PAIR_MSIX_VECTOR : Fld := ⟨.CMD_PAIR_MSIX, 10, 0⟩
@[reducible] def CMD_PAIR_MSIX_EV_MSIX : Fld := ⟨.CMD_PAIR_MSIX, 11, 11⟩
@[reducible] def CMD_PAIR_STAT_STALL : Fld := ⟨.CMD_PAIR_STAT, 0, 0⟩
@[reducible] def CMD_PAIR_STAT_SUBSCRIBED : Fld := ⟨.CMD_PAIR_STAT, 1, 1⟩
@[reducible] def TIME_CTRL_GRID_EN : Fld := ⟨.TIME_CTRL, 0, 0⟩
@[reducible] def TIME_CTRL_SERVO_AUTO : Fld := ⟨.TIME_CTRL, 1, 1⟩
@[reducible] def TIME_CTRL_STEER_EN : Fld := ⟨.TIME_CTRL, 2, 2⟩
@[reducible] def TIME_CTRL_STEP : Fld := ⟨.TIME_CTRL, 3, 3⟩
@[reducible] def TIME_CTRL_CLR_STATS : Fld := ⟨.TIME_CTRL, 4, 4⟩
@[reducible] def TIME_STAT_SERVO_STATE : Fld := ⟨.TIME_STAT, 2, 0⟩
@[reducible] def TIME_STAT_SRC : Fld := ⟨.TIME_STAT, 8, 4⟩
@[reducible] def TIME_STAT_GRID_RUN : Fld := ⟨.TIME_STAT, 12, 12⟩
@[reducible] def TIME_STAT_REF_LOSS : Fld := ⟨.TIME_STAT, 13, 13⟩
@[reducible] def TIME_SERVO_BW : Fld := ⟨.TIME_SERVO, 1, 0⟩
@[reducible] def TIME_SERVO_LOCK_NS : Fld := ⟨.TIME_SERVO, 15, 8⟩
@[reducible] def TIME_SLEW_SLEW_PPB : Fld := ⟨.TIME_SLEW, 17, 0⟩
@[reducible] def TIME_HO_SPEC_SECONDS : Fld := ⟨.TIME_HO_SPEC, 23, 0⟩
@[reducible] def TIME_SRC_EN_MASK : Fld := ⟨.TIME_SRC_EN, 17, 0⟩
@[reducible] def TIME_PTP_DOMAIN : Fld := ⟨.TIME_PTP, 7, 0⟩
@[reducible] def TIME_PTP_PRIORITY2 : Fld := ⟨.TIME_PTP, 15, 8⟩
@[reducible] def TIME_PPS_POL : Fld := ⟨.TIME_PPS, 0, 0⟩
@[reducible] def TIME_PPS_TOD_BAUD : Fld := ⟨.TIME_PPS, 1, 1⟩
@[reducible] def TIME_PPS_TOD_EDGE : Fld := ⟨.TIME_PPS, 2, 2⟩
@[reducible] def TIME_PPS_PPS_DELAY : Fld := ⟨.TIME_PPS, 31, 16⟩
@[reducible] def TIME_PPS_Q_CLASS : Fld := ⟨.TIME_PPS_Q, 7, 0⟩
@[reducible] def TIME_PPS_Q_ACCURACY : Fld := ⟨.TIME_PPS_Q, 15, 8⟩
@[reducible] def TIME_PPS_Q_VARIANCE : Fld := ⟨.TIME_PPS_Q, 31, 16⟩
@[reducible] def TIME_UTC_UTC_OFS : Fld := ⟨.TIME_UTC, 15, 0⟩
@[reducible] def TIME_FREQ_SRC_SYNCE : Fld := ⟨.TIME_FREQ_SRC, 0, 0⟩
@[reducible] def TIME_FREQ_SRC_PORT : Fld := ⟨.TIME_FREQ_SRC, 4, 1⟩
@[reducible] def TIME_SYNCE_OUT_PORT0 : Fld := ⟨.TIME_SYNCE_OUT, 3, 0⟩
@[reducible] def TIME_SYNCE_OUT_EN0 : Fld := ⟨.TIME_SYNCE_OUT, 4, 4⟩
@[reducible] def TIME_SYNCE_OUT_F0 : Fld := ⟨.TIME_SYNCE_OUT, 5, 5⟩
@[reducible] def TIME_SYNCE_OUT_PORT1 : Fld := ⟨.TIME_SYNCE_OUT, 11, 8⟩
@[reducible] def TIME_SYNCE_OUT_EN1 : Fld := ⟨.TIME_SYNCE_OUT, 12, 12⟩
@[reducible] def TIME_SYNCE_OUT_F1 : Fld := ⟨.TIME_SYNCE_OUT, 13, 13⟩
@[reducible] def TIME_LPRIO_LPRIO : Fld := ⟨.TIME_LPRIO, 7, 0⟩
@[reducible] def TIME_PTP_PORT_MASTER_ONLY : Fld := ⟨.TIME_PTP_PORT, 0, 0⟩
@[reducible] def TIME_PTP_PORT_STATE : Fld := ⟨.TIME_PTP_PORT, 7, 4⟩
@[reducible] def TIME_SRC_STAT_QUALIFIED : Fld := ⟨.TIME_SRC_STAT, 0, 0⟩
@[reducible] def TIME_SRC_STAT_CLASS : Fld := ⟨.TIME_SRC_STAT, 15, 8⟩
@[reducible] def TIME_SRC_STAT_STEPS : Fld := ⟨.TIME_SRC_STAT, 23, 16⟩
@[reducible] def TIME_SRC_STAT_RX_QL : Fld := ⟨.TIME_SRC_STAT, 31, 24⟩
@[reducible] def TRIG_CFG_EN : Fld := ⟨.TRIG_CFG, 0, 0⟩
@[reducible] def TRIG_CFG_EDGE : Fld := ⟨.TRIG_CFG, 2, 1⟩
@[reducible] def TRIG_POP_POP : Fld := ⟨.TRIG_POP, 0, 0⟩
@[reducible] def TRIG_TS_INFO_VALID : Fld := ⟨.TRIG_TS_INFO, 0, 0⟩
@[reducible] def TRIG_TS_INFO_RISE : Fld := ⟨.TRIG_TS_INFO, 1, 1⟩
@[reducible] def TRIG_TS_INFO_FRAC : Fld := ⟨.TRIG_TS_INFO, 31, 16⟩
@[reducible] def TPO_CTRL_EN : Fld := ⟨.TPO_CTRL, 0, 0⟩
@[reducible] def TPO_CTRL_MODE : Fld := ⟨.TPO_CTRL, 2, 1⟩
@[reducible] def TPO_CTRL_POL : Fld := ⟨.TPO_CTRL, 3, 3⟩
@[reducible] def TPO_STAT_RUN : Fld := ⟨.TPO_STAT, 0, 0⟩
@[reducible] def TPO_STAT_MISSED : Fld := ⟨.TPO_STAT, 1, 1⟩
@[reducible] def TPO_PERIOD_HI_NS : Fld := ⟨.TPO_PERIOD_HI, 15, 0⟩
@[reducible] def TPO_MASK2_BEATS : Fld := ⟨.TPO_MASK2, 15, 0⟩
@[reducible] def DAC_CFG_RUN : Fld := ⟨.DAC_CFG, 0, 0⟩
@[reducible] def DAC_CFG_GAIN : Fld := ⟨.DAC_CFG, 1, 1⟩
@[reducible] def DAC_CFG_MIRROR : Fld := ⟨.DAC_CFG, 2, 2⟩
@[reducible] def DAC_CFG_RATE : Fld := ⟨.DAC_CFG, 28, 16⟩
@[reducible] def DAC_QUEUE_CODE : Fld := ⟨.DAC_QUEUE, 23, 0⟩
@[reducible] def DAC_STAT_FILL : Fld := ⟨.DAC_STAT, 4, 0⟩
@[reducible] def DAC_STAT_FAULT : Fld := ⟨.DAC_STAT, 8, 8⟩
@[reducible] def DAC_STAT_HO_VALID : Fld := ⟨.DAC_STAT, 9, 9⟩
@[reducible] def DAC_CODE_CODE : Fld := ⟨.DAC_CODE, 23, 0⟩
@[reducible] def DAC_HO_CODE : Fld := ⟨.DAC_HO, 23, 0⟩
@[reducible] def DAC_HO_SET_CODE : Fld := ⟨.DAC_HO_SET, 23, 0⟩
@[reducible] def DAC_TAU_SECONDS : Fld := ⟨.DAC_TAU, 15, 0⟩
@[reducible] def DAC_CODE_MIN_CODE : Fld := ⟨.DAC_CODE_MIN, 23, 0⟩
@[reducible] def DAC_CODE_MAX_CODE : Fld := ⟨.DAC_CODE_MAX, 23, 0⟩
@[reducible] def DAC_CTRL_RESTART : Fld := ⟨.DAC_CTRL, 0, 0⟩
@[reducible] def DAC_CTRL_CLR_STATS : Fld := ⟨.DAC_CTRL, 1, 1⟩
@[reducible] def POWER_CTRL_CLR_STATS : Fld := ⟨.POWER_CTRL, 0, 0⟩
@[reducible] def POWER_STAT_STATE : Fld := ⟨.POWER_STAT, 2, 0⟩
@[reducible] def POWER_STAT_TRANSITION : Fld := ⟨.POWER_STAT, 4, 3⟩
@[reducible] def POWER_DOM_ON : Fld := ⟨.POWER_DOM, 9, 0⟩
@[reducible] def POWER_PADS_LATCHED : Fld := ⟨.POWER_PADS, 9, 0⟩
@[reducible] def POWER_STEP_STEP : Fld := ⟨.POWER_STEP, 7, 0⟩
@[reducible] def POWER_STEP_PENDING : Fld := ⟨.POWER_STEP, 15, 8⟩
@[reducible] def POWER_FEED_FEEDS : Fld := ⟨.POWER_FEED, 3, 0⟩
@[reducible] def POWER_WAKE_TARGET : Fld := ⟨.POWER_WAKE, 2, 0⟩
@[reducible] def POWER_LAST_STATUS : Fld := ⟨.POWER_LAST, 7, 0⟩
@[reducible] def POWER_LAST_STATE : Fld := ⟨.POWER_LAST, 10, 8⟩
@[reducible] def POWER_LAST_REFUSER : Fld := ⟨.POWER_LAST, 13, 11⟩
@[reducible] def POWER_LAST_INDEX : Fld := ⟨.POWER_LAST, 31, 16⟩
@[reducible] def KEEPER_STAT_LIFECYCLE : Fld := ⟨.KEEPER_STAT, 1, 0⟩
@[reducible] def KEEPER_STAT_BUSY : Fld := ⟨.KEEPER_STAT, 2, 2⟩
@[reducible] def KEEPER_STAT_CRED : Fld := ⟨.KEEPER_STAT, 3, 3⟩
@[reducible] def KEEPER_STAT_MGMT_KEY : Fld := ⟨.KEEPER_STAT, 4, 4⟩
@[reducible] def KEEPER_STAT_SLOTS : Fld := ⟨.KEEPER_STAT, 31, 16⟩
@[reducible] def KEEPER_REVOKED_SLOTS : Fld := ⟨.KEEPER_REVOKED, 15, 0⟩
@[reducible] def KEEPER_LAST_STATUS : Fld := ⟨.KEEPER_LAST, 7, 0⟩
@[reducible] def KEEPER_LAST_OBJECT : Fld := ⟨.KEEPER_LAST, 10, 8⟩
@[reducible] def DBG_SESS_STATE : Fld := ⟨.DBG_SESS, 1, 0⟩
@[reducible] def DBG_SESS_LEVEL : Fld := ⟨.DBG_SESS, 3, 2⟩
@[reducible] def DBG_SESS_TILE : Fld := ⟨.DBG_SESS, 9, 4⟩
@[reducible] def DBG_SESS_EPOCHS_LEFT : Fld := ⟨.DBG_SESS, 31, 16⟩
@[reducible] def DBG_SESS_SRC_SOURCE : Fld := ⟨.DBG_SESS_SRC, 8, 0⟩
@[reducible] def DBG_CTRL_CLOSE_ALL : Fld := ⟨.DBG_CTRL, 0, 0⟩
@[reducible] def Q_CFG_TYPE : Fld := ⟨.Q_CFG, 3, 0⟩
@[reducible] def Q_CFG_DEPTH_LOG2 : Fld := ⟨.Q_CFG, 8, 4⟩
@[reducible] def Q_CFG_OWNER : Fld := ⟨.Q_CFG, 23, 16⟩
@[reducible] def Q_CTRL_RUN : Fld := ⟨.Q_CTRL, 0, 0⟩
@[reducible] def Q_CTRL_CLR_DROPS : Fld := ⟨.Q_CTRL, 1, 1⟩
@[reducible] def Q_STAT_STATE : Fld := ⟨.Q_STAT, 1, 0⟩
@[reducible] def Q_STAT_START_ERR : Fld := ⟨.Q_STAT, 3, 2⟩
@[reducible] def Q_BASE_BLOCK : Fld := ⟨.Q_BASE, 15, 0⟩
@[reducible] def Q_HEAD_HEAD : Fld := ⟨.Q_HEAD, 20, 0⟩
@[reducible] def Q_TAIL_TAIL : Fld := ⟨.Q_TAIL, 20, 0⟩
@[reducible] def Q_HELD_HELD : Fld := ⟨.Q_HELD, 20, 0⟩
@[reducible] def LEDGER_SEL_QTY : Fld := ⟨.LEDGER_SEL, 7, 0⟩
@[reducible] def LEDGER_SEL_INSTANCE : Fld := ⟨.LEDGER_SEL, 31, 8⟩
@[reducible] def LEDGER_SEL2_BEAT : Fld := ⟨.LEDGER_SEL2, 16, 0⟩
@[reducible] def LEDGER_SEL2_INDEX : Fld := ⟨.LEDGER_SEL2, 23, 20⟩
@[reducible] def LEDGER_SEL2_POOL : Fld := ⟨.LEDGER_SEL2, 31, 24⟩
@[reducible] def LEDGER_SNAP_VALID : Fld := ⟨.LEDGER_SNAP, 0, 0⟩
@[reducible] def LEDGER_LAST_QTY_QTY : Fld := ⟨.LEDGER_LAST_QTY, 7, 0⟩
@[reducible] def LEDGER_LAST_QTY_INSTANCE : Fld := ⟨.LEDGER_LAST_QTY, 31, 8⟩
@[reducible] def RENNET_CTRL_OPEN : Fld := ⟨.RENNET_CTRL, 0, 0⟩
@[reducible] def RENNET_CTRL_CLR_STATS : Fld := ⟨.RENNET_CTRL, 1, 1⟩
@[reducible] def RENNET_MARGIN_MARGIN : Fld := ⟨.RENNET_MARGIN, 5, 0⟩
@[reducible] def RENNET_FIRST_OPEN_BEAT : Fld := ⟨.RENNET_FIRST_OPEN, 16, 0⟩
@[reducible] def RENNET_INFLIGHT_ARMED : Fld := ⟨.RENNET_INFLIGHT, 14, 0⟩
@[reducible] def RENNET_DEC_MAX_GRAINS : Fld := ⟨.RENNET_DEC_MAX, 4, 0⟩
@[reducible] def RENNET_COLSEL_BEAT : Fld := ⟨.RENNET_COLSEL, 16, 0⟩
@[reducible] def RENNET_COLSEL_INDEX : Fld := ⟨.RENNET_COLSEL, 23, 20⟩
@[reducible] def RENNET_COLSEL_POOL : Fld := ⟨.RENNET_COLSEL, 31, 24⟩
@[reducible] def RENNET_COLCAP_VALUE : Fld := ⟨.RENNET_COLCAP, 23, 0⟩
@[reducible] def RENNET_COLCAP_VALID : Fld := ⟨.RENNET_COLCAP, 31, 31⟩
@[reducible] def RENNET_COLRES_VALUE : Fld := ⟨.RENNET_COLRES, 23, 0⟩
@[reducible] def DISP_CTRL_PRESTAGE : Fld := ⟨.DISP_CTRL, 0, 0⟩
@[reducible] def DISP_CTRL_CLR_STATS : Fld := ⟨.DISP_CTRL, 1, 1⟩
@[reducible] def DISP_TRACE_CFG_KIND_MASK : Fld := ⟨.DISP_TRACE_CFG, 7, 0⟩
@[reducible] def DISP_TRACE_CFG_LIMIT : Fld := ⟨.DISP_TRACE_CFG, 19, 8⟩
@[reducible] def DISP_TRACE_Q_QUEUE : Fld := ⟨.DISP_TRACE_Q, 11, 0⟩
@[reducible] def DISP_TRACE_Q_ENABLE : Fld := ⟨.DISP_TRACE_Q, 12, 12⟩
@[reducible] def DISP_STORE_USED : Fld := ⟨.DISP_STORE, 18, 0⟩
@[reducible] def DISP_STORE_MAX_MAX : Fld := ⟨.DISP_STORE_MAX, 18, 0⟩
@[reducible] def DISP_READY_READY : Fld := ⟨.DISP_READY, 15, 0⟩
@[reducible] def DISP_READY_GATED : Fld := ⟨.DISP_READY, 31, 16⟩
@[reducible] def ENG_FENCE_REQ : Fld := ⟨.ENG_FENCE, 15, 0⟩
@[reducible] def ENG_FENCE_STAT_FENCED : Fld := ⟨.ENG_FENCE_STAT, 15, 0⟩
@[reducible] def ENG_FENCE_STAT_REFUSED : Fld := ⟨.ENG_FENCE_STAT, 16, 16⟩
@[reducible] def ENG_STAT_STATE : Fld := ⟨.ENG_STAT, 1, 0⟩
@[reducible] def ENG_EXC_CAUSE : Fld := ⟨.ENG_EXC, 7, 0⟩
@[reducible] def ENG_EXC_CB : Fld := ⟨.ENG_EXC, 15, 8⟩
@[reducible] def ENG_CLR_CLR : Fld := ⟨.ENG_CLR, 0, 0⟩
@[reducible] def DMA_CH_CFG_QUEUE : Fld := ⟨.DMA_CH_CFG, 11, 0⟩
@[reducible] def DMA_CH_CFG_QEN : Fld := ⟨.DMA_CH_CFG, 12, 12⟩
@[reducible] def DMA_CH_CTRL_ARM0 : Fld := ⟨.DMA_CH_CTRL, 0, 0⟩
@[reducible] def DMA_CH_CTRL_ARM1 : Fld := ⟨.DMA_CH_CTRL, 1, 1⟩
@[reducible] def DMA_CH_CTRL_ABORT : Fld := ⟨.DMA_CH_CTRL, 2, 2⟩
@[reducible] def DMA_CH_CTRL_RESUME : Fld := ⟨.DMA_CH_CTRL, 3, 3⟩
@[reducible] def DMA_CH_CTRL_CLR_STATS : Fld := ⟨.DMA_CH_CTRL, 4, 4⟩
@[reducible] def DMA_CH_STAT_STATE : Fld := ⟨.DMA_CH_STAT, 1, 0⟩
@[reducible] def DMA_CH_STAT_ARMED0 : Fld := ⟨.DMA_CH_STAT, 2, 2⟩
@[reducible] def DMA_CH_STAT_ARMED1 : Fld := ⟨.DMA_CH_STAT, 3, 3⟩
@[reducible] def DMA_CH_STAT_JOB : Fld := ⟨.DMA_CH_STAT, 4, 4⟩
@[reducible] def DMA_CH_STAT_LAST_STATUS : Fld := ⟨.DMA_CH_STAT, 15, 8⟩
@[reducible] def ECC_CTRL_CLR_STATS : Fld := ⟨.ECC_CTRL, 0, 0⟩
@[reducible] def ECC_ERRQ_QUEUE : Fld := ⟨.ECC_ERRQ, 11, 0⟩
@[reducible] def ECC_ERRQ_ENABLE : Fld := ⟨.ECC_ERRQ, 12, 12⟩
@[reducible] def ECC_FILL_DONE : Fld := ⟨.ECC_FILL, 0, 0⟩
@[reducible] def ECC_FILL_GOLDEN : Fld := ⟨.ECC_FILL, 1, 1⟩
@[reducible] def ECC_FILL_PERCENT : Fld := ⟨.ECC_FILL, 14, 8⟩
@[reducible] def ECC_SCRUB_CFG_EN : Fld := ⟨.ECC_SCRUB_CFG, 0, 0⟩
@[reducible] def ECC_SCRUB_CFG_LINES : Fld := ⟨.ECC_SCRUB_CFG, 23, 8⟩
@[reducible] def ECC_SCRUB_POS_HI_ADDR : Fld := ⟨.ECC_SCRUB_POS_HI, 7, 0⟩
@[reducible] def ECC_SCRUB_PENDING_BLOCKS : Fld := ⟨.ECC_SCRUB_PENDING, 24, 0⟩
@[reducible] def ECC_D_STORE_USED : Fld := ⟨.ECC_D_STORE, 4, 0⟩
@[reducible] def ECC_D_STORE_HANDLING : Fld := ⟨.ECC_D_STORE, 8, 8⟩
@[reducible] def ECC_D_STORE_LOST_PENDING : Fld := ⟨.ECC_D_STORE, 31, 16⟩
@[reducible] def ECC_FLIP_CFG_ARM : Fld := ⟨.ECC_FLIP_CFG, 0, 0⟩
@[reducible] def ECC_FLIP_CFG_TARGET : Fld := ⟨.ECC_FLIP_CFG, 3, 1⟩
@[reducible] def ECC_FLIP_CFG_SOURCE : Fld := ⟨.ECC_FLIP_CFG, 12, 4⟩
@[reducible] def ECC_FLIP_CFG_WORD : Fld := ⟨.ECC_FLIP_CFG, 15, 13⟩
@[reducible] def ECC_FLIP_STAT_APPLIED : Fld := ⟨.ECC_FLIP_STAT, 0, 0⟩
@[reducible] def FH_CTRL_EN : Fld := ⟨.FH_CTRL, 0, 0⟩
@[reducible] def FH_CTRL_CLR_STATS : Fld := ⟨.FH_CTRL, 1, 1⟩
@[reducible] def FH_STAT_STATE : Fld := ⟨.FH_STAT, 1, 0⟩
@[reducible] def FH_STAT_DIS_REFUSED : Fld := ⟨.FH_STAT, 2, 2⟩
@[reducible] def FH_CFG_MODE : Fld := ⟨.FH_CFG, 1, 0⟩
@[reducible] def FH_CFG_PTP_EN : Fld := ⟨.FH_CFG, 2, 2⟩
@[reducible] def FH_CFG_SEC_EN : Fld := ⟨.FH_CFG, 3, 3⟩
@[reducible] def FH_CFG_SEC_BYPASS_TIME : Fld := ⟨.FH_CFG, 4, 4⟩
@[reducible] def FH_CFG_TAG_REQ : Fld := ⟨.FH_CFG, 5, 5⟩
@[reducible] def FH_CFG_XPN : Fld := ⟨.FH_CFG, 6, 6⟩
@[reducible] def FH_CFG_MTU : Fld := ⟨.FH_CFG, 29, 16⟩
@[reducible] def FH_MAC_HI_MAC : Fld := ⟨.FH_MAC_HI, 15, 0⟩
@[reducible] def FH_POLICE_DATA_RATE : Fld := ⟨.FH_POLICE, 11, 0⟩
@[reducible] def FH_POLICE_DATA_BURST : Fld := ⟨.FH_POLICE, 23, 12⟩
@[reducible] def FH_POLICE_CTRL_CTRL_RATE : Fld := ⟨.FH_POLICE_CTRL, 9, 0⟩
@[reducible] def FH_POLICE_CTRL_CTRL_BURST : Fld := ⟨.FH_POLICE_CTRL, 17, 10⟩
@[reducible] def FH_HOST_ETYPE_ETYPE0 : Fld := ⟨.FH_HOST_ETYPE, 15, 0⟩
@[reducible] def FH_HOST_ETYPE_ETYPE1 : Fld := ⟨.FH_HOST_ETYPE, 31, 16⟩
@[reducible] def FH_INQ_QUEUE : Fld := ⟨.FH_INQ, 11, 0⟩
@[reducible] def FH_INQ_ENABLE : Fld := ⟨.FH_INQ, 12, 12⟩
@[reducible] def FH_OUTQ_QUEUE : Fld := ⟨.FH_OUTQ, 11, 0⟩
@[reducible] def FH_OUTQ_ENABLE : Fld := ⟨.FH_OUTQ, 12, 12⟩
@[reducible] def FH_WHEYQ_QUEUE : Fld := ⟨.FH_WHEYQ, 11, 0⟩
@[reducible] def FH_WHEYQ_ENABLE : Fld := ⟨.FH_WHEYQ, 12, 12⟩
@[reducible] def FH_WHEYQ_SAMPLE : Fld := ⟨.FH_WHEYQ, 16, 13⟩
@[reducible] def FH_PTP_ASYM_ASYM : Fld := ⟨.FH_PTP_ASYM, 15, 0⟩
@[reducible] def FH_SMAC_HI_MAC : Fld := ⟨.FH_SMAC_HI, 15, 0⟩
@[reducible] def FH_SMAC_HI_VALID : Fld := ⟨.FH_SMAC_HI, 16, 16⟩
@[reducible] def FH_VLAN_VID_A : Fld := ⟨.FH_VLAN, 11, 0⟩
@[reducible] def FH_VLAN_VID_B : Fld := ⟨.FH_VLAN, 27, 16⟩
@[reducible] def FH_VLAN_VALID_A : Fld := ⟨.FH_VLAN, 15, 15⟩
@[reducible] def FH_VLAN_VALID_B : Fld := ⟨.FH_VLAN, 31, 31⟩
@[reducible] def FH_GRAN_RX_FREE : Fld := ⟨.FH_GRAN, 14, 0⟩
@[reducible] def FH_GRAN_TX_FREE : Fld := ⟨.FH_GRAN, 30, 16⟩
@[reducible] def FH_SEC_CFG_TX_AN : Fld := ⟨.FH_SEC_CFG, 1, 0⟩
@[reducible] def FH_SEC_CFG_RX_AN_VALID : Fld := ⟨.FH_SEC_CFG, 7, 4⟩
@[reducible] def FH_SEC_CFG_REPLAY_WIN : Fld := ⟨.FH_SEC_CFG, 31, 16⟩
@[reducible] def FH_C_CFG_EN : Fld := ⟨.FH_C_CFG, 0, 0⟩
@[reducible] def FH_C_CFG_MU : Fld := ⟨.FH_C_CFG, 3, 1⟩
@[reducible] def FH_C_CFG_NPRB : Fld := ⟨.FH_C_CFG, 12, 4⟩
@[reducible] def FH_C_CFG_METHOD : Fld := ⟨.FH_C_CFG, 16, 13⟩
@[reducible] def FH_C_CFG_WIDTH : Fld := ⟨.FH_C_CFG, 21, 17⟩
@[reducible] def FH_C_CFG_STATIC : Fld := ⟨.FH_C_CFG, 22, 22⟩
@[reducible] def FH_C_CFG_FULL : Fld := ⟨.FH_C_CFG, 23, 23⟩
@[reducible] def FH_C_MAC_HI_RU_MAC : Fld := ⟨.FH_C_MAC_HI, 15, 0⟩
@[reducible] def FH_C_MAC_HI_VID : Fld := ⟨.FH_C_MAC_HI, 27, 16⟩
@[reducible] def FH_C_MAC_HI_PCP : Fld := ⟨.FH_C_MAC_HI, 30, 28⟩
@[reducible] def FH_C_ULU_MIN : Fld := ⟨.FH_C_ULU, 15, 0⟩
@[reducible] def FH_C_ULU_MAX : Fld := ⟨.FH_C_ULU, 31, 16⟩
@[reducible] def FH_C_DLU_MIN : Fld := ⟨.FH_C_DLU, 15, 0⟩
@[reducible] def FH_C_DLU_MAX : Fld := ⟨.FH_C_DLU, 31, 16⟩
@[reducible] def FH_C_DLC_MIN : Fld := ⟨.FH_C_DLC, 15, 0⟩
@[reducible] def FH_C_DLC_MAX : Fld := ⟨.FH_C_DLC, 31, 16⟩
@[reducible] def FH_C_ULC_MIN : Fld := ⟨.FH_C_ULC, 15, 0⟩
@[reducible] def FH_C_ULC_MAX : Fld := ⟨.FH_C_ULC, 31, 16⟩
@[reducible] def FH_AXC_AXC : Fld := ⟨.FH_AXC, 8, 0⟩
@[reducible] def FH_AXC_VALID : Fld := ⟨.FH_AXC, 9, 9⟩
@[reducible] def FH_AXC_PRACH : Fld := ⟨.FH_AXC, 10, 10⟩
@[reducible] def FH_AXC_CAR : Fld := ⟨.FH_AXC, 15, 11⟩
@[reducible] def FH_AXC_EAXC : Fld := ⟨.FH_AXC, 31, 16⟩
@[reducible] def FAB_CTRL_CLR_STATS : Fld := ⟨.FAB_CTRL, 0, 0⟩
@[reducible] def FAB_MODNUM_NUMBER : Fld := ⟨.FAB_MODNUM, 9, 0⟩
@[reducible] def FAB_MODNUM_VALID : Fld := ⟨.FAB_MODNUM, 10, 10⟩
@[reducible] def FAB_MODNUM_COORD : Fld := ⟨.FAB_MODNUM, 11, 11⟩
@[reducible] def FAB_COORD_NUMBER : Fld := ⟨.FAB_COORD, 9, 0⟩
@[reducible] def FAB_COORD_VALID : Fld := ⟨.FAB_COORD, 10, 10⟩
@[reducible] def FAB_GEN_ACTIVE : Fld := ⟨.FAB_GEN, 0, 0⟩
@[reducible] def FAB_GEN_OVERLAP : Fld := ⟨.FAB_GEN, 1, 1⟩
@[reducible] def FAB_GEN_PENDING : Fld := ⟨.FAB_GEN, 2, 2⟩
@[reducible] def FAB_TTL_TTL : Fld := ⟨.FAB_TTL, 5, 0⟩
@[reducible] def FL_CTRL_EN : Fld := ⟨.FL_CTRL, 0, 0⟩
@[reducible] def FL_CTRL_CLR_STATS : Fld := ⟨.FL_CTRL, 1, 1⟩
@[reducible] def FL_CTRL_REKEY : Fld := ⟨.FL_CTRL, 2, 2⟩
@[reducible] def FL_STAT_STATE : Fld := ⟨.FL_STAT, 2, 0⟩
@[reducible] def FL_STAT_DIS_REFUSED : Fld := ⟨.FL_STAT, 3, 3⟩
@[reducible] def FL_PEER_NUMBER : Fld := ⟨.FL_PEER, 9, 0⟩
@[reducible] def FL_PEER_VALID : Fld := ⟨.FL_PEER, 10, 10⟩
@[reducible] def FL_PEER_LINK : Fld := ⟨.FL_PEER, 15, 12⟩
@[reducible] def FL_POLICE_VL1_RATE : Fld := ⟨.FL_POLICE, 11, 0⟩
@[reducible] def FL_ASYM_ASYM : Fld := ⟨.FL_ASYM, 15, 0⟩
@[reducible] def FL_TT_SCHED : Fld := ⟨.FL_TT, 0, 0⟩
@[reducible] def FL_TT_OWNER : Fld := ⟨.FL_TT, 10, 1⟩
@[reducible] def LN_CTRL_PWR : Fld := ⟨.LN_CTRL, 1, 0⟩
@[reducible] def LN_CTRL_LOOPBACK : Fld := ⟨.LN_CTRL, 2, 2⟩
@[reducible] def LN_CTRL_PRBS_GEN : Fld := ⟨.LN_CTRL, 3, 3⟩
@[reducible] def LN_CTRL_PRBS_SEL : Fld := ⟨.LN_CTRL, 5, 4⟩
@[reducible] def LN_CTRL_PRBS_CHK : Fld := ⟨.LN_CTRL, 6, 6⟩
@[reducible] def LN_CTRL_CLR_STATS : Fld := ⟨.LN_CTRL, 7, 7⟩
@[reducible] def LN_STAT_PWR_STATE : Fld := ⟨.LN_STAT, 1, 0⟩
@[reducible] def LN_STAT_SIG_DET : Fld := ⟨.LN_STAT, 2, 2⟩
@[reducible] def LN_STAT_CDR_LOCK : Fld := ⟨.LN_STAT, 3, 3⟩
@[reducible] def LN_STAT_ALIGNED : Fld := ⟨.LN_STAT, 4, 4⟩
@[reducible] def LN_STAT_PRBS_LOCK : Fld := ⟨.LN_STAT, 5, 5⟩
@[reducible] def LN_EQ_PEAK : Fld := ⟨.LN_EQ, 3, 0⟩
@[reducible] def LN_EQ_AUTO : Fld := ⟨.LN_EQ, 4, 4⟩
@[reducible] def LN_EQ_PEAK_USED : Fld := ⟨.LN_EQ, 11, 8⟩
@[reducible] def LN_EQ_TX_DEEMPH : Fld := ⟨.LN_EQ, 14, 12⟩
@[reducible] def LN_LAT_PS : Fld := ⟨.LN_LAT, 19, 0⟩
@[reducible] def LN_MARGIN_CTRL_X : Fld := ⟨.LN_MARGIN_CTRL, 6, 0⟩
@[reducible] def LN_MARGIN_CTRL_Y : Fld := ⟨.LN_MARGIN_CTRL, 14, 8⟩
@[reducible] def LN_MARGIN_CTRL_DWELL : Fld := ⟨.LN_MARGIN_CTRL, 19, 16⟩
@[reducible] def LN_MARGIN_CTRL_EYE : Fld := ⟨.LN_MARGIN_CTRL, 21, 20⟩
@[reducible] def LN_MARGIN_CTRL_START : Fld := ⟨.LN_MARGIN_CTRL, 31, 31⟩
@[reducible] def LN_MARGIN_RES_DONE : Fld := ⟨.LN_MARGIN_RES, 0, 0⟩
@[reducible] def LN_MARGIN_RES_ABORTED : Fld := ⟨.LN_MARGIN_RES, 1, 1⟩
@[reducible] def LN_MARGIN_RES_ERRORS : Fld := ⟨.LN_MARGIN_RES, 31, 8⟩
@[reducible] def SP_CTRL_CLR_STATS : Fld := ⟨.SP_CTRL, 0, 0⟩
@[reducible] def SE_DET_DET_THR : Fld := ⟨.SE_DET, 7, 0⟩
@[reducible] def SE_DET_RE_ARM_DB : Fld := ⟨.SE_DET, 15, 8⟩
@[reducible] def SE_DET_CAPTURE_DB : Fld := ⟨.SE_DET, 23, 16⟩
@[reducible] def SE_DET_QUAL_THR : Fld := ⟨.SE_DET, 31, 24⟩
@[reducible] def SE_AGC_TARGET : Fld := ⟨.SE_AGC, 7, 0⟩
@[reducible] def SE_AGC_GAIN_MIN : Fld := ⟨.SE_AGC, 15, 8⟩
@[reducible] def SE_AGC_GAIN_MAX : Fld := ⟨.SE_AGC, 23, 16⟩
@[reducible] def SE_AGC_STEP : Fld := ⟨.SE_AGC, 27, 24⟩
@[reducible] def SE_ED_ED_THR : Fld := ⟨.SE_ED, 7, 0⟩
@[reducible] def SE_ED_NAV_EN : Fld := ⟨.SE_ED, 8, 8⟩
@[reducible] def SE_LOG_CFG_DEPTH_LOG2 : Fld := ⟨.SE_LOG_CFG, 4, 0⟩
@[reducible] def SE_LOG_CFG_ENABLE : Fld := ⟨.SE_LOG_CFG, 8, 8⟩
@[reducible] def SE_LOG_HEAD_HEAD : Fld := ⟨.SE_LOG_HEAD, 16, 0⟩
@[reducible] def SE_LOG_TAIL_TAIL : Fld := ⟨.SE_LOG_TAIL, 16, 0⟩
@[reducible] def SE_J_EXC_CAUSE : Fld := ⟨.SE_J_EXC, 7, 0⟩
@[reducible] def SE_S_CFG_EN : Fld := ⟨.SE_S_CFG, 0, 0⟩
@[reducible] def SE_S_CFG_PORT : Fld := ⟨.SE_S_CFG, 4, 1⟩
@[reducible] def SE_S_CFG_RATE : Fld := ⟨.SE_S_CFG, 6, 5⟩
@[reducible] def SE_S_CFG_PCID : Fld := ⟨.SE_S_CFG, 31, 16⟩
@[reducible] def SE_S_LAT_LAT_NS : Fld := ⟨.SE_S_LAT, 23, 0⟩
@[reducible] def SE_S_STAT_STATE : Fld := ⟨.SE_S_STAT, 2, 0⟩
@[reducible] def SE_S_STAT_GAIN : Fld := ⟨.SE_S_STAT, 15, 8⟩
@[reducible] def SE_G_CFG_EN : Fld := ⟨.SE_G_CFG, 0, 0⟩
@[reducible] def SE_G_CFG_FIRST_AXC : Fld := ⟨.SE_G_CFG, 10, 1⟩
@[reducible] def SE_G_CFG_N_AXC : Fld := ⟨.SE_G_CFG, 20, 11⟩
@[reducible] def SE_G_COT_COT_US : Fld := ⟨.SE_G_COT, 13, 0⟩
@[reducible] def PX_FENCE_REQ : Fld := ⟨.PX_FENCE, 3, 0⟩
@[reducible] def PX_FENCE_STAT_FENCED : Fld := ⟨.PX_FENCE_STAT, 3, 0⟩
@[reducible] def PX_FENCE_STAT_REFUSED : Fld := ⟨.PX_FENCE_STAT, 4, 4⟩
@[reducible] def PX_STAT_STATE : Fld := ⟨.PX_STAT, 1, 0⟩
@[reducible] def PX_EXC_CAUSE : Fld := ⟨.PX_EXC, 7, 0⟩
@[reducible] def PX_CLR_CLR : Fld := ⟨.PX_CLR, 0, 0⟩
@[reducible] def LR_STAT_STATE : Fld := ⟨.LR_STAT, 1, 0⟩
@[reducible] def LR_STAT_GOLDEN : Fld := ⟨.LR_STAT, 2, 2⟩
@[reducible] def LR_STAT_LAST_STATUS : Fld := ⟨.LR_STAT, 15, 8⟩
@[reducible] def LR_CAP_CAP : Fld := ⟨.LR_CAP, 7, 0⟩
@[reducible] def LR_CAP_RATE : Fld := ⟨.LR_CAP, 15, 8⟩
@[reducible] def LR_CLR_CLR : Fld := ⟨.LR_CLR, 0, 0⟩
@[reducible] def LR_SCRUB_CFG_EN : Fld := ⟨.LR_SCRUB_CFG, 0, 0⟩
@[reducible] def LR_SCRUB_CFG_FRAME_US : Fld := ⟨.LR_SCRUB_CFG, 15, 8⟩
@[reducible] def LR_LOAD_STAT_FLAGS : Fld := ⟨.LR_LOAD_STAT, 3, 0⟩
@[reducible] def LR_LOAD_STAT_STATUS : Fld := ⟨.LR_LOAD_STAT, 15, 8⟩
@[reducible] def LR_LOAD_STAT_FAIL_POS : Fld := ⟨.LR_LOAD_STAT, 18, 16⟩
@[reducible] def LR_LOAD_STAT_SOURCE : Fld := ⟨.LR_LOAD_STAT, 19, 19⟩
@[reducible] def CORE_STAT_STATE : Fld := ⟨.CORE_STAT, 1, 0⟩
@[reducible] def CORE_STAT_CMU_BUSY : Fld := ⟨.CORE_STAT, 2, 2⟩
@[reducible] def CORE_EXC_CAUSE : Fld := ⟨.CORE_EXC, 7, 0⟩
@[reducible] def CORE_EXC_SLOT : Fld := ⟨.CORE_EXC, 10, 8⟩
@[reducible] def CORE_LATE_KIND : Fld := ⟨.CORE_LATE, 1, 0⟩
@[reducible] def CORE_LATE_FLAGS : Fld := ⟨.CORE_LATE, 12, 8⟩
@[reducible] def CORE_CLR_CLR : Fld := ⟨.CORE_CLR, 0, 0⟩
@[reducible] def BMU_STAT_STATE : Fld := ⟨.BMU_STAT, 1, 0⟩
@[reducible] def BMU_EXC_CAUSE : Fld := ⟨.BMU_EXC, 7, 0⟩
@[reducible] def BMU_EXC_CMD : Fld := ⟨.BMU_EXC, 19, 8⟩
@[reducible] def BMU_CLR_CLR : Fld := ⟨.BMU_CLR, 0, 0⟩
@[reducible] def TDMA_STAT_STATE : Fld := ⟨.TDMA_STAT, 1, 0⟩
@[reducible] def TDMA_STAT_ARMED : Fld := ⟨.TDMA_STAT, 2, 2⟩
@[reducible] def TDMA_STAT_REFUSED : Fld := ⟨.TDMA_STAT, 3, 3⟩
@[reducible] def TDMA_STAT_CORE : Fld := ⟨.TDMA_STAT, 5, 4⟩
@[reducible] def TDMA_STAT_LAST_STATUS : Fld := ⟨.TDMA_STAT, 15, 8⟩
@[reducible] def NOC_PORT_STATE : Fld := ⟨.NOC_PORT, 1, 0⟩
end Fld

end Sys2Proof.Machine
end

