-- ==== Sys2Proof/Machine/State.lean ====
section
/-!
DEFINITION. The state of the module, the reasons a command can stop, and the state after reset.
-/
namespace Sys2Proof.Machine

/-- No command of this block stops the machine with a fault: the spec gives every row an effect. -/
inductive Fault where
  deriving DecidableEq, Repr

/-- Why a command has no meaning. -/
inductive Refusal where
  /-- Raised by an arm of `exec` whose command has no meaning yet. Safe: nothing is claimed of it. -/
  | notModelled (mnemonic : String)
  deriving DecidableEq, Repr

/-- The key of register `i` of kind `r` in the register file. -/
def RegId.key (r : RegId) (i : Nat) : Nat := i * 512 + r.ctorIdx

/-- The reset value of a register, from its fields. -/
def RegDesc.resetWord (d : RegDesc) : Nat := d.fields.foldl (fun a f => a + f.reset * 2 ^ f.lo) 0

/-- The reset values of the register kinds, in order. -/
def resetWords : List Nat := regDescs.map RegDesc.resetWord

/-- What an unlisted key of the register file reads as: the reset value of its kind. -/
def resetOfKey (k : Nat) : Nat := resetWords.getD (k % 512) 0

/-- The state of the module. -/
structure State where
  /-- Commands waiting, first in first out. -/
  pending : List Instr := []
  /-- The registers, at the values in effect. -/
  regs : Sparse Nat := []
  /-- RWS words accepted since the last latch, and RWS words latched for the next beat tick (R33, R34). -/
  rwsNew : Sparse (Option Nat) := []
  rwsLatched : Sparse (Option Nat) := []
  /-- RWE words accepted since the last latch, and RWE words latched for the next epoch boundary. -/
  rweNew : Sparse (Option Nat) := []
  rweLatched : Sparse (Option Nat) := []
  /-- RWS and RWE words accepted in grain 1,023, which belong to the next latch (R34). -/
  rwsLate : Sparse (Option Nat) := []
  rweLate : Sparse (Option Nat) := []
  /-- Cave bytes outside the flow table, image blocks and curd descriptors, which are held as such. -/
  cave : Sparse Byte := []
  /-- Block ownership, keyed by Cave address / 4,096 (R89), and general-pool blocks waiting for their fill (R91). -/
  own : Sparse (Option Owner) := []
  fillQ : List Nat := []
  blk : BlockTerms := {}
  flows : Sparse FlowEntry := []
  /-- Enqueues and index writes that await the settlement of the grain (R97). -/
  qEnqs : List QOp := []
  cal : List Column := []
  cap : CapState := {}
  orders : List Order := []
  /-- The 18-bit sequence number of the next ORDER_HANDLE (R70) and the next acceptance rank (R119). -/
  orderSeq : Nat := 0
  rank : Nat := 0
  /-- The ledger's ARMED and FREE sentinel terms (QTY 0x0B). -/
  sentArmed : Nat := 0
  sentFree : Nat := 16384
  /-- Network, die-link and fabric credits by instance (QTY 0x03 to 0x05). -/
  credits : Sparse (Option CreditTerms) := []
  curds : List Curd := []
  /-- Curds that ended with their order gone: their completion is still to be processed (R121, R130). -/
  gone : List Curd := []
  traces : List TraceSt := List.replicate 5 {}
  images : Sparse ImageSlot := []
  /-- The cores by global index; VM bytes keyed core × 2^19 + offset; TSM bytes keyed tile × 2^21 + offset. -/
  cores : Sparse Core := []
  bmus : Sparse Bmu := []
  vm : Sparse Byte := []
  tsm : Sparse Byte := []
  /-- Tile DMA channels keyed tile × 8 + n, and the region port of a tile as n = 4. -/
  tchans : Sparse TileChan := []
  /-- Code words that are not intact (R458, R459), and the error stores of CD0 to CD3 and HD (R472). -/
  bad : List BadWord := []
  errs : List (List ErrRec) := List.replicate 5 []
  /-- (die, memory, code word) of the uncorrectable errors that are in handling (R475). -/
  inHand : List (Nat × Nat × Nat) := []
  /-- Merge-buffer entries over words that are not intact (R461 to R463). -/
  merges : List Merge := []
  /-- Cave lines the scrub walk has covered, modulo eight times the on-die code words of a tile (R467). -/
  scrubLines : Nat := 0
  /-- The coding engines keyed die × 16 + n, and PX0 to PX3 with SE0 as 4. -/
  engs : Sparse Eng := []
  pxs : Sparse Px := []
  /-- The sensing streams, and the gates' earlier windows. -/
  streams : Sparse SeStream := []
  gates : Sparse GateOld := []
  /-- Hub DMA channels and the HUB_DMA jobs that have started. -/
  dmas : Sparse DmaChan := []
  dmaJobs : List DmaJob := []
  /-- Sentinels whose result writes take hub channels in this grain (R368). -/
  sentWrites : Nat := 0
  tm : TimeSt := {}
  mg : MgmtSt := {}
  /-- Fronthaul ports, logic regions, and the frames the module put on its wires. -/
  fh : Sparse FhPort := []
  lr : LrSt := {}
  wire : List Wire := []
  fab : FabSt := {}
  lanes : Sparse LaneSt := []
  pw : PwSt := {}
  kp : KeeperSt := {}
  bt : BootSt := {}
  /-- The management key the keeper holds (R418, R501). -/
  mgmtKey : List Byte := []
  /-- What the module sent: PCIe writes, MSI-X vectors, replies and event packets, results of host reads. -/
  hostOut : List HostWrite := []
  msixOut : List Nat := []
  replies : List Reply := []
  reads : List (List Byte) := []
  /-- Functions whose function level reset has not completed (R519). -/
  flr : List Nat := []
  /-- The count of free values used so far; the model's own field. -/
  freeCtr : Nat := 0
  deriving DecidableEq, Repr

/-- The module right after reset. DESIGN CHOICE, log entry 3; DESIGN CHOICE, log entry 5. -/
def State.reset : State := {}

end Sys2Proof.Machine
end

