-- ==== Sys2Proof/Machine/Ops.lean ====
section
/-!
DEFINITION. Named operations on the state: registers and their fields, the time grid, free values, discarded writes,
command packets and replies, and events.
-/
namespace Sys2Proof.Machine

/-! ## Registers -/

/-- The value in effect of register `i` of kind `r`. -/
def State.reg (s : State) (r : RegId) (i : Nat := 0) : Nat :=
  Sparse.get (resetOfKey (r.key i)) s.regs (r.key i)

/-- Register `i` of kind `r` set to `v`. -/
def State.setReg (s : State) (r : RegId) (i v : Nat) : State :=
  { s with regs := Sparse.set (resetOfKey (r.key i)) s.regs (r.key i) v }

/-- A field of register `i`. -/
def State.fld (s : State) (f : Fld) (i : Nat := 0) : Nat := bits (s.reg f.reg i) f.hi f.lo

/-- A field of register `i` set to `v`. -/
def State.setFld (s : State) (f : Fld) (i v : Nat) : State :=
  s.setReg f.reg i (putBits (s.reg f.reg i) f.hi f.lo v)

/-- A 32-bit counter raised by `n`; it wraps. -/
def State.bump (s : State) (r : RegId) (i : Nat := 0) (n : Nat := 1) : State :=
  s.setReg r i ((s.reg r i + n) % 2 ^ 32)

/-- Register kinds `rs` at index `i` cleared to 0. -/
def State.clearRegs (s : State) (rs : List RegId) (i : Nat := 0) : State :=
  rs.foldl (fun t r => t.setReg r i 0) s

/-- A 64-bit value held in a pair of registers, low word first. -/
def State.reg2 (s : State) (lo hi : RegId) (i : Nat := 0) : Nat := s.reg lo i + 2 ^ 32 * s.reg hi i

/-- A 64-bit value stored into a pair of registers. -/
def State.setReg2 (s : State) (lo hi : RegId) (i v : Nat) : State :=
  (s.setReg lo i (v % 2 ^ 32)).setReg hi i (v / 2 ^ 32 % 2 ^ 32)

/-! ## The time grid (R27 to R31) -/

/-- Beats run from 0 to 81,919 (R28). -/
def beatMod : Nat := 81920

/-- `n` beats after `b`. -/
def beatAdd (b n : Nat) : Nat := (b + n) % beatMod
/-- `n` beats before `b`. -/
def beatSub (b n : Nat) : Nat := (b + beatMod - n % beatMod) % beatMod
/-- B1 is at or after B2 (R30). -/
def atOrAfter (b1 b2 : Nat) : Bool := (b1 + beatMod - b2 % beatMod) % beatMod < 40960
/-- B1 is before B2 (R30). -/
def beatBefore (b1 b2 : Nat) : Bool := !atOrAfter b1 b2
def laterBeat (a b : Nat) : Nat := if atOrAfter b a then b else a
def earlierBeat (a b : Nat) : Nat := if atOrAfter b a then a else b

/-- The grain stamp of Table 2.2. -/
def mkStamp (beat grain : Nat) : Nat := beat * 1024 + grain
def stampBeat (s : Nat) : Nat := bits s 26 10
def stampGrain (s : Nat) : Nat := bits s 9 0
/-- A grain stamp a packet may carry: reserved bits zero, BEAT below 81,920 (R6, R31). -/
def stampOk (s : Nat) : Bool := s / 2 ^ 27 == 0 && stampBeat s < beatMod
/-- The order of two stamps, beats compared under R30. -/
def stampAtOrAfter (a b : Nat) : Bool :=
  if stampBeat a = stampBeat b then stampGrain b ≤ stampGrain a else atOrAfter (stampBeat a) (stampBeat b)
def laterStamp (a b : Nat) : Nat := if stampAtOrAfter b a then b else a

def State.gridRun (s : State) : Bool := s.fld Fld.TIME_STAT_GRID_RUN == 1
/-- The grain in progress, 0 to 1,023. -/
def State.grain (s : State) : Nat := s.tm.absGrain % 1024
/-- Beats since the start of frame 0, not wrapped. DESIGN CHOICE, log entry 22. -/
def State.absBeat (s : State) : Nat := s.tm.absGrain / 1024
/-- The linear beat number of the beat in progress. DESIGN CHOICE, log entry 22. -/
def State.beat (s : State) : Nat := s.absBeat % beatMod
/-- The current grain stamp, as RENNET_NOW reads it (0 while the grid is stopped, R386). DESIGN CHOICE, log entry 22. -/
def State.stamp (s : State) : Nat := if s.gridRun then mkStamp s.beat s.grain else 0
/-- The epoch number of a beat (R28). -/
def epochOf (beat : Nat) : Nat := beat / 1280
/-- first_open for an order fetched now (R42). -/
def State.firstOpen (s : State) : Nat := beatAdd s.beat (if s.grain ≤ 1007 then 1 else 2)

/-- The start of the frame from which absolute frames, beats and grains count: 1,900,000,000 SFN cycles before FRAME_BASE +
FRAME_OFS (R384), so that the counts of every TIME_NS are natural numbers with the same SFN. -/
def State.frame0 (s : State) : Int :=
  (s.reg2 .TIME_FRAME_BASE_LO .TIME_FRAME_BASE_HI : Int) + sext 32 (s.reg .TIME_FRAME_OFS) - ((1900000000 * 10240000000 : Nat) : Int)
/-- The nominal start of an absolute grain in ns, rounded up to an edge. -/
def State.grainNs (s : State) (g : Nat) : Nat := (s.frame0 + ((g * 15625 + 127) / 128 : Nat)).toNat
/-- The absolute grain of a stamp, its beat taken in the half-circle around the current beat (R30). DESIGN CHOICE, log entry 22. -/
def State.absOfStamp (s : State) (st : Nat) : Nat :=
  let d := (stampBeat st + beatMod - s.beat) % beatMod
  (if d < 40960 then s.absBeat + d else s.absBeat - (beatMod - d)) * 1024 + stampGrain st
/-- TIME_NS at the start of a stamp's grain. -/
def State.stampNs (s : State) (st : Nat) : Nat := s.grainNs (s.absOfStamp st)

/-! ## Free values -/

/-- A value below `n` that the spec leaves open, and the state that has used it up. DESIGN CHOICE, log entry 10. -/
def State.pick (s : State) (n : Nat) : Nat := Config.freeValue s.freeCtr % n
def State.used (s : State) : State := { s with freeCtr := s.freeCtr + 1 }

/-- A quotient that the spec does not say how to round: one of the two integers around it, as a free value. DESIGN CHOICE, log entry 10. -/
def State.roundFree (s : State) (num : Int) (den : Nat) : Int :=
  num / (den : Int) + (if num % (den : Int) = 0 then 0 else (s.pick 2 : Int))

/-! ## Discarded writes (R426) -/

def srcCode : Source → Nat
  | .pf0 => 0 | .vf _ => 1 | .mgmt => 2 | .stage => 3 | .steward => 4 | .ssp => 5

/-- Records a discarded write in GLOBAL_WERR and counts it. DEDUCED, log entry 15. -/
def State.werr (s : State) (offset : Nat) (src : Source) (bar : Nat := 0) : State :=
  let more := s.fld Fld.GLOBAL_WERR_VALID
  (s.setReg .GLOBAL_WERR 0
    (offset % 2 ^ 26 + srcCode src * 2 ^ 26 + bar * 2 ^ 29 + more * 2 ^ 30 + 2 ^ 31)).bump .GLOBAL_WERR_CNT

/-- The BAR0 offset of register `i` of kind `r`, the index running over all its dimensions, last fastest. -/
def dimOffset : List (Nat × Nat) → Nat → Nat
  | [], _ => 0
  | (_, st) :: r, i => i / (r.foldl (fun a d => a * d.1) 1) * st + dimOffset r (i % (r.foldl (fun a d => a * d.1) 1))

def RegId.desc (r : RegId) : RegDesc := regDescs.getD r.ctorIdx ⟨0, [], []⟩

def RegId.offset (r : RegId) (i : Nat := 0) : Nat := r.desc.base + dimOffset r.desc.dims i

/-- Records the discarded write of register `i` of kind `r`. DEDUCED, log entry 15. -/
def State.werrReg (s : State) (r : RegId) (i : Nat) (src : Source) : State := s.werr (r.offset i) src

/-- Whether a write to a BAR0 offset reaches its register: in M-HOLD only the POWER block does, and none after a start-up stop
(R485, R512). The steward writes from inside the hub. DEDUCED, log entry 15; PRESUMED, log entry 16. -/
def State.busOpen (s : State) (offset : Nat) (src : Source) : Bool :=
  src == .steward || (!s.bt.stopped && (s.fld Fld.POWER_STAT_STATE ≤ 2 || (0x300000 ≤ offset && offset < 0x400000)))

/-- What a write to a BAR0 offset does, `t` where it reaches its register: a VF has no BAR0 (R537), a module in M-OFF sees
nothing, and a write that is shut out is discarded and recorded. -/
def State.busGate (s : State) (offset : Nat) (src : Source) (t : State) : State :=
  match src with
  | .vf _ => s
  | _ =>
    if s.fld Fld.POWER_STAT_STATE = 4 ∧ src ≠ .steward then s
    else if s.busOpen offset src then t
    else s.werr offset src

/-! ## Shadowed registers (R8, R33, R34) -/

/-- A written RWS or RWE word waits; one accepted in grain 1,023 belongs to the next latch. DEDUCED, log entry 18. -/
def State.pendRws (s : State) (k v : Nat) : State :=
  if s.gridRun ∧ s.grain = 1023 then { s with rwsLate := Sparse.set none s.rwsLate k (some v) }
  else { s with rwsNew := Sparse.set none s.rwsNew k (some v) }
def State.pendRwe (s : State) (k v : Nat) : State :=
  if s.gridRun ∧ s.grain = 1023 then { s with rweLate := Sparse.set none s.rweLate k (some v) }
  else { s with rweNew := Sparse.set none s.rweNew k (some v) }

/-- The fields of `fs` that a predicate selects, taken from `v` into `w`. DEDUCED, log entry 13. -/
def takeFields (fs : List FieldDesc) (p : FieldDesc → Bool) (w v : Nat) : Nat :=
  fs.foldl (fun a f => if p f then putBits a f.hi f.lo (bits v f.hi f.lo) else a) w

/-- The pending word of a key, the latest first. -/
def pendingWord (l : List (Sparse (Option Nat))) (k : Nat) : Option Nat :=
  (l.find? (fun m => (Sparse.get none m k).isSome)).bind (fun m => Sparse.get none m k)

/-- The value a register reads as to its writer: RWS and RWE fields at the last written value (R7). -/
def State.written (s : State) (r : RegId) (i : Nat := 0) : Nat :=
  let k := r.key i
  let put := fun (a : Access) (w : Nat) (o : Option Nat) => match o with
    | some v => takeFields r.desc.fields (fun f => f.acc == a) w v
    | none => w
  put .rwe (put .rws (s.reg r i) (pendingWord [s.rwsLate, s.rwsNew, s.rwsLatched] k)) (pendingWord [s.rweLate, s.rweNew, s.rweLatched] k)

/-- Waiting words of one table put over another's. -/
def overlay (a b : Sparse (Option Nat)) : Sparse (Option Nat) := b.foldl (fun m e => Sparse.set none m e.1 e.2) a

/-- Latched words take effect in the fields of one class. DEDUCED, log entry 18. -/
def State.applyWords (s : State) (a : Access) (m : Sparse (Option Nat)) : State :=
  m.foldl (fun t e => match e.2 with
    | some v =>
      let d := resetOfKey e.1
      let w := takeFields ((regDescs.getD (e.1 % 512) ⟨0, [], []⟩).fields) (fun f => f.acc == a) (Sparse.get d t.regs e.1) v
      { t with regs := Sparse.set d t.regs e.1 w }
    | none => t) s

/-! ## Packets (R407 to R409) -/

/-- A packet of Table 16.1 with its CRC (R408), without trailer. -/
def mkPacket (flags opcode tag : Nat) (payload : List Byte) : List Byte :=
  let pl := padTo 4 payload
  let h := leBytes 2 0x5544 ++ leBytes 1 1 ++ leBytes 1 flags ++ leBytes 2 opcode ++ leBytes 2 (pl.length / 4) ++ leBytes 4 tag
  h ++ leBytes 4 (crc32c (h ++ zeros 4 ++ pl)) ++ pl

/-- Depth, occupancy and free slots of queue `q` (R95). -/
def State.qDepth (s : State) (q : Nat) : Nat := 2 ^ s.fld Fld.Q_CFG_DEPTH_LOG2 q
def State.qOcc (s : State) (q : Nat) : Nat :=
  (s.reg .Q_TAIL q + 2 * s.qDepth q - s.reg .Q_HEAD q % (2 * s.qDepth q)) % (2 * s.qDepth q)
def State.qFree (s : State) (q : Nat) : Nat := s.qDepth q - s.qOcc q - s.reg .Q_HELD q
/-- Q_STAT.STATE: 0 STOPPED, 1 RUNNING, 2 STOPPING. -/
def State.qState (s : State) (q : Nat) : Nat := s.fld Fld.Q_STAT_STATE q
def State.qType (s : State) (q : Nat) : Nat := s.fld Fld.Q_CFG_TYPE q
def State.qOwner (s : State) (q : Nat) : Nat := s.fld Fld.Q_CFG_OWNER q

/-- Cave address of slot `i` of queue `q`'s ring (R87, R98). -/
def State.slotAddr (s : State) (q i : Nat) : Nat :=
  0x8000000000 + s.fld Fld.Q_BASE_BLOCK q * 4096 + i % s.qDepth q * 32

/-- Host address of slot `i` of queue `q`'s host ring. -/
def State.hostSlot (s : State) (q i : Nat) : Nat :=
  s.reg2 .Q_HOSTRING_LO .Q_HOSTRING_HI q + i % s.qDepth q * 32

/-- A PCIe write to a function's host memory; a function under reset gets none (R519). -/
def State.hostWrite (s : State) (func a : Nat) (d : List Byte) : State :=
  if s.flr.contains func then s else { s with hostOut := s.hostOut ++ [⟨a, d⟩] }

/-- An MSI-X message of a function. -/
def State.msix (s : State) (func v : Nat) : State :=
  if s.flr.contains func then s else { s with msixOut := s.msixOut ++ [v] }

/-- One 32-byte descriptor into a queue that has a free slot: into the ring, and into the host ring of a RESULT or TRACE
queue (R93, Table 4.3). -/
def State.qPut (s : State) (q : Nat) (desc : List Byte) : State :=
  let t := s.reg .Q_TAIL q
  let d := (desc ++ zeros 32).take 32
  let s1 := { s with cave := writeBytes s.cave (s.slotAddr q t) d }
  let s2 := if s.qType q = 3 ∨ s.qType q = 9 then s1.hostWrite (s.qOwner q) (s.hostSlot q t) d else s1
  s2.setReg .Q_TAIL q ((t + 1) % (2 * s.qDepth q))

/-- A byte string into consecutive entries of a queue, 32 bytes each. -/
def State.qPutBytes (s : State) (q : Nat) (b : List Byte) : State :=
  (List.range (ceilDiv b.length 32)).foldl (fun t k => t.qPut q (slice b (32 * k) 32)) s

/-- An enqueue that a block makes in this grain waits for the settlement (R97). -/
def State.enqueue (s : State) (q : Nat) (desc : List Byte) (p : Producer) (held : Nat := 0) (msix : Option (Nat × Nat) := none) : State :=
  { s with qEnqs := s.qEnqs ++ [.put ⟨q, desc, p, held, msix⟩] }

/-! ## Replies (R409, R415) -/

/-- MAXREP of an opcode: the REPLY_Q entries held for its reply (Tables 16.3, 16.8 and 20.4). -/
def maxRep (op : Nat) : Nat :=
  if op = 0x0002 then 2 else if op = 0x0010 then 33 else if op = 0x0103 then 4
  else if 0x0210 ≤ op ∧ op ≤ 0x0212 then 3 else if op = 0x0301 then 2 else if op = 0x0400 then 17
  else if op = 0x0402 then 33 else if 0x0500 ≤ op ∧ op ≤ 0x0503 then 4
  else if op = 0x1013 ∨ op = 0x1400 ∨ op = 0x1402 then 2
  else if op = 0x2000 ∨ op = 0x2003 then 2 else if op = 0x2010 then 33 else 1

/-- The REPLY_Q entries held for a command (R415), and the state that no longer lists them. -/
def State.heldFor (s : State) (p tag : Nat) : Nat :=
  match s.mg.held.find? (fun h => h.1 == p && h.2.1 == tag) with
  | some h => h.2.2
  | none => 0
def State.unheld (s : State) (p tag : Nat) : State :=
  match s.mg.held.find? (fun h => h.1 == p && h.2.1 == tag) with
  | some h => { s with mg := { s.mg with held := s.mg.held.erase h } }
  | none => s

/-- The MSI-X message of a ring pair: the function of its REPLY_Q, and its vector. -/
def State.pairVec (s : State) (p : Nat) : Nat × Nat :=
  (s.qOwner (s.fld Fld.CMD_PAIR_CFG_REPLY_Q p), s.fld Fld.CMD_PAIR_MSIX_VECTOR p)

/-- The management port's trailer over a packet (R418); the key is the one the keeper holds. -/
def trailer (key : List Byte) (counter : Nat) (pkt : List Byte) : List Byte :=
  leBytes 8 counter ++ beBytes 24 (Config.hmac384 key (pkt ++ leBytes 8 counter))

/-- Sends one packet to its destination: a ring, at the settlement of the grain (R97), the management port, the serial
slave port, or a fabric steward. On a ring it gives up `held` entries, and the message `vec` follows it. -/
def State.sendPacket (s : State) (src : CmdSource) (pkt : List Byte) (held : Nat := 0) (vec : Option (Nat × Nat) := none) : State :=
  match src with
  | .pair p => { s.enqueue (s.fld Fld.CMD_PAIR_CFG_REPLY_Q p) pkt .held held vec with replies := s.replies ++ [⟨src, pkt⟩] }
  | .port _ _ =>
    { s with
      replies := s.replies ++ [⟨src, pkt ++ trailer s.mgmtKey s.mg.ownCounter pkt⟩]
      mg := { s.mg with ownCounter := s.mg.ownCounter + 1 } }
  | .ssp => { s with replies := s.replies ++ [⟨src, pkt⟩], mg := { s.mg with ssp := s.mg.ssp ++ [pkt] } }
  | .fabric m => { s with replies := s.replies ++ [⟨src, pkt⟩], fab := { s.fab with outbox := s.fab.outbox ++ [(3, m, pkt)] } }

/-- A command leaves the list of fetched commands and the journal when it is answered. -/
def State.answered (s : State) (c : CmdCtx) : State :=
  { s with mg := { s.mg with
      fetched := s.mg.fetched.erase c
      journal := s.mg.journal.filter (fun j => j.ctx != c) } }

/-- The reply packet of a command. -/
def replyPacket (c : CmdCtx) (sw : Nat) (rest : List Byte) : List Byte :=
  mkPacket (b2n (bitAt c.flags 0) + 4 * b2n (bitAt c.flags 2)) (c.opcode % 32768 + 32768) c.tag (leBytes 4 sw ++ rest)

/-- Replies to a command: status word `sw`, then `rest` (R409); the held entries are given up, and the MSI-X vector follows
when the command asks for it. -/
def State.replyWord (s : State) (c : CmdCtx) (sw : Nat) (rest : List Byte) : State :=
  match c.src with
  | .pair p => (((s.unheld p c.tag).sendPacket c.src (replyPacket c sw rest) (s.heldFor p c.tag)
      (if bitAt c.flags 0 then some (s.pairVec p) else none))).answered c
  | _ => (s.sendPacket c.src (replyPacket c sw rest)).answered c

/-- Replies with a status code and a rest that is present only on OK or ACCEPTED (R409). -/
def State.reply (s : State) (c : CmdCtx) (status : Nat) (rest : List Byte := []) : State :=
  s.replyWord c status (if status ≤ 1 then rest else [])

/-- The failing status codes that the module may emit (R9; Tables 0.6, 3.16, 4.9, 14.7 and 18.5). -/
def failureCodes : List Nat :=
  [0x02, 0x03, 0x04, 0x05, 0x12, 0x13, 0x14, 0x15, 0x16, 0x20, 0x21, 0x22, 0x23, 0x24, 0x25, 0x30, 0x31, 0x32, 0x33, 0x40, 0x41, 0x42,
   0x50, 0x60, 0x61, 0x62, 0x63, 0x65, 0x66]
/-- A status that the module may emit. -/
def statusListed (st : Nat) : Bool := st == 0 || st == 1 || st == 0x10 || st == 0x11 || failureCodes.contains st
/-- A failing status that the spec leaves open, among those of R9. DESIGN CHOICE, log entry 10. -/
def State.anyFailure (s : State) : Nat := failureCodes.getD (s.pick failureCodes.length) 0x24

/-- The steward serves commands (Table 16.7). -/
def State.stewardRun (s : State) : Bool := s.fld Fld.STEWARD_STAT_STATE == 1

/-- A reply that the steward writes: after its restart, when it restarts now (R429). -/
def State.lateReply (s : State) (c : CmdCtx) (sw : Nat) (rest : List Byte) : State :=
  if s.stewardRun then s.replyWord c sw rest else { s with mg := { s.mg with late := s.mg.late ++ [(c, sw, rest)] } }

/-! ## Events (R435, R436) -/

/-- The 32 bytes of an event record. -/
def EventRec.bytes (e : EventRec) (lost : Nat) : List Byte :=
  leBytes 4 e.seq ++ leBytes 4 e.stamp ++ leBytes 8 e.ns ++ leBytes 2 e.code ++ leBytes 1 e.sev ++ leBytes 1 e.unit
    ++ leBytes 4 e.arg0 ++ leBytes 4 e.arg1 ++ leBytes 4 lost

/-- The packet of an event record (R436). -/
def EventRec.packet (e : EventRec) (lost : Nat) : List Byte := mkPacket 0 0x8480 0 (leBytes 4 0 ++ e.bytes lost)

/-- The management port carries traffic: enabled, its pads released, and the hub's clocks running (R485, R493). -/
def State.portOn (s : State) : Bool :=
  s.fld Fld.MGMT_CFG_EN == 1 && !bitAt (s.reg .POWER_PADS) 0 && s.fld Fld.POWER_STAT_STATE < 3

/-- One event to one subscriber: a ring pair's is judged at the settlement; a datagram is sent at once, or lost and counted. -/
def State.notify (s : State) (e : EventRec) (b : Subscriber) : State :=
  let keep := fun (t : State) (n : Nat) => { t with mg := { t.mg with subs := t.mg.subs ++ [{ b with lost := n }] } }
  if e.sev < b.minSev then keep s b.lost
  else match b.src with
    | .pair p => keep (s.enqueue (s.fld Fld.CMD_PAIR_CFG_REPLY_Q p) (e.packet b.lost) (.notice p e)) b.lost
    | _ =>
      if s.portOn then keep (s.sendPacket b.src (e.packet b.lost)) 0
      else keep (s.bump .MGMT_CNT_EVLOST) (min (b.lost + 1) 0xFFFFFFFF)

/-- Raises an event: it is numbered and kept, sent to the subscribers, and FAULT and FATAL assert SMBALERT_N. -/
def State.event (s : State) (code sev : Nat) (unit : Nat := 0xFF) (arg0 arg1 : Nat := 0) : State :=
  let e : EventRec := ⟨s.mg.seq, s.stamp, s.tm.ns, code, sev, unit, arg0, arg1⟩
  let s1 := { s with mg := { s.mg with
    seq := (s.mg.seq + 1) % 2 ^ 32
    log := (s.mg.log ++ [e]).drop (s.mg.log.length + 1 - 1024)
    smbAlert := s.mg.smbAlert || decide (2 ≤ sev)
    subs := [] } }
  s.mg.subs.foldl (fun t b => t.notify e b) s1

end Sys2Proof.Machine
end

