-- ==== Sys2Proof/Machine/Cave.lean ====
section
/-!
DEFINITION. The Cave (R87 to R91): its address map, the byte views of the flow table, of image blocks and of curd
descriptors, reads and writes, and the block allocator with the ledger's block terms.
-/
namespace Sys2Proof.Machine

/-! ## The address map (Table 4.1) -/

/-- A mapped Cave address. -/
def caveMapped (a : Nat) : Bool := a < 0x1800000000 || (0x8000000000 ≤ a && a < 0x800C000000)

/-- Every address of `n` bytes from `a` is mapped. -/
def caveSpan (a n : Nat) : Bool := n = 0 || (caveMapped a && caveMapped (a + n - 1))

/-- An address in a SYSTEM region. -/
def caveSystem (a : Nat) : Bool := a < 0x40000000 || (0x8000000000 ≤ a && a < 0x8001000000)

/-- The copy A address of an address in the copy B of the flow table or of hub working storage (R87). -/
def canonAddr (a : Nat) : Nat :=
  if 0x20000000 ≤ a ∧ a < 0x34000000 then a - 0x20000000
  else if 0x34000000 ≤ a ∧ a < 0x3E800000 then a - 0x34000000 + 0x15800000
  else a

def State.owner (s : State) (blk : Nat) : Option Owner := Sparse.get none s.own blk
def State.flow (s : State) (f : Nat) : FlowEntry := Sparse.get {} s.flows f
def State.setFlow (s : State) (f : Nat) (e : FlowEntry) : State := { s with flows := Sparse.set {} s.flows f e }
def State.image (s : State) (n : Nat) : ImageSlot := Sparse.get {} s.images n
def State.setImage (s : State) (n : Nat) (i : ImageSlot) : State := { s with images := Sparse.set {} s.images n i }

/-- The 64 bytes of a flow-table entry (Table 4.6). DESIGN CHOICE, log entry 69. -/
def FlowEntry.bytes (e : FlowEntry) : List Byte :=
  leBytes 1 e.state ++ leBytes 1 e.owner ++ leBytes 2 (e.holder % 1024 + b2n e.out * 32768) ++ leBytes 2 e.sbBlocks
    ++ leBytes 1 e.sbState ++ zeros 1 ++ leBytes 8 e.sbMap ++ leBytes 4 e.refs ++ leBytes 4 e.last ++ leBytes 4 e.services
    ++ leBytes 4 e.gateWaits ++ leBytes 4 e.clipped ++ leBytes 4 e.suspects ++ zeros 24

/-- QUANTUM field of a curd descriptor: 0 for 125 up to 3 for 1,000. -/
def quantumCode (q : Nat) : Nat := if q = 125 then 0 else if q = 250 then 1 else if q = 500 then 2 else 3

/-- The 64 bytes of a curd descriptor (Table 3.11). DESIGN CHOICE, log entry 69. -/
def Curd.bytes (c : Curd) : List Byte :=
  leBytes 4 c.handle ++ leBytes 2 c.task ++ leBytes 2 c.index ++ leBytes 1 c.cls
    ++ leBytes 1 (b2n c.floor + 2 * b2n c.skip + 4 * b2n c.hasFlow + 8 * b2n c.outOverrun + 16 * b2n c.outAbsent)
    ++ leBytes 2 (c.budget % 1024 + quantumCode c.quantum * 1024) ++ leBytes 4 (c.beat % 2 ^ 17 + c.die % 4 * 2 ^ 17)
    ++ leBytes 2 (1000 - c.quantum) ++ leBytes 2 c.dep ++ leBytes 4 c.flow ++ leBytes 8 c.entry ++ leBytes 8 c.args
    ++ leBytes 8 c.succ ++ leBytes 2 c.nSucc ++ leBytes 1 c.prio ++ leBytes 1 c.status ++ zeros 12

/-- The curd whose descriptor holds the bytes `p`. DESIGN CHOICE, log entry 69. -/
def Curd.ofBytes (c : Curd) (p : List Byte) : Curd :=
  { c with
    handle := u32 p 0, task := u16 p 4, index := u16 p 6, cls := u8 p 8
    floor := bitAt (u8 p 9) 0, skip := bitAt (u8 p 9) 1, hasFlow := bitAt (u8 p 9) 2
    outOverrun := bitAt (u8 p 9) 3, outAbsent := bitAt (u8 p 9) 4
    budget := bits (u16 p 10) 9 0, quantum := 125 * 2 ^ bits (u16 p 10) 11 10
    beat := bits (u32 p 12) 16 0, die := bits (u32 p 12) 18 17, dep := u16 p 18, flow := u32 p 20
    entry := u64 p 24, args := u64 p 32, succ := u64 p 40, nSucc := u16 p 48, prio := u8 p 50, status := u8 p 51 }

/-- The byte a read of Cave address `a` finds, its storage being intact. DEDUCED, log entry 6; DESIGN CHOICE, log entry 69. -/
def State.caveByte (s : State) (a0 : Nat) : Byte :=
  let a := canonAddr a0
  if a < 0x14000000 then (s.flow (a / 64)).bytes.getD (a % 64) 0
  else match s.owner (a / 4096) with
    | some (.image n k) => (s.image n).bytes.getD (k * 4096 + a % 4096) 0
    | some (.order _) =>
      match s.curds.find? (fun c => c.addr == a / 64 * 64) with
      | some c => c.bytes.getD (a % 64) 0
      | none => Sparse.get 0 s.cave a
    | _ => Sparse.get 0 s.cave a

/-- `n` bytes from Cave address `a`. -/
def State.caveRead (s : State) (a n : Nat) : List Byte := (List.range n).map (fun i => s.caveByte (a + i))

/-- Stores one byte, its block being writable by the requester. Flow-table bytes change only through the queue manager
(R101), and the bytes of an image only through its load. -/
def State.caveSet (s : State) (a0 : Nat) (b : Byte) : State :=
  let a := canonAddr a0
  if !caveMapped a || a < 0x14000000 then s
  else match s.owner (a / 4096) with
    | some (.image _ _) => s
    | some (.order _) =>
      if s.curds.any (fun c => c.addr == a / 64 * 64) then
        { s with curds := s.curds.map (fun c => if c.addr = a / 64 * 64 then c.ofBytes (c.bytes.set (a % 64) b) else c) }
      else { s with cave := Sparse.set 0 s.cave a b }
    | _ => { s with cave := Sparse.set 0 s.cave a b }

/-- Stores the bytes of a string from address `a`, one by one. -/
def State.caveBytes (s : State) (a : Nat) : List Byte → State
  | [] => s
  | b :: r => (s.caveSet a b).caveBytes (a + 1) r

/-- A write of `n` bytes from address `a` makes the Cave code words that it covers whole intact (R459). -/
def State.caveHeal (s : State) (a n : Nat) : State :=
  if s.bad = [] then s
  else
    let whole := fun (mem word : Nat) =>
      let sz := if mem = 0 then 64 else 8
      mem ≤ 1 && decide (a ≤ word * sz ∧ word * sz + sz ≤ a + n ∧ 0x14000000 ≤ word * sz)
        && (match s.owner (word * sz / 4096) with | some (.image _ _) => false | _ => true)
    { s with bad := s.bad.filter (fun b => !whole b.mem b.word), merges := s.merges.filter (fun m => !whole m.mem m.word) }

/-- The stack that serves a deep-tier address: a fixed hash of its bits [39:8] (R15), which the spec does not print. DESIGN CHOICE, log entry 80. -/
def stackOf (a : Nat) : Nat := Config.caveStack (a / 256) % 4

/-- An access of `n` bytes to the deep tier takes the stacks of its granules out of self-refresh in M-REST (Table 19.2). DEDUCED,
log entry 39. -/
def State.wakeStack (s : State) (a n : Nat) : State :=
  if s.fld Fld.POWER_STAT_STATE = 2 ∧ s.pw.refresh ≠ 0 then
    { s with pw := { s.pw with refresh := (List.range (ceilDiv (a % 256 + n) 256)).foldl (fun m i =>
        if a / 256 * 256 + 256 * i < 0x8000000000 then putBit m (stackOf (a + 256 * i)) false else m) s.pw.refresh } }
  else s

/-- Stores a byte string from address `a`. -/
def State.caveWrite (s : State) (a : Nat) (p : List Byte) : State := ((s.wakeStack a p.length).caveHeal a p.length).caveBytes a p

/-- A block whose contents software may not write: IMAGE and SYSTEM blocks (R506, R150). -/
def State.blockProtected (s : State) (a : Nat) : Bool :=
  caveSystem a || (match s.owner (a / 4096) with | some (.image _ _) => true | _ => false)

/-! ## The block allocator -/

/-- First blocks and sizes of the arena, the general pool and the ring pool, as Cave address / 4,096. -/
def arenaLo : Nat := 262144
def arenaN : Nat := 13631488
def genLo : Nat := 13893632
def genN : Nat := 11272192
def ringLo : Nat := 0x8000000 + 4096
def ringN : Nat := 45056

/-- A block that can be given out; `aside` leaves out those set aside for the inputs of an order. -/
def State.blockFree (s : State) (b : Nat) (aside : Bool := true) : Bool :=
  (s.owner b).isNone && !s.fillQ.contains b && !(aside && s.orders.any (fun o => o.ranges.any (fun r => r.1 ≤ b && b < r.1 + r.2)))

/-- The first block at or cyclically after `b` of a pool that can be given out; at most `fuel` taken blocks are passed. -/
def State.nextFree (s : State) (lo n : Nat) (aside : Bool) : Nat → Nat → Nat
  | 0, b => b
  | fuel + 1, b => if s.blockFree b aside then b else s.nextFree lo n aside fuel (lo + (b + 1 - lo) % n)

/-- The block of a pool that is given out; which free one the spec leaves open. Addresses set aside for inputs are given out when
no other block is free: setting aside holds no block (R92). DESIGN CHOICE, log entry 10. -/
def State.chooseBlock (s : State) (lo n : Nat) : Nat :=
  let b := s.nextFree lo n true (s.own.length + s.fillQ.length + (s.orders.map (fun o => (o.ranges.map Prod.snd).sum)).sum) (lo + s.pick n)
  if s.blockFree b then b else s.nextFree lo n false (s.own.length + s.fillQ.length) b

def State.setOwner (s : State) (b : Nat) (o : Option Owner) : State := { s with own := Sparse.set none s.own b o }

/-- Takes an arena block for an order. -/
def State.takeArena (s : State) (h : Nat) : Nat × State :=
  let b := s.chooseBlock arenaLo arenaN
  (b, { (s.setOwner b (some (.order h))).used with
        blk := { s.blk with freeArena := s.blk.freeArena - 1, order := s.blk.order + 1 } })

/-- A write for an order in flight to arena block `b` takes the block when it is free (Table 4.2). DEDUCED, log entry 25. -/
def State.touchArena (s : State) (h b : Nat) : State :=
  if arenaLo ≤ b ∧ b < arenaLo + arenaN ∧ s.owner b = none ∧ s.orders.any (fun o => o.handle == h) then
    { s.setOwner b (some (.order h)) with
      blk := { s.blk with freeArena := s.blk.freeArena - 1, order := s.blk.order + 1 } }
  else s

/-- General-pool blocks that are free and filled (R91, R469). -/
def State.genAvail (s : State) : Nat := s.blk.freeGen - (s.fillQ.filter (fun b => (s.owner b).isNone)).length

/-- Ledger terms after `n` general-pool blocks go to an owner. -/
def genTaken (t : BlockTerms) (o : Owner) (n : Nat) : BlockTerms :=
  let t := { t with freeGen := t.freeGen - n }
  match o with
  | .flow _ => { t with flow := t.flow + n }
  | .image _ _ => { t with image := t.image + n }
  | _ => { t with queue := t.queue + n }

/-- Takes one general-pool block for an owner. -/
def State.takeGen (s : State) (o : Owner) : Nat × State :=
  let b := s.chooseBlock genLo genN
  (b, { (s.setOwner b (some o)).used with blk := genTaken s.blk o 1 })

/-- Takes `n` general-pool blocks; block `i` gets the owner `f i`. -/
def State.takeGens (s : State) (f : Nat → Owner) : Nat → List Nat × State
  | 0 => ([], s)
  | n + 1 =>
    let r := s.takeGens f n
    let t := r.2.takeGen (f n)
    (r.1 ++ [t.1], t.2)

/-- Returns one block to its pool: a general-pool block waits for its fill (R91). -/
def State.returnBlock (s : State) (b : Nat) : State :=
  match s.owner b with
  | none => s
  | some o =>
    let s1 := s.setOwner b none
    if b < 0x8000000 then
      match o with
      | .order _ => { s1 with blk := { s.blk with freeArena := s.blk.freeArena + 1, order := s.blk.order - 1 } }
      | .flow _ => { s1 with fillQ := s.fillQ ++ [b], blk := { s.blk with freeGen := s.blk.freeGen + 1, flow := s.blk.flow - 1 } }
      | .image _ _ => { s1 with fillQ := s.fillQ ++ [b], blk := { s.blk with freeGen := s.blk.freeGen + 1, image := s.blk.image - 1 } }
      | .queue _ => { s1 with fillQ := s.fillQ ++ [b], blk := { s.blk with freeGen := s.blk.freeGen + 1, queue := s.blk.queue - 1 } }
    else { s1 with blk := { s.blk with nearFree := s.blk.nearFree + 1, nearQueue := s.blk.nearQueue - 1 } }

def State.returnBlocks (s : State) (l : List Nat) : State := l.foldl State.returnBlock s

/-- The blocks an owner test selects, in address order. -/
def State.blocksOf (s : State) (p : Owner → Bool) : List Nat :=
  (s.own.filter (fun e => match e.2 with | some o => p o | none => false)).map Prod.fst

/-- A run of `n` free ring-pool blocks starts at `b`. -/
def State.runFree (s : State) (n b : Nat) : Bool :=
  ringLo ≤ b && b + n ≤ ringLo + ringN && !(s.own.any (fun e => b ≤ e.1 && e.1 < b + n))

/-- Where a contiguous run of `n` ring-pool blocks is taken; which run the spec leaves open. -/
def State.findRun (s : State) (n : Nat) : Option Nat :=
  let x := ringLo + s.pick ringN
  if s.runFree n x then some x
  else ((ringLo :: s.own.map (fun e => e.1 + 1)).find? (s.runFree n))

/-- Takes the run of `n` ring-pool blocks from `b` for queue `q`. -/
def State.takeRun (s : State) (q b n : Nat) : State :=
  { (List.range n).foldl (fun t i => t.setOwner (b + i) (some (.queue q))) s.used with
    blk := { s.blk with nearFree := s.blk.nearFree - n, nearQueue := s.blk.nearQueue + n } }

/-- A run of `n` blocks from `b` is free and filled, and with `aside` set aside for no order. -/
def State.blocksFree (s : State) (lo m n : Nat) (aside : Bool) (b : Nat) : Bool :=
  lo ≤ b && b + n ≤ lo + m && !(s.own.any (fun e => b ≤ e.1 && e.1 < b + n)) && !(s.fillQ.any (fun e => b ≤ e && e < b + n))
    && !(aside && s.orders.any (fun o => o.ranges.any (fun r => r.1 < b + n && b < r.1 + r.2)))

/-- Where a run of `n` free blocks of a pool is taken; which one the spec leaves open. -/
def State.pickRun (s : State) (lo m n : Nat) (aside : Bool := true) : Option Nat :=
  let x := lo + s.pick m
  if s.blocksFree lo m n aside x then some x
  else ((lo :: (s.own.map (fun e => e.1 + 1) ++ s.fillQ.map (· + 1) ++ s.orders.flatMap (fun o => o.ranges.map (fun r => r.1 + r.2)))).find?
    (s.blocksFree lo m n aside))

/-- Takes a run of general-pool blocks for a descriptor of queue `q`. -/
def State.takeGenRun (s : State) (q b n : Nat) : State :=
  { (List.range n).foldl (fun t i => t.setOwner (b + i) (some (.queue q))) s.used with blk := genTaken s.blk (.queue q) n }

/-- Sets aside arena addresses for `n` bytes of an order's data: its Cave address and the range taken; a run set aside for no order,
else one that no order holds a block of, else the arena's first. Setting aside holds no block (R92). DEDUCED, log entry 25. -/
def State.setAside (s : State) (n : Nat) : Nat × (Nat × Nat) :=
  let k := ceilDiv n 4096
  let b := ((s.pickRun arenaLo arenaN k).getD ((s.pickRun arenaLo arenaN k false).getD arenaLo))
  (b * 4096, (b, k))

end Sys2Proof.Machine
end

