-- ==== Sys2Proof/Machine/Fp.lean ====
section
/-!
DEFINITION. Binary32 arithmetic of the complex math unit (R168, R169): exact values rounded to nearest, ties to even;
subnormals read as zero, infinities as ±MAXF, and no result is an infinity, a NaN or a subnormal. Transcendental results
are computed from integer fixed-point approximations far finer than half an ulp (log entry 12).
-/
namespace Sys2Proof.Machine

/-- A binary32 word with the numeric flags the operation raises: bit 0 INVALID, 1 DIVZERO, 2 OVERFLOW, 3 UNDERFLOW,
4 NOTPD (CMUCSR.FLAGS). -/
abbrev FRes := Nat × Nat

def fInvalid : Nat := 1
def fDivZero : Nat := 2
def fOverflow : Nat := 4
def fUnderflow : Nat := 8
def fNotPd : Nat := 16

/-- The largest finite binary32 magnitude. -/
def maxF : Nat := 0x7F7FFFFF

/-- An exact dyadic value: sign and magnitude m × 2^e. -/
structure Dy where
  neg : Bool
  m : Nat
  e : Int
  deriving DecidableEq, Repr

def isNaN (x : Nat) : Bool := bits x 30 23 == 255 && bits x 22 0 != 0

/-- The value of a binary32 input (R168): subnormal as zero, infinite as MAXF. -/
def fdec (x : Nat) : Dy :=
  let ex := bits x 30 23
  if ex = 0 then ⟨bitAt x 31, 0, 0⟩
  else if ex = 255 then ⟨bitAt x 31, 2 ^ 24 - 1, 104⟩
  else ⟨bitAt x 31, 2 ^ 23 + bits x 22 0, (ex : Int) - 150⟩

def signBit (neg : Bool) : Nat := if neg then 2 ^ 31 else 0

/-- Rounds the magnitude m × 2^e, plus a little more when `sticky`, to nearest even. With `sticky`, `m` has at least 26 bits. -/
def rnMag (neg : Bool) (m : Nat) (e : Int) (sticky : Bool) : FRes :=
  if m = 0 then (signBit neg, 0)
  else
    let len := m.log2 + 1
    let sh := len - 24
    let q0 := m / 2 ^ sh
    let r := m % 2 ^ sh
    let up := if sh = 0 then false
      else decide (2 ^ (sh - 1) < r) || (r == 2 ^ (sh - 1) && (sticky || q0 % 2 == 1))
    let q1 := if up then q0 + 1 else q0
    -- left-align a short magnitude to 24 bits
    let q2 := if len < 24 then q1 * 2 ^ (24 - len) else q1
    let ex0 : Int := e + (sh : Int) + (if len < 24 then -((24 - len : Nat) : Int) else 0)
    let q3 := if q2 = 2 ^ 24 then 2 ^ 23 else q2
    let ex := (if q2 = 2 ^ 24 then ex0 + 1 else ex0) + 150
    if ex > 254 then (signBit neg + maxF, fOverflow)
    else if ex < 1 then (signBit neg, fUnderflow)
    else (signBit neg + ex.toNat * 2 ^ 23 + (q3 - 2 ^ 23), 0)

/-- Rounds an exact dyadic value. -/
def rnDy (d : Dy) : FRes := rnMag d.neg d.m d.e false

/-- The exact sum of two dyadic values; a zero sum is negative only when both are. -/
def dyAdd (a b : Dy) : Dy :=
  let e := min a.e b.e
  let x : Int := (if a.neg then -1 else 1) * (a.m * 2 ^ (a.e - e).toNat : Nat)
  let y : Int := (if b.neg then -1 else 1) * (b.m * 2 ^ (b.e - e).toNat : Nat)
  let z := x + y
  ⟨if z = 0 then a.neg && b.neg else decide (z < 0), z.natAbs, e⟩

def dyMul (a b : Dy) : Dy := ⟨a.neg != b.neg, a.m * b.m, a.e + b.e⟩
def dyNeg (a : Dy) : Dy := { a with neg := !a.neg }

def fadd (x y : Nat) : FRes := rnDy (dyAdd (fdec x) (fdec y))
def fsub (x y : Nat) : FRes := rnDy (dyAdd (fdec x) (dyNeg (fdec y)))
def fmul (x y : Nat) : FRes := rnDy (dyMul (fdec x) (fdec y))
def fneg (x : Nat) : Nat := if bitAt x 31 then x - 2 ^ 31 else x + 2 ^ 31
/-- x < y on binary32 words that are not NaN. -/
def flt (x y : Nat) : Bool := let d := dyAdd (fdec x) (dyNeg (fdec y)); d.neg && d.m != 0
def fzero (x : Nat) : Bool := (fdec x).m == 0

/-- The quotient of two non-zero dyadic values, rounded. -/
def rnQuot (a b : Dy) : FRes :=
  let n := a.m * 2 ^ 60
  rnMag (a.neg != b.neg) (n / b.m) (a.e - 60 - b.e) (n % b.m != 0)

/-- DIV of R168. -/
def fdiv (x y : Nat) : FRes :=
  let a := fdec x; let b := fdec y
  if b.m = 0 then (if a.m = 0 then (0, fInvalid) else (signBit a.neg + maxF, fDivZero))
  else if a.m = 0 then (signBit (a.neg != b.neg), 0)
  else rnQuot a b

/-- Integer square root by Newton's iteration from above, `fuel` rounds. -/
def isqrtAux (n : Nat) : Nat → Nat → Nat
  | 0, x => x
  | f + 1, x => let y := (x + n / x) / 2; if y < x then isqrtAux n f y else x
def isqrt (n : Nat) : Nat := if n = 0 then 0 else isqrtAux n (n.log2 + 2) (2 ^ (n.log2 / 2 + 1))

/-- The square root of a non-negative dyadic value, rounded. -/
def rnSqrt (d : Dy) : FRes :=
  if d.m = 0 then (0, 0)
  else
    -- make the exponent even and keep at least 60 bits of root
    let k : Nat := 120 + (d.e % 2).toNat
    let n := d.m * 2 ^ k
    let r := isqrt n
    rnMag false r ((d.e - k) / 2) (r * r != n)

/-- SQRT of R168. -/
def fsqrt (x : Nat) : FRes :=
  let a := fdec x
  if a.m = 0 then (signBit a.neg, 0) else if a.neg then (0, fInvalid) else rnSqrt a

/-- RCP of R168. -/
def frcp (x : Nat) : FRes :=
  let a := fdec x
  if a.m = 0 then (signBit a.neg + maxF, fDivZero) else rnQuot ⟨false, 1, 0⟩ a

/-- RSQRT of R168: 1 / sqrt(m 2^e) = sqrt(2^k / m) 2^..., on integers. -/
def frsqrt (x : Nat) : FRes :=
  let a := fdec x
  if a.m = 0 then (maxF, fDivZero) else if a.neg then (0, fInvalid)
  else
    let k : Nat := 200 + (a.e % 2).toNat
    let n := 2 ^ k
    let q := n / a.m
    let r := isqrt q
    rnMag false r ((-a.e - k) / 2) (r * r * a.m != n)

/-! ## Fixed-point transcendental functions -/

/-- arctan(1/n) with `p` fraction bits, by its series. -/
def atanInvAux (n2 : Nat) : Nat → Nat → Nat → Int
  | 0, _, _ => 0
  | f + 1, t, k => (if k % 4 = 1 then ((t / k : Nat) : Int) else -((t / k : Nat) : Int)) + atanInvAux n2 f (t / n2) (k + 2)
def atanInv (p n : Nat) : Int := atanInvAux (n * n) (p + 8) (2 ^ p / n) 1

/-- π with `p` fraction bits (Machin's formula). -/
def piFix (p : Nat) : Nat := ((4 * (4 * atanInv (p + 16) 5 - atanInv (p + 16) 239)).toNat) / 2 ^ 16

/-- Sum of the alternating Taylor terms t, t x²/((k+1)(k+2)), ... with `p` fraction bits. -/
def taylorAlt (p x2 : Nat) : Nat → Nat → Nat → Int
  | 0, _, _ => 0
  | f + 1, t, k => (t : Int) - taylorAlt p x2 f (t * x2 / 2 ^ p / ((k + 1) * (k + 2))) (k + 2)

/-- sin and cos of x in [0, π/4], `p` fraction bits. DEDUCED, log entry 12. -/
def sinFix (p x : Nat) : Nat := (taylorAlt p (x * x / 2 ^ p) (p / 2 + 8) x 1).toNat
def cosFix (p x : Nat) : Nat := (taylorAlt p (x * x / 2 ^ p) (p / 2 + 8) (2 ^ p) 0).toNat

/-- arctan of t in [0, 1], `p` fraction bits, after halving the argument twice. -/
def atanSeries (p t2 : Nat) : Nat → Nat → Nat → Int
  | 0, _, _ => 0
  | f + 1, t, k => ((t / k : Nat) : Int) - atanSeries p t2 f (t * t2 / 2 ^ p) (k + 2)
def halveTan (p t : Nat) : Nat := t * 2 ^ p / (2 ^ p + isqrt (2 ^ (2 * p) + t * t))
def atanFix (p t : Nat) : Nat :=
  let u := halveTan p (halveTan p t)
  4 * (atanSeries p (u * u / 2 ^ p) (p / 2 + 8) u 1).toNat

/-- sin(2πθ) and cos(2πθ) of a fraction θ = m / 2^k of a turn, with signs; exact at multiples of a quarter turn. -/
def sinTurn (m k : Nat) : FRes :=
  let t := m % 2 ^ k
  -- quadrant and position inside it, in units of 2^-k of a quarter
  let q := 4 * t / 2 ^ k
  let r := 4 * t % 2 ^ k
  let neg := decide (2 ≤ q)
  let r' := if q % 2 = 1 then 2 ^ k - r else r       -- sin rises over r' from 0 to 1
  if r = 0 then (if q % 2 = 0 then (0, 0) else (signBit neg + 0x3F800000, 0))
  else
    let p := 200 + k - r'.log2
    let half := decide (2 * r' ≤ 2 ^ k)
    let x := (if half then r' else 2 ^ k - r') * piFix p / 2 ^ (k + 1)
    rnMag neg (if half then sinFix p x else cosFix p x) (-(p : Int)) true
def cosTurn (m k : Nat) : FRes := sinTurn (4 * m + 2 ^ k) (k + 2)

/-- sin and cos of 2πθ for a binary32 θ: the fraction of a turn taken exactly. DEDUCED, log entry 12. -/
def fTurn (cosine : Bool) (x : Nat) : FRes :=
  let d := fdec x
  if d.m = 0 then (if cosine then (0x3F800000, 0) else (signBit d.neg, 0))
  else
    let k : Nat := if d.e < 0 then (-d.e).toNat else 0
    let m := if d.e < 0 then d.m else d.m * 2 ^ d.e.toNat
    if cosine then cosTurn m k
    else
      let r := sinTurn m k
      if d.neg then (if r.1 = 0 then (2 ^ 31, r.2) else (fneg r.1, r.2)) else r

/-- atan2(y, x) / 2π in turns, from −0.5 to 0.5; 0 for the zero vector. DEDUCED, log entry 12. -/
def atanTurn (y x : Dy) : FRes :=
  if y.m = 0 ∧ x.m = 0 then (0, 0)
  else
    let e := min y.e x.e
    let a := y.m * 2 ^ (y.e - e).toNat
    let b := x.m * 2 ^ (x.e - e).toNat
    if a = 0 then (if x.neg then (signBit y.neg + 0x3F000000, 0) else (signBit y.neg, 0))
    else if b = 0 then (signBit y.neg + 0x3E800000, 0)
    else if a = b then (signBit y.neg + (if x.neg then 0x3EC00000 else 0x3E000000), 0)
    else
      let p := 200 + a.log2 + b.log2 + 2 - 2 * (min a b).log2
      let lo := min a b; let hi := max a b
      let turn := atanFix p (lo * 2 ^ p / hi) * 2 ^ p / (2 * piFix p)   -- in [0, 1/8]
      let first := if a < b then turn else 2 ^ p / 4 - turn             -- first quadrant
      let v := if x.neg then 2 ^ p / 2 - first else first
      rnMag y.neg v (-(p : Int)) true

/-- log2 bits of a mantissa in [1, 2), by repeated squaring at `p` fraction bits. -/
def log2Bits (p : Nat) : Nat → Nat → Nat → Nat
  | 0, _, a => a
  | f + 1, x, a =>
    let y := x * x / 2 ^ p
    if 2 ^ (p + 1) ≤ y then log2Bits p f (y / 2) (2 * a + 1) else log2Bits p f y (2 * a)

/-- LOG2 of R168. DEDUCED, log entry 12. -/
def flog2 (x : Nat) : FRes :=
  let d := fdec x
  if d.m = 0 then (2 ^ 31 + maxF, fDivZero)
  else if d.neg then (0, fInvalid)
  else
    let ex : Int := d.e + d.m.log2
    let fr := log2Bits 300 110 (d.m * 2 ^ (300 - d.m.log2)) 0     -- 110 fraction bits
    let v : Int := ex * (2 ^ 110 : Nat) + fr
    if d.m = 2 ^ d.m.log2 then rnMag (decide (ex < 0)) ex.natAbs 0 false
    else rnMag (decide (v < 0)) v.natAbs (-110) true

/-- 2^(fraction), the fraction's bits taken from bit `i` down; `c` is 2^(2^-j) at 200 fraction bits. -/
def exp2Bits (fr : Nat) : Nat → Nat → Nat → Nat
  | 0, _, a => a
  | i + 1, c, a =>
    let c' := isqrt (c * 2 ^ 200)
    exp2Bits fr i c' (if bitAt fr i then a * c' / 2 ^ 200 else a)

/-- EXP2 of R168. DEDUCED, log entry 12. -/
def fexp2 (x : Nat) : FRes :=
  let d := fdec x
  if d.m = 0 then (0x3F800000, 0)
  else if d.e < -60 then (0x3F800000, 0)
  else if d.e > 0 then (if d.neg then (0, fUnderflow) else (maxF, fOverflow))
  else
    let k := (-d.e).toNat
    let v : Int := if d.neg then -(d.m : Int) else d.m
    let n : Int := v / (2 ^ k : Nat)
    let fr := (v % (2 ^ k : Nat)).toNat
    if n > 127 then (maxF, fOverflow) else if n < -150 then (0, fUnderflow)
    else if fr = 0 then rnMag false 1 n false
    else rnMag false (exp2Bits fr k (2 ^ 201) (2 ^ 200)) (n - 200) true

/-! ## Integer and fixed-point conversions (R167) -/

/-- A signed integer times 2^e as binary32. -/
def fofInt (n : Int) (e : Int) : FRes := rnMag (decide (n < 0)) n.natAbs e false

/-- A dyadic value rounded to the nearest integer, ties to even. -/
def rneDy (d : Dy) : Int :=
  let n : Nat :=
    if 0 ≤ d.e then d.m * 2 ^ d.e.toNat
    else
      let s := (-d.e).toNat
      let q := d.m / 2 ^ s; let r := d.m % 2 ^ s
      if decide (2 ^ (s - 1) < r) || (r == 2 ^ (s - 1) && q % 2 == 1) then q + 1 else q
  if d.neg then -(n : Int) else n

end Sys2Proof.Machine
end

