-- ==== Sys2Proof/Machine/Cmu.lean ====
section
/-!
DEFINITION. The operations of the complex math unit (R166 to R169, Table 6.12) on lists of 32 lanes. Each returns the
result lanes and the numeric flags.
-/
namespace Sys2Proof.Machine

/-- A rounded result with its flags gathered into the running set. -/
def tickF (r : FRes) : StateM Nat Nat := fun fl => (r.1, fl ||| r.2)

/-- A binary32 complex value. -/
abbrev CF := Nat × Nat

/-- x·u with complex rn arithmetic (R169). -/
def cmulF (a b : CF) : StateM Nat CF := do
  let xu ← tickF (fmul a.1 b.1); let yv ← tickF (fmul a.2 b.2)
  let xv ← tickF (fmul a.1 b.2); let yu ← tickF (fmul a.2 b.1)
  let re ← tickF (fsub xu yv); let im ← tickF (fadd xv yu)
  return (re, im)

/-- a times the conjugate of b. -/
def cmulConjF (a b : CF) : StateM Nat CF := do
  let xu ← tickF (fmul a.1 b.1); let yv ← tickF (fmul a.2 b.2)
  let xv ← tickF (fmul a.1 b.2); let yu ← tickF (fmul a.2 b.1)
  let re ← tickF (fadd xu yv); let im ← tickF (fsub yu xv)
  return (re, im)

def csubF (a b : CF) : StateM Nat CF := do
  let re ← tickF (fsub a.1 b.1); let im ← tickF (fsub a.2 b.2)
  return (re, im)

def caddF (a b : CF) : StateM Nat CF := do
  let re ← tickF (fadd a.1 b.1); let im ← tickF (fadd a.2 b.2)
  return (re, im)

/-- crot of R169. -/
def crotF (a : CF) (theta : Nat) : StateM Nat CF := do
  let c ← tickF (fTurn true theta); let s ← tickF (fTurn false theta)
  let rc ← tickF (fmul a.1 c); let is ← tickF (fmul a.2 s)
  let rs ← tickF (fmul a.1 s); let ic ← tickF (fmul a.2 c)
  let re ← tickF (fsub rc is); let im ← tickF (fadd rs ic)
  return (re, im)

/-- cdiv of R169. -/
def cdivF (a b : CF) : StateM Nat CF := do
  let rr ← tickF (fmul b.1 b.1); let ii ← tickF (fmul b.2 b.2)
  let d ← tickF (fadd rr ii)
  if fzero d then
    let _ ← tickF (0, fDivZero)
    return (0, 0)
  else
    let p1 ← tickF (fmul a.1 b.1); let p2 ← tickF (fmul a.2 b.2)
    let q1 ← tickF (fmul a.2 b.1); let q2 ← tickF (fmul a.1 b.2)
    let n1 ← tickF (fadd p1 p2); let n2 ← tickF (fsub q1 q2)
    let re ← tickF (fdiv n1 d); let im ← tickF (fdiv n2 d)
    return (re, im)

/-- Element (i, j) of a matrix held row by row with `n` columns. -/
def mat (m : List CF) (n i j : Nat) : CF := m.getD (n * i + j) (0, 0)
def setMat (m : List CF) (n i j : Nat) (x : CF) : List CF := m.set (n * i + j) x

/-- Column j of the Cholesky factor of an n × n matrix, below the diagonal, `r` the reciprocal of the diagonal. -/
def cholCol (a : List CF) (n j r : Nat) : List Nat → List CF → StateM Nat (List CF)
  | [], l => return l
  | i :: rest, l => do
    let t ← (List.range j).foldlM (fun t k => do
      let q ← cmulConjF (mat l n i k) (mat l n j k)
      csubF t q) (mat a n i j)
    let re ← tickF (fmul t.1 r); let im ← tickF (fmul t.2 r)
    cholCol a n j r rest (setMat l n i j (re, im))

/-- The factorisation of R169 for columns `j` on, `n` by `n`. A non-positive pivot gives a zero diagonal and NOTPD. -/
def cholF (a : List CF) (n : Nat) : List Nat → List CF → StateM Nat (List CF)
  | [], l => return l
  | j :: rest, l => do
    let d ← (List.range j).foldlM (fun d k => do
      let rr ← tickF (fmul (mat l n j k).1 (mat l n j k).1)
      let ii ← tickF (fmul (mat l n j k).2 (mat l n j k).2)
      let q ← tickF (fadd rr ii)
      tickF (fsub d q)) (mat a n j j).1
    let below := (List.range n).filter (fun i => decide (j < i))
    if fzero d || bitAt d 31 then
      let _ ← tickF (0, fNotPd)
      let l1 ← cholCol a n j 0 below (setMat l n j j (0, 0))
      cholF a n rest l1
    else
      let q ← tickF (fsqrt d)
      let r ← tickF (fdiv 0x3F800000 q)
      let l1 ← cholCol a n j r below (setMat l n j j (q, 0))
      cholF a n rest l1

/-- |z| of a complex element, rounded once. -/
def cabsF (z : CF) : FRes :=
  rnSqrt (dyAdd (dyMul (fdec z.1) (fdec z.1)) (dyMul (fdec z.2) (fdec z.2)))

/-- A lane list as 16 complex elements, and back. -/
def lanesZ (l : List Nat) : List CF := (List.range 16).map (fun k => (natAt l (2 * k), natAt l (2 * k + 1)))
def zLanes (l : List CF) : List Nat := l.flatMap (fun z => [z.1, z.2])

/-- An operation on one element, with the NaN rule of R168. -/
def guardNaN (ins : List Nat) (r : FRes) : FRes := if ins.any isNaN then (0, fInvalid) else r

/-- Lane-wise results and the union of their flags. -/
def gather (l : List FRes) : List Nat × Nat := (l.map Prod.fst, l.foldl (fun a r => a ||| r.2) 0)

/-- A complex operation on each of 16 elements; `ins` are the lanes an element reads. -/
def gatherZ (f : Nat → StateM Nat CF) (ins : Nat → List Nat) : List Nat × Nat :=
  let rs := (List.range 16).map (fun k => if (ins k).any isNaN then ((0, 0), fInvalid) else (f k).run 0)
  (zLanes (rs.map Prod.fst), rs.foldl (fun a r => a ||| r.2) 0)

/-- A C16 lane as two binary32 values, integer / 32,768 (CMV.TO). -/
def c16ToZ (x : Nat) : List Nat := [(fofInt (sext 16 x) (-15)).1, (fofInt (sext 16 (x / 65536)) (-15)).1]

/-- x × 2^e rounded to an integer, a NaN giving 0 with INVALID. -/
def cvtInt (x : Nat) (e lo hi : Int) : Int × Nat :=
  if isNaN x then (0, fInvalid)
  else (clampI lo hi (rneDy { fdec x with e := (fdec x).e + e }), 0)

/-- The result of a CMU operation: whether it writes a v-register, its first lane, the lanes, and the flags. `va` is
the vector source of CMV.TO; `a` and `b` are c-register sources; `e` is field B as a signed exponent. -/
def cmuResult (func mod : Nat) (a b va : List Nat) (e : Int) : Bool × Nat × List Nat × Nat :=
  let un := fun (f : Nat → FRes) => let g := gather (a.map (fun x => guardNaN [x] (f x))); (false, 0, g.1, g.2)
  let z := lanesZ a
  if func = 0x00 then
    if mod = 0 then (false, 0, va, 0)
    else if mod = 1 then let g := gather (va.map (fun x => fofInt (sext 32 x) 0)); (false, 0, g.1, g.2)
    else (false, 0, ((va.drop (16 * (mod - 2))).take 16).flatMap c16ToZ, 0)
  else if func = 0x01 then
    if mod = 0 then (true, 0, a, 0)
    else if mod = 1 then
      let rs := a.map (fun x => cvtInt x e (-(2 ^ 31)) (2 ^ 31 - 1))
      (true, 0, rs.map (fun r => enc 32 r.1), rs.foldl (fun f r => f ||| r.2) 0)
    else
      -- a NaN in either part makes the element 0 (R168)
      let rs := z.map (fun q => if isNaN q.1 || isNaN q.2 then (((0, fInvalid), (0, 0)) : (Int × Nat) × (Int × Nat))
        else (cvtInt q.1 (15 + e) (-32768) 32767, cvtInt q.2 (15 + e) (-32768) 32767))
      (true, 16 * (mod - 2), rs.map (fun r => enc 16 r.1.1 + 65536 * enc 16 r.2.1),
        rs.foldl (fun f r => f ||| r.1.2 ||| r.2.2) 0)
  else if func = 0x02 then un frcp
  else if func = 0x03 then un frsqrt
  else if func = 0x04 then un fexp2
  else if func = 0x05 then un flog2
  else if func = 0x06 then
    let g := gatherZ (fun k => crotF (z.getD k (0, 0)) (natAt b (2 * k))) (fun k => [natAt a (2 * k), natAt a (2 * k + 1), natAt b (2 * k)])
    (false, 0, g.1, g.2)
  else if func = 0x07 ∨ func = 0x08 then
    let rs := z.map (fun q => if isNaN q.1 || isNaN q.2 then ((0, fInvalid), (0, 0))
      else (cabsF q, if func = 0x07 then atanTurn (fdec q.2) (fdec q.1) else (0, 0)))
    (false, 0, rs.flatMap (fun r => [r.1.1, r.2.1]), rs.foldl (fun f r => f ||| r.1.2 ||| r.2.2) 0)
  else if func = 0x10 then
    let g := gather ((List.range 32).map (fun i => guardNaN [natAt a i, natAt b i] (fdiv (natAt a i) (natAt b i)))); (false, 0, g.1, g.2)
  else if func = 0x11 then
    let g := gatherZ (fun k => cdivF (z.getD k (0, 0)) ((lanesZ b).getD k (0, 0)))
      (fun k => [natAt a (2 * k), natAt a (2 * k + 1), natAt b (2 * k), natAt b (2 * k + 1)])
    (false, 0, g.1, g.2)
  else if func = 0x12 then un fsqrt
  else
    let used := (List.range 4).flatMap (fun i => (List.range (i + 1)).flatMap (fun j =>
      if i = j then [(mat z 4 i j).1] else [(mat z 4 i j).1, (mat z 4 i j).2]))
    if used.any isNaN then (false, 0, List.replicate 32 0, fInvalid)
    else
      let r := (cholF z 4 (List.range 4) (List.replicate 16 (0, 0))).run 0
      (false, 0, zLanes r.1, r.2)

/-- FUNC values of Table 6.12, and the long ones. -/
def cmuFuncOk (f : Nat) : Bool := f ≤ 0x08 || (0x10 ≤ f && f ≤ 0x13)
def cmuLong (f : Nat) : Bool := 0x10 ≤ f
/-- Latencies of Table 6.12. -/
def cmuLat (f : Nat) : Nat := natAt [2, 2, 4, 5, 6, 6, 8, 8, 6] f + (if cmuLong f then 24 else 0)

end Sys2Proof.Machine
end

