-- ==== Sys2Proof/Machine/Calendar.lean ====
section
/-!
DEFINITION. The resource calendar (R35 to R37, R42, R48 to R50, R57): pool capacities, columns, reservations, and the
checks and withdrawals of Table 2.6.
-/
namespace Sys2Proof.Machine

/-- The quantum of a budget (R38): the smallest of 125, 250, 500, 1,000 that is at least b + 1. -/
def quantumOf (b : Nat) : Nat :=
  if b + 1 ≤ 125 then 125 else if b + 1 ≤ 250 then 250 else if b + 1 ≤ 500 then 500 else 1000

/-- Per-die pools (Table 2.4). -/
def perDiePool (p : Nat) : Bool := p ≤ 7
def quantisedPool (p : Nat) : Bool := p ≤ 5 || p = 0xC || p = 0xD

/-- How many instances a pool has: dies, ports, links, lease slots, or one. -/
def poolInstances (p : Nat) : Nat :=
  if p ≤ 7 then 4 else if p = 0xE then 16 else if p = 0xF then 12 else if p = 0x10 then 16 else 1

/-- Admittable capacity of a capacity at margin `m` (R36). -/
def admittable (cap m : Nat) : Nat := cap - ceilDiv (cap * m) 64

/-- Engines of a die that serve pools LDEC, LENC, POLAR and TURBO: first number and count, in the order of ENG_FENCE. -/
def enginePool (p : Nat) : Nat × Nat :=
  if p = 2 then (0, 8) else if p = 3 then (8, 4) else if p = 4 then (12, 2) else (14, 2)

/-- The capacity of a pool in columns that open now for beat `b` (Table 2.4, R50). -/
def CapState.capacity (c : CapState) (pool i b : Nat) : Nat :=
  let dieOn := bitAt c.dies i
  let tiles := popCount (c.tiles / 2 ^ (16 * i)) 16
  if c.closed then 0
  else if pool = 0 then (if dieOn then 4000 * tiles else 0)
  else if pool = 1 then (if dieOn then 1000 * tiles else 0)
  else if pool ≤ 5 then
    (if dieOn then 1000 * ((enginePool pool).2 - popCount (natAt c.engFence i / 2 ^ (enginePool pool).1) (enginePool pool).2) else 0)
  else if pool ≤ 7 then (if dieOn then 3125000 else 0)
  else if pool = 8 then 9375000
  else if pool = 9 then 64000
  else if pool ≤ 0xB then 109375
  else if pool = 0xC then 1000 * (4 - popCount c.pxFence 4)
  else if pool = 0xD then 1000
  else if pool = 0xE then natAt c.egress i
  else if pool = 0xF then (match c.fabNext with | some (e, l) => if epochOf b = e then natAt l i else natAt c.fabTt i | none => natAt c.fabTt i)
  else if pool = 0x10 then (c.remote.filter (fun r => r.slot == i && r.epoch == epochOf (beatAdd b 1))).foldl (fun a r => a + r.amount) 0
  else 1024

/-- Admittable capacity of a pool in a column that opens now: REMOTE and SENTINEL carry no margin (R36). -/
def CapState.admits (c : CapState) (m pool i b : Nat) : Nat :=
  if pool = 0x10 ∨ pool = 0x11 then c.capacity pool i b else admittable (c.capacity pool i b) m

/-- Every (pool, index) of a column. -/
def allPools : List (Nat × Nat) :=
  (List.range 18).flatMap (fun p => (List.range (poolInstances p)).map (fun i => (p, i)))

/-- What the leases granted for a beat's epoch hold of one cell (R325): AMOUNT, LINK both ways, CAVE and one SENTINEL. -/
def CapState.leased (c : CapState) (pool i b : Nat) : Nat :=
  ((c.grants.filter (fun g => g.1 == epochOf b)).map (fun (_, p, d, a, cv, ln) =>
    (if pool = p ∧ i = d then a else 0) + (if (pool = 6 ∨ pool = 7) ∧ i = d then ln else 0)
      + (if pool = 8 then cv else 0) + (if pool = 0x11 then 1 else 0))).sum

/-- A cell as its column opens: the leases' amounts are reserved. -/
def newCell (c : CapState) (m b pool i : Nat) : PoolCell :=
  let a := c.admits m pool i b
  let r := min (c.leased pool i b) a
  ⟨pool, i, a, a - r, r, c.capacity pool i b⟩

/-- A column as it opens. -/
def newColumn (c : CapState) (m b : Nat) : Column := ⟨b, m, allPools.map (fun pi => newCell c m b pi.1 pi.2)⟩

def findCell (cal : List Column) (b pool i : Nat) : Option PoolCell :=
  match cal.find? (fun c => c.beat == b) with
  | none => none
  | some c => c.cells.find? (fun x => x.pool == pool && x.index == i)

/-- Admittable and reserved amounts, 0 outside the calendar. -/
def admitAt (cal : List Column) (b pool i : Nat) : Nat := match findCell cal b pool i with | some x => x.admits | none => 0
def resAt (cal : List Column) (b pool i : Nat) : Nat := match findCell cal b pool i with | some x => x.res | none => 0

/-- Applies `f` to the cells a predicate selects, in the columns another selects. -/
def mapCells (cal : List Column) (pc : Nat → Bool) (pp : PoolCell → Bool) (f : PoolCell → PoolCell) : List Column :=
  cal.map (fun c => if pc c.beat then { c with cells := c.cells.map (fun x => if pp x then f x else x) } else c)

/-- Moves `u` from FREE to RESERVED in one cell. -/
def reserveCell (u : Nat) (x : PoolCell) : PoolCell := { x with free := x.free - u, res := x.res + u }
/-- Moves `u`, or what is left reserved, back to FREE. -/
def releaseCell (u : Nat) (x : PoolCell) : PoolCell := { x with free := x.free + min u x.res, res := x.res - min u x.res }
/-- Admittable capacity of a cell once `u` of its capacity is withdrawn: R36 applied to what is left (R228, Table 2.6). -/
def admitLess (m u : Nat) (x : PoolCell) : Nat := min x.admits (admittable (x.cap - u) m)
/-- Takes `u` of capacity away from a cell of a column with margin `m`. -/
def shrinkCell (m u : Nat) (x : PoolCell) : PoolCell :=
  { x with admits := admitLess m u x, free := x.free - (x.admits - admitLess m u x), cap := x.cap - u }
/-- FREE = RESERVED = ADMITTABLE = 0 (R49, Table 4.13). -/
def zeroCell (x : PoolCell) : PoolCell := { x with admits := 0, free := 0, res := 0, cap := 0 }

def reserveAt (cal : List Column) (b pool i u : Nat) : List Column :=
  mapCells cal (· == b) (fun x => x.pool == pool && x.index == i) (reserveCell u)
def releaseAt (cal : List Column) (b pool i u : Nat) : List Column :=
  mapCells cal (· == b) (fun x => x.pool == pool && x.index == i) (releaseCell u)

/-- E of R48: the first column an action affects that reaches the rennet now. -/
def State.firstAffected (s : State) : Nat := s.firstOpen

/-- The open columns from E on. -/
def State.columnsFrom (s : State) (e : Nat) : List Column := s.cal.filter (fun c => atOrAfter c.beat e)

/-- A withdrawal of `u` from a pool fits every open column from E: reserved ≤ what is then admittable (Table 2.6). -/
def State.withdrawOk (s : State) (pool i u : Nat) : Bool :=
  (s.columnsFrom s.firstAffected).all (fun c =>
    c.cells.all (fun x => !(x.pool == pool && x.index == i) || decide (x.res ≤ admitLess c.margin u x)))

/-- Removes the capacity `u` from a pool in the open columns from E. -/
def State.withdraw (s : State) (pool i u : Nat) : State :=
  { s with
    cal := s.cal.map (fun c =>
      if atOrAfter c.beat s.firstAffected then
        { c with
          cells := c.cells.map (fun x =>
            if x.pool == pool && x.index == i then shrinkCell c.margin u x else x) }
      else c) }

/-- No reservation from E on in the pools a predicate selects (Table 2.6). -/
def State.noReservation (s : State) (p : PoolCell → Bool) : Bool :=
  (s.columnsFrom s.firstAffected).all (fun c => c.cells.all (fun x => !p x || x.res == 0))

/-- Sets the admittable capacity of the selected pools to zero from E on, where nothing is reserved. -/
def State.zeroFrom (s : State) (p : PoolCell → Bool) : State :=
  { s with cal := mapCells s.cal (fun b => atOrAfter b s.firstAffected) p zeroCell }

/-- Sets the selected pools to zero in every column (R49: from the current beat on). -/
def State.zeroPools (s : State) (p : PoolCell → Bool) : State :=
  { s with cal := mapCells s.cal (fun _ => true) p zeroCell }

/-- A pool of one die. -/
def diePool (d : Nat) (x : PoolCell) : Bool := perDiePool x.pool && x.index == d

/-! ## Column events -/

/-- COLUMN_CLOSE_OPEN (R42, Table 2.3): at grain 1,008 of beat b, column b + 65 opens. Column b + 1 closes to orders
fetched from this grain on through first_open (R42); the columns already past leave the calendar. -/
def execColumnCloseOpen (s : State) : Host.Outcome State Fault Refusal :=
  .next (if s.gridRun ∧ s.grain = 1008 ∧ !(s.cal.any (fun c => c.beat == beatAdd s.beat 65)) then
      { s with cal := s.cal.filter (fun c => atOrAfter c.beat s.beat)
                  ++ [newColumn s.cap (s.fld Fld.RENNET_MARGIN_MARGIN) (beatAdd s.beat 65)] }
    else s)

/-- The calendar as the grid starts: the columns of beats 0 to 64 from beat `b` on. DESIGN CHOICE, log entry 22. -/
def State.openCalendar (s : State) (b : Nat) : State :=
  { s with cal := (List.range 65).map (fun i => newColumn s.cap (s.fld Fld.RENNET_MARGIN_MARGIN) (beatAdd b i)) }

/-- COLSEL_WRITE (R59): RENNET_COLSEL takes the value and VALID clears until the snapshot. -/
def execColselWrite (value : Word) (src : Source) (s : State) : Host.Outcome State Fault Refusal :=
  .next (s.busGate (RegId.offset .RENNET_COLSEL 0) src ((s.setReg .RENNET_COLSEL 0 (putBits value.toNat 19 17 0)).setFld Fld.RENNET_COLCAP_VALID 0 0))

/-- COLUMN_SNAPSHOT (R59): the selected pool's capacity and reservation, zero outside the calendar. -/
def execColumnSnapshot (s : State) : Host.Outcome State Fault Refusal :=
  let b := s.fld Fld.RENNET_COLSEL_BEAT; let p := s.fld Fld.RENNET_COLSEL_POOL; let i := s.fld Fld.RENNET_COLSEL_INDEX
  .next (if s.fld Fld.RENNET_COLCAP_VALID = 0 then
      (s.setReg .RENNET_COLRES 0 (resAt s.cal b p i % 2 ^ 24)).setReg .RENNET_COLCAP 0 (admitAt s.cal b p i % 2 ^ 24 + 2 ^ 31)
    else s)

end Sys2Proof.Machine
end

