-- ==== Sys2Proof/Machine/Verify.lean ====
section
/-!
DEFINITION. Signature verification by the keeper (R496, R497).
-/
namespace Sys2Proof.Machine

/-- KEEPER_STAT.LIFECYCLE: 0 MANUFACTURE, 1 PROVISIONED, 2 DEPLOYED, 3 RETURNED. -/
def State.lifecycle (s : State) : Nat := s.fld Fld.KEEPER_STAT_LIFECYCLE

/-- A customer slot holds a key that is not revoked. -/
def State.slotValid (s : State) (n : Nat) : Bool := bitAt (s.fld Fld.KEEPER_STAT_SLOTS) n && !bitAt (s.reg .KEEPER_REVOKED) n

/-- KEY_ID names a key of Table 20.1 that is valid now for an object: 0 steward bank, 1 graph image, 2 bitstream, 3 debug
token, 4 CRED_INSTALL. -/
def State.keyValid (s : State) (obj key : Nat) : Bool :=
  let l := s.lifecycle
  if key = 1 then obj ≤ 2
  else if key = 2 then obj ≤ 2 && l == 0
  else if key = 3 then obj == 3 && (l == 0 || l == 3)
  else
    decide (0x10000 ≤ key ∧ key < 0x10010) && (l == 1 || l == 2) && s.slotValid (key - 0x10000)
      && (obj == 1 || obj == 2 || obj == 3 || (obj == 4 && key == 0x10000))

/-- The end of a verification (R497): `sigOk` says that the ECDSA P-384 signature matches. Answers whether the object passes. -/
def State.verify (s : State) (obj key : Nat) (sigOk : Bool) : Bool × State :=
  let pass := s.keyValid obj key && sigOk
  let s1 := (s.bump .KEEPER_CNT_VERIFY).setReg .KEEPER_LAST 0 ((if pass then 0 else 0x42) + obj * 256)
  (pass, if pass then s1 else (s1.bump .KEEPER_CNT_FAIL).event 0x0123 1 obj key)

/-- The bytes of the key that a KEY_ID names (Table 20.1): a key of the boot ROM, or the key of a customer slot. -/
def State.keyBytes (s : State) (key : Nat) : List Byte :=
  if key < 0x10000 then Config.romKey key else Sparse.get [] s.kp.slots (key - 0x10000)

/-- The verification of a signature over a message under the key that KEY_ID names. -/
def State.verifySig (s : State) (obj key : Nat) (msg sig : List Byte) : Bool × State :=
  s.verify obj key (Config.sigValid (s.keyBytes key) msg sig)

/-- The verification of a steward bank's contents. -/
def State.verifyBank (s : State) (data : List (Nat × Byte)) : Bool × State :=
  let k := Config.bankSigned data
  s.verifySig 0 k.1 k.2.1 k.2.2

/-- KEEPER_STAT.BUSY follows the checks, the bitstream whose signature is checked, the fuse write and the wipe in progress.
DEDUCED, log entry 41. -/
def State.keeperBusy (s : State) : State :=
  s.setFld Fld.KEEPER_STAT_BUSY 0 (b2n (s.kp.checks != [] || s.kp.lifeCtx.isSome || s.kp.wipe
    || (match s.lr.load with | some l => l.verify | none => false)))

/-- A command's signature check starts; the command waits for it. -/
def State.checkStart (s : State) (c : CmdCtx) : State :=
  let t : State := { s with kp := { s.kp with checks := s.kp.checks ++ [c] }, mg := { s.mg with fetched := s.mg.fetched.erase c } }
  t.keeperBusy

end Sys2Proof.Machine
end

