-- ==== Sys2Proof/Machine/Images.lean ====
section
/-!
DEFINITION. Graph images (R76 to R85): header, task table, cost tables and their evaluation, the structural checks of a
load, and the image commands.
-/
namespace Sys2Proof.Machine

/-- An image of Ivpol's set, by its key (R194, R231, R235). DEDUCED, log entry 29. -/
def ivpolImage (img : List Byte) : Bool := u32 img 224 == 1 || u32 img 224 == 2

/-- A task entry (Table 3.14). -/
structure ImgTask where
  cls : Nat
  flags : Nat
  nSucc : Nat
  succOff : Nat
  inports : Nat
  pinKind : Nat
  pinArg : Nat
  costOff : Nat
  floorOff : Nat
  entry : Nat
  floorEntry : Nat
  produces : Nat
  deriving DecidableEq, Repr, Inhabited

/-- One cost-table entry: its pool, where its index comes from, and the offsets of its functions. -/
structure CostEntry where
  pool : Nat
  src : Nat
  val : Nat
  fns : List Nat
  ok : Bool
  deriving DecidableEq, Repr, Inhabited

def imgNTask (img : List Byte) : Nat := u16 img 20
def imgTaskAt (img : List Byte) (i : Nat) : ImgTask :=
  let o := u32 img 24 + 32 * i
  let p := slice img o 32
  ⟨u8 p 0, u8 p 1, u16 p 2, u32 p 4, u16 p 8, u8 p 10, u8 p 11, u32 p 12, u32 p 16, u32 p 20, u32 p 24, u32 p 28⟩
def imgTasks (img : List Byte) : List ImgTask := (List.range (imgNTask img)).map (imgTaskAt img)

def ImgTask.hasFloor (t : ImgTask) : Bool := bitAt t.flags 0
def ImgTask.flowGated (t : ImgTask) : Bool := bitAt t.flags 1
def ImgTask.perCurd (t : ImgTask) : Bool := bitAt t.flags 2

/-- The 64-byte argument blocks of engine and hub jobs are copied from the image's constant section; kernels and BMU
programs stand in its code section (R203, R209). -/
def entryInConst (cls : Nat) : Bool := 2 ≤ cls

/-- Offset of a task's ENTRY in the image. -/
def entryOffset (img : List Byte) (cls e : Nat) : Nat := (if entryInConst cls then u32 img 40 else u32 img 32) + e

/-- Successor tasks and actions of a task: 0 floor, 1 skip (R77). -/
def imgSuccs (img : List Byte) (t : ImgTask) : List (Nat × Nat) :=
  (List.range t.nSucc).map (fun i => (u16 img (t.succOff + 4 * i), u16 img (t.succOff + 4 * i + 2)))

/-- Classes with a quantised pool of the same number order, and with per-die cost (Table 3.12). -/
def classPool (c : Nat) : Option Nat :=
  if c ≤ 5 then some c else if c = 6 then some 0xC else if c = 7 then some 0xD else none
def classPerDie (c : Nat) : Bool := c ≤ 5

/-! ## Cost tables -/

/-- Length of the function at offset `o`. -/
def fnLen (img : List Byte) (o : Nat) : Nat := 8 + 32 * u8 img (o + 4)

/-- The structural rules of one function (R79 and the layout before it). -/
def fnOk (img : List Byte) (o : Nat) : Bool :=
  u8 img (o + 4) ≤ 4 && allZero (slice img (o + 5) 3) && o + fnLen img o ≤ img.length
  && (List.range (u8 img (o + 4))).all (fun j =>
    let t := o + 8 + 32 * j
    let n := u8 img (t + 2)
    let x := u8 img t
    let pt := fun i => u16 img (t + 4 + 2 * i)
    decide (x ≤ 15) && (u8 img (t + 1) ≤ 15 || u8 img (t + 1) = 0xFF) && decide (2 ≤ n ∧ n ≤ 4)
    && u8 img (t + 3) == 0 && allZero (slice img (t + 28) 4)
    && (List.range (n - 1)).all (fun i => pt i < pt (i + 1))
    && pt 0 ≤ u16 img (48 + 4 * x) && u16 img (48 + 4 * x + 2) ≤ pt (n - 1))

/-- The segment of a term that holds parameter value `x` (R79). -/
def termSeg (img : List Byte) (t n x : Nat) : Nat → Nat → Nat
  | 0, i => i
  | fuel + 1, i => if i + 2 < n ∧ x > u16 img (t + 4 + 2 * (i + 1)) then termSeg img t n x fuel (i + 1) else i

/-- One term of a function, in 16.16. -/
def termVal (img : List Byte) (t : Nat) (params : List Nat) : Int :=
  let x := natAt params (u8 img t)
  let i := termSeg img t (u8 img (t + 2)) x 4 0
  let xp := fun k => u16 img (t + 4 + 2 * k)
  let yp := fun k => u32 img (t + 12 + 4 * k)
  let y := (yp i : Int) + ceilDivI (((yp (i + 1) : Int) - yp i) * ((x : Int) - xp i)) (xp (i + 1) - xp i)
  let m : Int := if u8 img (t + 1) = 0xFF then 1 else natAt params (u8 img (t + 1))
  y * m

/-- The function at offset `o`, evaluated exactly (R79). -/
def evalFn (img : List Byte) (o : Nat) (params : List Nat) : Nat :=
  (ceilDivI ((List.range (u8 img (o + 4))).foldl (fun a j => a + termVal img (o + 8 + 32 * j) params) (u32 img o : Int)) 65536).toNat

/-- The entries of the cost table from offset `o` on. -/
def costWalk (img : List Byte) : Nat → Nat → List CostEntry
  | 0, _ => []
  | n + 1, o =>
    let pool := u8 img o
    let f0 := o + 8
    let fns := if quantisedPool pool then [f0, f0 + fnLen img f0] else [f0]
    let len := 8 + (fns.map (fnLen img)).foldl (· + ·) 0
    ⟨pool, u8 img (o + 1), u8 img (o + 2), fns,
      u8 img (o + 3) == 0 && u16 img (o + 6) == 0 && u16 img (o + 4) == len && fns.all (fnOk img)⟩
      :: costWalk img n (o + u16 img (o + 4))

def costEntries (img : List Byte) (o : Nat) : List CostEntry := costWalk img (u8 img o) (o + 4)

/-- COUNT, BUDGET of a class's quantised entry; one job of budget 999 otherwise (R78, R126). -/
def countBudget (img : List Byte) (cls costOff : Nat) (params : List Nat) : Nat × Nat :=
  match (costEntries img costOff).find? (fun e => some e.pool == classPool cls) with
  | some e => (evalFn img (natAt e.fns 0) params, evalFn img (natAt e.fns 1) params)
  | none => (1, 999)

/-- Units a cost entry charges (R78): COUNT × quantum, or UNITS. -/
def entryUnits (img : List Byte) (e : CostEntry) (params : List Nat) : Nat :=
  if quantisedPool e.pool then
    let n := evalFn img (natAt e.fns 0) params
    if n = 0 then 0 else n * quantumOf (evalFn img (natAt e.fns 1) params)
  else evalFn img (natAt e.fns 0) params

/-- The pool index an entry names for die `d` (INDEX_SRC). -/
def entryIndex (e : CostEntry) (params : List Nat) (d : Nat) : Nat :=
  if e.src = 0 then d else if e.src = 1 then e.val else natAt params e.val

/-- Adds one charge to a list of charges per (pool, index). -/
def addCost (l : List (Nat × Nat × Nat)) (p i u : Nat) : List (Nat × Nat × Nat) :=
  match l with
  | [] => [(p, i, u)]
  | (p', i', u') :: r => if p = p' ∧ i = i' then (p, i, u' + u) :: r else (p', i', u') :: addCost r p i u

/-- The non-zero charges of a cost table for die `d`. -/
def taskCosts (img : List Byte) (costOff : Nat) (params : List Nat) (d : Nat) : List (Nat × Nat × Nat) :=
  ((costEntries img costOff).foldl (fun l e => addCost l e.pool (entryIndex e params d) (entryUnits img e params)) []).filter
    (fun c => c.2.2 != 0)

/-! ## Checks of a load (R77 to R80, R117) -/

/-- Allocation kinds of Table 3.6, as a bit set. -/
def kindSet : Nat := 0x3F007E
def kindOk (k : Nat) : Bool := k < 32 && bitAt kindSet k

/-- The cost-table rules of R78 for one task. -/
def costOk (img : List Byte) (cls o : Nat) : Bool :=
  let es := costEntries img o
  o + 4 ≤ img.length && allZero (slice img (o + 1) 3) && es.all (fun e =>
    e.ok && e.pool ≤ 0x10 && e.src ≤ 2
    && (e.src != 0 || (classPerDie cls && perDiePool e.pool))
    && (e.src != 1 || decide (e.val < poolInstances e.pool))
    && (e.src != 2 || decide (e.val ≤ 15)))
  && (es.filter (fun e => quantisedPool e.pool)).length == (if (classPool cls).isSome then 1 else 0)
  && es.all (fun e => !quantisedPool e.pool || some e.pool == classPool cls)
  && (cls != 9 || (es.filter (fun e => e.pool == 0xE)).length == 1)

/-- ENTRY or FLOOR_ENTRY lies in its section (R80): a kernel or a BMU program in the code section, a 64-byte template in the
constant section; a PRACH job's block has no template (R257). DEDUCED, log entry 26. -/
def entryOk (img : List Byte) (cls e : Nat) : Bool :=
  if entryInConst cls then e + (if cls = 6 then 0 else 64) ≤ u32 img 44 else e < u32 img 36

/-- The task-entry rules of R77. -/
def taskOk (img : List Byte) (i : Nat) (t : ImgTask) : Bool :=
  t.cls ≤ 0xB && t.flags < 8 && t.pinKind ≤ 2
  && (t.pinKind != 1 || t.pinArg ≤ 63) && (t.pinKind != 2 || t.pinArg ≤ 15)
  && (if t.hasFloor then t.floorOff != 0 else t.floorOff == 0 && t.floorEntry == 0)
  && t.produces &&& kindSet == t.produces && (!t.perCurd || t.produces != 0)
  && t.succOff + 4 * t.nSucc ≤ img.length
  && (imgSuccs img t).all (fun s => i < s.1 && s.1 < imgNTask img && s.2 ≤ 1)
  && entryOk img t.cls t.entry && (!t.hasFloor || entryOk img t.cls t.floorEntry)
  && costOk img t.cls t.costOff && (!t.hasFloor || costOk img t.cls t.floorOff)

/-- Check 2 of R80 over a whole image. -/
def imageOk (img : List Byte) : Bool :=
  u32 img 0 == 0x01474B41 && u16 img 4 == 1 && u8 img 6 ≤ 3 && u8 img 7 ≤ 1
  && decide (1 ≤ imgNTask img ∧ imgNTask img ≤ 1024)
  && u32 img 24 + 32 * imgNTask img ≤ img.length && u32 img 28 ≤ img.length
  && u32 img 32 + u32 img 36 ≤ img.length && u32 img 40 + u32 img 44 ≤ img.length
  && (List.range 16).all (fun i => u16 img (48 + 4 * i) ≤ u16 img (50 + 4 * i))
  && allZero (slice img 112 16) && allZero (slice img 228 28)
  && (List.range (imgNTask img)).all (fun i => taskOk img i (imgTaskAt img i))
  && ((imgTasks img).filter (fun t => decide (8 ≤ t.cls ∧ t.cls ≤ 0xB))).length ≤ 16

/-! ## Image commands -/

/-- Orders in flight that name slot `n` (R84). -/
def State.imageUsers (s : State) (n : Nat) : List Order := s.orders.filter (fun o => o.slot == n)
/-- The latest PROMISED stamp of a list of orders, 0 for none. -/
def latestPromised : List Order → Nat
  | [] => 0
  | o :: r => match r with | [] => o.promised | _ => laterStamp o.promised (latestPromised r)

/-- The command is the next to reach the rennet: no command of Table 3.1, entry or clock step that was fetched before it still
waits (R61, R487). One that was not fetched stands behind those that were. DEDUCED, log entry 81. -/
def State.inTurn (s : State) (c : CmdCtx) : Bool :=
  match s.mg.fetched.find? (fun x => decide (0x1000 ≤ x.opcode ∧ x.opcode ≤ 0x1013) || x.opcode == 0x0100 || x.opcode == 0x0101) with
  | none => true
  | some x => x == c

/-- The IMAGE_LOAD reply of R81. -/
def State.imageReply (s : State) (c : CmdCtx) (status handle iid ver : Nat) : State :=
  s.replyWord c status (leBytes 2 handle ++ zeros 2 ++ leBytes 4 iid ++ leBytes 4 ver)

/-- The refusals of R81, in order. DEDUCED, log entry 17. -/
def State.imageLoadRefusal (s : State) (p : List Byte) : Option Nat :=
  let n := u16 p 0; let len := u32 p 4
  if p.length ≠ 16 then some 0x22
  else if n > 255 ∨ u16 p 2 ≠ 0 ∨ u64 p 8 % 4096 ≠ 0 then some 0x21
  else if (s.image n).state ≠ 0 then some 0x24
  else if s.images.any (fun e => e.2.state == 1) then some 0x25
  else if len < 256 ∨ len > 2 ^ 28 then some 0x22
  else if s.genAvail < ceilDiv len 4096 then some 0x60
  else none

/-- IMAGE_LOAD (R80, R81): refused at once, or the slot enters LOADING with its blocks taken. -/
def execImageLoad (c : CmdCtx) (s : State) : Host.Outcome State Fault Refusal :=
  .next (if !s.inTurn c then s else match s.imageLoadRefusal c.payload with
    | some st => s.imageReply c st 0 0 0
    | none =>
      let n := u16 c.payload 0; let len := u32 c.payload 4
      let r := s.takeGens (fun k => .image n k) (ceilDiv len 4096)
      let t := r.2.setImage n { s.image n with state := 1, bytes := [], blocks := r.1, loadLen := len, loadCtx := some c }
      { t with mg := { t.mg with fetched := t.mg.fetched.erase c } })

/-- What the signature of an image covers: the image with SIG as zeros (R76). -/
def imgSigned (img : List Byte) : List Byte := img.take 128 ++ zeros 96 ++ img.drop 224

/-- IMAGE_LOAD_COMPLETE (R80): length, structure and signature are checked in order. -/
def execImageLoadComplete (slot : Fin 256) (image : List Byte) (s : State) : Host.Outcome State Fault Refusal :=
  let im := s.image slot.val
  .next (match im.loadCtx with
    | none => s
    | some c =>
      if im.state ≠ 1 then s
      else
        let iid := if 256 ≤ image.length then u32 image 8 else 0
        let ver := if 256 ≤ image.length then u32 image 12 else 0
        let fail := fun (s : State) st => ((s.returnBlocks im.blocks).setImage slot.val
          { im with state := 0, blocks := [], bytes := [], loadLen := 0, loadCtx := none }).imageReply c st 0 iid ver
        if u32 image 16 ≠ im.loadLen ∨ image.length ≠ im.loadLen then fail s 0x22
        else if !imageOk image then fail s 0x21
        else
          let v := s.verifySig 1 (u32 image 224) (imgSigned image) (slice image 128 96)
          if !v.1 then fail v.2 0x42
          else
          let g := if im.gen = 255 then 1 else im.gen + 1
          (v.2.setImage slot.val { im with state := 2, gen := g, bytes := image, loadCtx := none }).imageReply c 0
            (slot.val + 256 * g) iid ver)

/-- A handle that names a verified image (R83, R84): its slot. -/
def State.imageHandle (s : State) (h : Nat) : Option Nat :=
  let n := h % 256
  if (s.image n).gen = h / 256 ∧ 2 ≤ (s.image n).state then some n else none

/-- IMAGE_BLOCK (R83). -/
def execImageBlock (c : CmdCtx) (s : State) : Host.Outcome State Fault Refusal :=
  let p := c.payload
  .next (if !s.inTurn c then s
    else if p.length ≠ 4 then s.reply c 0x22
    else if u8 p 2 > 1 ∨ u8 p 3 ≠ 0 then s.reply c 0x21
    else match s.imageHandle (u16 p 0) with
      | none => s.reply c 0x21
      | some n => (s.setImage n { s.image n with state := if u8 p 2 = 1 then 3 else 2 }).reply c 0)

/-- IMAGE_RETIRE (R84); its reply keeps its layout on every status. -/
def execImageRetire (c : CmdCtx) (s : State) : Host.Outcome State Fault Refusal :=
  let p := c.payload
  let z := zeros 8
  .next (if !s.inTurn c then s
    else if p.length ≠ 4 then s.replyWord c 0x22 z
    else if u16 p 2 ≠ 0 then s.replyWord c 0x21 z
    else match s.imageHandle (u16 p 0) with
      | none => s.replyWord c 0x21 z
      | some n =>
        let us := s.imageUsers n
        if us ≠ [] then s.replyWord c 0x24 (leBytes 4 us.length ++ leBytes 4 (latestPromised us))
        else ((s.returnBlocks (s.image n).blocks).setImage n { gen := (s.image n).gen }).replyWord c 0 z)

/-- IMAGE_QUERY (R85). Of a slot that holds no verified image, IMAGE_ID, IMAGE_VERSION and MIN_STEP read 0: the spec is silent.
DESIGN CHOICE, log entry 74. -/
def execImageQuery (c : CmdCtx) (s : State) : Host.Outcome State Fault Refusal :=
  let p := c.payload
  .next (if !s.inTurn c then s
    else if p.length ≠ 4 then s.reply c 0x22
    else if u16 p 0 > 255 ∨ u16 p 2 ≠ 0 then s.reply c 0x21
    else
      let im := s.image (u16 p 0)
      let us := s.imageUsers (u16 p 0)
      s.reply c 0 (leBytes 1 im.state ++ leBytes 1 im.gen ++ zeros 2 ++ leBytes 4 us.length ++ leBytes 4 (latestPromised us)
        ++ leBytes 4 (u32 im.bytes 8) ++ leBytes 4 (u32 im.bytes 12) ++ leBytes 1 (u8 im.bytes 6) ++ zeros 3))

end Sys2Proof.Machine
end

