-- ==== Sys2Proof/Machine/Queues.lean ====
section
/-!
DEFINITION. The queue manager (R93 to R100, R414): starting and stopping queues, head and tail writes, doorbells, and
the settlement of each grain. Register writes judge their writer first; `bus` forms are used by register writes with
no row of their own.
-/
namespace Sys2Proof.Machine

/-- The PCIe function a source writes as, encoded as Q_CFG.OWNER; none for the management side. -/
def srcFunction : Source → Option Nat
  | .pf0 => some 0
  | .vf n => some n
  | .mgmt | .stage => some 0      -- REG_WRITE and REG_STAGE write as PF0 would (R424)
  | .ssp => some 0
  | .steward => none

/-- Whether a host write to a register of queue `q` is discarded because `q` is a system queue (R93). DEDUCED, log entry 45. -/
def systemQueue (q : Nat) (src : Source) : Bool := q < 256 && src != .steward

/-- OWNER values of Table 4.5 that are not reserved. -/
def ownerValid (o : Nat) : Bool :=
  o ≤ 0x10 || o = 0x20 || (0x30 ≤ o && o ≤ 0x34) || (0x40 ≤ o && o ≤ 0x4F) || (0x50 ≤ o && o ≤ 0x5B) || o = 0x60 || o = 0xFF

/-- Types with a host ring. -/
def hostRingType (t : Nat) : Bool := t = 2 || t = 3 || t = 9

/-- The bad-configuration conditions of R98. -/
def State.qBadConfig (s : State) (q : Nat) : Bool :=
  let t := s.qType q; let d := s.fld Fld.Q_CFG_DEPTH_LOG2 q; let o := s.qOwner q
  t = 0 || t > 0xA || d < 6 || d > 20 || !ownerValid o || (hostRingType t && o > 15)
    || (hostRingType t && s.reg .Q_HOSTRING_LO q % 64 != 0)

/-- A write of Q_CTRL.RUN as 1 (R98). -/
def State.qStart (s0 : State) (q : Nat) : State :=
  let s := s0.setFld Fld.Q_CTRL_RUN q 1
  if s.qState q ≠ 0 then s
  else if s.qBadConfig q then s.setFld Fld.Q_STAT_START_ERR q 2
  else
    let n := ceilDiv (s.qDepth q * 32) 4096
    match s.findRun n with
    | none => s.used.setFld Fld.Q_STAT_START_ERR q 1
    | some b =>
      (((((s.takeRun q b n).setReg .Q_BASE q (b - 0x8000000)).setReg .Q_HEAD q 0).setReg .Q_TAIL q 0).setReg .Q_HELD q 0).setReg
        .Q_STAT q 1

/-- QUEUE_START (R98). -/
def execQueueStart (q : Fin 4096) (src : Source) (s : State) : Host.Outcome State Fault Refusal :=
  .next (s.busGate (RegId.offset .Q_CTRL q.val) src (if systemQueue q.val src then s.werrReg .Q_CTRL q.val src else s.qStart q.val))

/-- A write of Q_CTRL.RUN as 0 (R99). -/
def State.qStop (s0 : State) (q : Nat) : State :=
  let s := s0.setFld Fld.Q_CTRL_RUN q 0
  if s.qState q = 1 then s.setFld Fld.Q_STAT_STATE q 2 else s

/-- QUEUE_STOP (R99). -/
def execQueueStop (q : Fin 4096) (src : Source) (s : State) : Host.Outcome State Fault Refusal :=
  .next (s.busGate (RegId.offset .Q_CTRL q.val) src (if systemQueue q.val src then s.werrReg .Q_CTRL q.val src else s.qStop q.val))

/-- Whether descriptors of this type are pointers (Table 4.3). -/
def pointerType (t : Nat) : Bool := t = 1 || (4 ≤ t && t ≤ 8)

/-- A pointer descriptor has the form of Table 4.4: its reserved bits zero (R6), and with OWNS whole blocks. -/
def ptrOk (d : List Byte) : Bool :=
  (bitAt (u8 d 21) 0 || u64 d 0 / 2 ^ 40 == 0) && !bitAt (u32 d 12) 23 && bits (u32 d 12) 31 28 == 0 && u8 d 21 / 4 == 0 && u16 d 22 == 0
    && (!bitAt (u8 d 21) 1 || (u64 d 0 % 4096 == 0 && u32 d 8 % 4096 == 0))

/-- The blocks that a pointer descriptor with OWNS set covers (R94). -/
def ownedBlocks (d : List Byte) : List Nat :=
  if bitAt (u8 d 21) 1 && !bitAt (u8 d 21) 0 then (List.range (ceilDiv (u32 d 8) 4096)).map (fun i => bits (u64 d 0) 39 0 / 4096 + i) else []

/-- Those blocks of a descriptor that belong to queue `q`: a descriptor frees no other block (R89, R94). DEDUCED, log
entry 72. -/
def State.queueBlocks (s : State) (q : Nat) (d : List Byte) : List Nat :=
  (ownedBlocks d).filter (fun b => b < 0x8000000 && s.owner b == some (.queue q))

/-- The free general-pool blocks that an enqueued descriptor with OWNS set covers go to its queue (R94, Table 4.2). DEDUCED,
log entry 72. -/
def State.giveBlocks (s : State) (q : Nat) (d : List Byte) : State :=
  if pointerType (s.qType q) && ptrOk d then
    (ownedBlocks d).foldl (fun (t : State) b =>
      if genLo ≤ b ∧ b < genLo + genN ∧ t.blockFree b = true then
        { t.setOwner b (some (.queue q)) with blk := genTaken t.blk (.queue q) 1 }
      else t) s
  else s

/-- The buffers of descriptors that a queue's consumer takes return (Table 4.2). DEDUCED, log entry 72. -/
def State.takeBuffers (s : State) (q : Nat) (l : List (List Byte)) : State :=
  if pointerType (s.qType q) then s.returnBlocks (l.flatMap (s.queueBlocks q)) else s

/-- The undequeued descriptors of a queue, oldest first. -/
def State.qDescs (s : State) (q : Nat) : List (List Byte) :=
  (List.range (s.qOcc q)).map (fun i => readBytes s.cave (s.slotAddr q (s.reg .Q_HEAD q + i)) 32)

/-- Clears EN, and the subscription, of the enabled pairs a predicate selects (R412, R436). -/
def State.disablePair (s : State) (p : Nat) : State :=
  let s1 := (s.setFld Fld.CMD_PAIR_CFG_EN p 0).setReg .CMD_PAIR_STAT p 0
  { s1 with mg := { s1.mg with subs := s1.mg.subs.filter (fun b => b.src != .pair p) } }

/-- The completion of a stop (R99). -/
def State.qStopDone (s : State) (q : Nat) : State :=
  if s.qState q = 2 ∧ s.reg .Q_HELD q = 0 then
    let s1 := s.takeBuffers q (s.qDescs q)
    let n := ceilDiv (s.qDepth q * 32) 4096
    let s2 := s1.returnBlocks ((List.range n).map (fun i => 0x8000000 + s.fld Fld.Q_BASE_BLOCK q + i))
    let s3 := ((((s2.setReg .Q_HEAD q 0).setReg .Q_TAIL q 0).setReg .Q_HELD q 0).setReg .Q_BASE q 0).setFld Fld.Q_STAT_STATE q 0
    (List.range 256).foldl (fun t p =>
      if s.fld Fld.CMD_PAIR_CFG_EN p = 1 ∧ (s.fld Fld.CMD_PAIR_CFG_ORDER_Q p = q ∨ s.fld Fld.CMD_PAIR_CFG_REPLY_Q p = q)
      then t.disablePair p else t) s3
  else s

/-- QUEUE_STOP_COMPLETE (R99). -/
def execQueueStopComplete (q : Fin 4096) (s : State) : Host.Outcome State Fault Refusal := .next (s.qStopDone q.val)

/-- QUEUE_CLR_DROPS (R100). -/
def execQueueClrDrops (q : Fin 4096) (src : Source) (s : State) : Host.Outcome State Fault Refusal :=
  .next (s.busGate (RegId.offset .Q_CTRL q.val) src (if systemQueue q.val src then s.werrReg .Q_CTRL q.val src else s.setReg .Q_DROPS q.val 0))

/-- Whether a source may move the head of `q`: the consumer when it is a PCIe function (Tables 4.3 and 4.5). -/
def State.headWriter (s : State) (q : Nat) (src : Source) : Bool :=
  (s.qType q = 3 || s.qType q = 9 || s.qType q = 4 || s.qType q = 0xA) && srcFunction src == some (s.qOwner q)

/-- Whether a source may move the tail of `q`: a producing PCIe function. -/
def State.tailWriter (s : State) (q : Nat) (src : Source) : Bool :=
  (s.qType q = 2 || s.qType q = 8 || s.qType q = 5 || s.qType q = 7) && srcFunction src == some (s.qOwner q)

/-- A new head index is accepted (R95): below M and within the occupancy. -/
def State.headOk (s : State) (q v : Nat) : Bool :=
  v < 2 * s.qDepth q && (v + 2 * s.qDepth q - s.reg .Q_HEAD q) % (2 * s.qDepth q) ≤ s.qOcc q

/-- A new tail index is accepted (R95, R99): below M, within the free slots, and only while RUNNING when it moves. -/
def State.tailOk (s : State) (q v : Nat) : Bool :=
  v < 2 * s.qDepth q && (v + 2 * s.qDepth q - s.reg .Q_TAIL q) % (2 * s.qDepth q) ≤ s.qFree q
    && (s.qState q == 1 || v == s.reg .Q_TAIL q)

/-- A write of Q_HEAD or Q_TAIL by a function that may make it waits for the settlement, which judges its value (R95, R97). -/
def State.headWrite (s : State) (q v : Nat) (src : Source) : State :=
  if !systemQueue q src && s.headWriter q src then { s with qEnqs := s.qEnqs ++ [.head ⟨q, v, RegId.offset .Q_HEAD q, src, 0⟩] }
  else s.werrReg .Q_HEAD q src
def State.tailWrite (s : State) (q v : Nat) (src : Source) : State :=
  if !systemQueue q src && s.tailWriter q src then { s with qEnqs := s.qEnqs ++ [.tail ⟨q, v, RegId.offset .Q_TAIL q, src, 0⟩] }
  else s.werrReg .Q_TAIL q src

/-- QUEUE_HEAD_WRITE (R95). -/
def execQueueHeadWrite (q : Fin 4096) (value : Word) (src : Source) (s : State) : Host.Outcome State Fault Refusal :=
  .next (s.busGate (RegId.offset .Q_HEAD q.val) src (s.headWrite q.val value.toNat src))

/-- QUEUE_TAIL_WRITE (R95). -/
def execQueueTailWrite (q : Fin 4096) (value : Word) (src : Source) (s : State) : Host.Outcome State Fault Refusal :=
  .next (s.busGate (RegId.offset .Q_TAIL q.val) src (s.tailWrite q.val value.toNat src))

/-- A write of Q_HEAD at the settlement: the descriptors it passes are taken. -/
def State.settleHead (s : State) (w : QIndex) : State :=
  if s.headOk w.queue w.value then
    (s.takeBuffers w.queue ((s.qDescs w.queue).take ((w.value + 2 * s.qDepth w.queue - s.reg .Q_HEAD w.queue) % (2 * s.qDepth w.queue)))).setReg
      .Q_HEAD w.queue w.value
  else s.werr w.offset w.src w.bar

/-- A write of Q_TAIL at the settlement: the descriptors it adds may give blocks to the queue. -/
def State.settleTail (s : State) (w : QIndex) : State :=
  if s.tailOk w.queue w.value then
    ((List.range ((w.value + 2 * s.qDepth w.queue - s.reg .Q_TAIL w.queue) % (2 * s.qDepth w.queue))).foldl (fun (t : State) i =>
      t.giveBlocks w.queue (readBytes t.cave (t.slotAddr w.queue (s.reg .Q_TAIL w.queue + i)) 32)) s).setReg .Q_TAIL w.queue w.value
  else s.werr w.offset w.src w.bar

/-- A doorbell write (R414): BAR2 offset, its alignment under R23, and the index. M-HOLD discards it (R485). -/
def State.doorbell (s : State) (w : BusWrite) : State :=
  let q := w.offset / 4096
  let own := srcFunction w.src == some (s.qOwner q)
  let v := w.value % 2 ^ 32
  if s.fld Fld.POWER_STAT_STATE = 4 then s
  else if s.fld Fld.POWER_STAT_STATE = 3 then s.werr w.offset w.src 1
  else if (w.len = 4 ∨ (w.len = 8 ∧ w.offset % 8 = 0)) ∧ w.offset % 4096 = 0 ∧ q < 4096 ∧ !systemQueue q w.src ∧ own then
    let s1 :=
      if s.qType q = 2 ∨ s.qType q = 8 then { s with qEnqs := s.qEnqs ++ [.tail ⟨q, v, w.offset, w.src, 1⟩] }
      else if s.qType q = 3 ∨ s.qType q = 9 then { s with qEnqs := s.qEnqs ++ [.head ⟨q, v, w.offset, w.src, 1⟩] }
      else s.werr w.offset w.src 1
    -- an aligned 64-bit write reaches the reserved word beside the doorbell too
    if w.len = 8 then s1.werr (w.offset + 4) w.src 1 else s1
  else s.werr w.offset w.src 1

/-- DOORBELL_WRITE (R414). -/
def execDoorbellWrite (w : BusWrite) (s : State) : Host.Outcome State Fault Refusal := .next (s.doorbell w)

end Sys2Proof.Machine
end

