-- ==== Sys2Proof/Machine/Holdings.lean ====
section
/-!
DEFINITION. Curds and orders as the stations keep them: finding and changing them, service tokens (R103, R104, R123,
R124), trace records (R137 to R139), and the processing of a completion (R130, R131).
-/
namespace Sys2Proof.Machine

def State.curdAt (s : State) (a : Nat) : Option Curd := s.curds.find? (fun c => c.addr == a)
def State.modCurd (s : State) (a : Nat) (f : Curd → Curd) : State :=
  { s with curds := s.curds.map (fun c => if c.addr = a then f c else c) }

def State.orderOf (s : State) (h : Nat) : Option Order := s.orders.find? (fun o => o.handle == h)
def State.modOrder (s : State) (h : Nat) (f : Order → Order) : State :=
  { s with orders := s.orders.map (fun o => if o.handle = h then f o else o) }

/-- The order of a sentinel index (R70). -/
def State.orderAt (s : State) (sentinel : Nat) : Option Order := s.orders.find? (fun o => o.handle % 16384 == sentinel)

/-- Orders that hold a reservation, now or later, that a predicate on pool, index and beat selects: a condition of FAILED_ON_TIME
holds for them (R49, R58). -/
def State.faultHolders (s : State) (p : Nat → Nat → Nat → Bool) : State :=
  { s with orders := s.orders.map (fun o =>
      { o with fault := o.fault || o.tasks.any (fun t => atOrAfter t.beat s.beat && t.costs.any (fun c => p c.1 c.2.1 t.beat)) }) }

/-- The station of a curd (R116). -/
def Curd.station (c : Curd) : Nat := if c.cls ≤ 5 then c.die else 4

/-- Classes that run as hub jobs without a budget (R126). -/
def hubJobClass (k : Nat) : Bool := 8 ≤ k && k ≤ 11

/-- The curd ends with `st` in this grain; its completion is processed in the next (R121, R130). -/
def Curd.ended (c : Curd) (stamp st : Nat) (absent : Bool := false) : Curd :=
  { c with
    st := .ended, endStatus := st, endStamp := stamp
    outOverrun := c.outOverrun || decide (st = 0x15), outAbsent := c.outAbsent || absent
    unstarted := c.st != .running }

def State.endCurd (s : State) (a st : Nat) (absent : Bool := false) : State :=
  s.modCurd a (fun c => if c.st = .ended then c else c.ended s.stamp st absent)

/-- The station still holds an entry for the curd (R117). DEDUCED, log entry 34. -/
def Curd.live (c : Curd) : Bool := !c.freed

/-- R119: the selection key in ascending order. -/
def keyLess : List Nat → List Nat → Bool
  | x :: r, y :: t => if x = y then keyLess r t else x < y
  | _, _ => false
def Curd.key (c : Curd) : List Nat := [1000 - c.quantum, c.prio, c.rank, c.task, c.index]
def keyBefore (a b : Curd) : Bool := keyLess a.key b.key

/-- A curd inserted into, and a list sorted by, the selection key. -/
def insertKey (c : Curd) : List Curd → List Curd
  | [] => [c]
  | x :: r => if keyBefore c x then c :: x :: r else x :: insertKey c r
def sortKey : List Curd → List Curd
  | [] => []
  | c :: r => insertKey c (sortKey r)

/-! ## Service tokens -/

/-- Requests a flow's token for executor `e` (R123): granted when the token is at the flow. DEDUCED, log entry 35. -/
def State.takeToken (s : State) (f e : Nat) : Bool × State :=
  let x := s.flow f
  if x.out then (false, s)
  else (true, s.setFlow f { x with out := true, holder := e, atFlow := false, services := (x.services + 1) % 2 ^ 32 })

/-- Returns a flow's token at the end of its holder (R103, R104, R124): the soft buffer becomes SUSPECT unless the end is
DONE, and VALID when a DONE job wrote a region (R219); every curd gated on the flow becomes READY. DEDUCED, log entry 35. -/
def State.returnToken (s : State) (f st : Nat) (wrote : Bool) : State :=
  let x := s.flow f
  let y := { x with
    out := false, atFlow := true, last := s.stamp
    sbState := if st ≠ 0x10 then 2 else if wrote then 1 else x.sbState
    suspects := if st ≠ 0x10 then (x.suspects + 1) % 2 ^ 32 else x.suspects }
  let s1 := s.setFlow f y
  { s1 with curds := s1.curds.map (fun c => if c.st = .gated ∧ c.hasFlow ∧ c.flow = f then { c with st := .ready } else c) }

/-- GLOBAL_DIESTAT of a die: 0 OFF, 1 RUN, 2 ISOLATED, 3 RESET. -/
def State.dieStat (s : State) (d : Nat) : Nat := bits (s.reg .GLOBAL_DIESTAT) (2 * d + 1) (2 * d)

/-- A station works: a die's station only while its die runs. -/
def State.stationOn (s : State) (st : Nat) : Bool := st == 4 || s.dieStat st == 1

/-! ## Trace records -/

/-- A trace record (Table 5.5). -/
def traceRec (stamp kind status exec : Nat) (nostart : Bool) (handle detail : Nat) : List Byte :=
  leBytes 4 stamp ++ leBytes 1 kind ++ leBytes 1 status ++ leBytes 2 (exec % 1024 + b2n nostart * 32768) ++ leBytes 4 handle
    ++ leBytes 4 detail

def State.traceAt (s : State) (st : Nat) : TraceSt := s.traces.getD st {}
def State.setTrace (s : State) (st : Nat) (t : TraceSt) : State := { s with traces := setAt s.traces st t }

/-- Writes one record into a station's stream, two to a descriptor: `counted` is 1 for a record that LIMIT counts, and
`lost` the number that a LOST record carries. -/
def State.traceWrite (s : State) (st : Nat) (r : List Byte) (counted lost : Nat) : State :=
  let t := s.traceAt st
  if t.half = [] then s.setTrace st { t with half := r, halfRecs := counted, halfLost := lost, written := t.written + counted }
  else (s.setTrace st { t with half := [], written := t.written + counted }).enqueue (s.fld Fld.DISP_TRACE_Q_QUEUE st)
    (t.half ++ r) (.station st (t.halfRecs + counted) (t.halfLost + lost))

/-- Records that are not written (R139): `n` that count as dropped, and those that a LOST record among them stood for. -/
def State.traceLost (s : State) (st n lost : Nat) : State :=
  let t := s.traceAt st
  (s.setTrace st { t with lost := min (t.lost + n + lost) 0xFFFFFFFF }).bump .DISP_TRACE_DROPS st n

/-- A descriptor that the queue refuses: its records were not written (R139). -/
def State.traceRefused (s : State) (st n lost : Nat) : State :=
  let t := s.traceAt st
  (s.setTrace st { t with written := t.written - n }).traceLost st n lost

/-- The TRACE queue of a station takes records (R139). -/
def State.traceOn (s : State) (st : Nat) : Bool :=
  let q := s.fld Fld.DISP_TRACE_Q_QUEUE st
  s.fld Fld.DISP_TRACE_Q_ENABLE st == 1 && s.qType q == 9 && s.qState q == 1

/-- The ORDER_HANDLE that a queue's owner sees: zero for a VF other than the function that posted the order (R140, Table 20.5). -/
def State.seenHandle (s : State) (q h : Nat) (func : Option Nat) : Nat :=
  if 1 ≤ s.qOwner q ∧ s.qOwner q ≤ 15 ∧ func ≠ some (s.qOwner q) then 0 else h

/-- A trace record of kind `kind` (R137 to R139). The isolated die's station writes none (R136). -/
def State.trace (s : State) (st kind status exec : Nat) (nostart : Bool) (c : Curd) : State :=
  let detail := c.index % 4096 + c.task % 1024 * 4096
  if !bitAt (s.fld Fld.DISP_TRACE_CFG_KIND_MASK st) kind || !s.stationOn st then s
  else if !s.traceOn st || decide (s.fld Fld.DISP_TRACE_CFG_LIMIT st ≤ (s.traceAt st).written) then s.traceLost st 1 0
  else
    let n := (s.traceAt st).lost
    let s1 := if n = 0 then s
      else (s.setTrace st { s.traceAt st with lost := 0 }).traceWrite st (traceRec s.stamp 7 0 0x3FF false 0 n) 0 n
    s1.traceWrite st (traceRec s.stamp kind status exec nostart (s.seenHandle (s.fld Fld.DISP_TRACE_Q_QUEUE st) c.handle (some c.func)) detail) 1 0

/-! ## Completions -/

/-- The Cave address of offset `o` of an image (R89). -/
def State.imgAddr (s : State) (slot o : Nat) : Nat := natAt (s.image slot).blocks (o / 4096) * 4096 + o % 4096

/-- Allocations that a task produces, and those its curd `i` produces (R538). -/
def Order.produces (o : Order) (t : ImgTask) : List Nat :=
  (List.range o.allocs.length).filter (fun k => bitAt t.produces ((o.allocs.getD k default).kind))
def Order.producedBy (o : Order) (t : ImgTask) (i : Nat) : List Nat :=
  if t.perCurd then (match (o.produces t)[i]? with | some k => [k] | none => []) else o.produces t

/-- What the end of a curd means for its order: the task's failure, the allocations it produces, and the
FAILED_ON_TIME condition of Table 2.8. -/
def Order.curdEnded (o : Order) (t : ImgTask) (c : Curd) : Order :=
  if c.endStatus = 0x10 then o
  else { o with
    tasks := modAt o.tasks c.task (fun x => { x with failed := true })
    failedAllocs := o.failedAllocs ++ o.producedBy t c.index
    fault := o.fault || c.endStatus == 0x12 || c.outAbsent }

/-- R131: the image's ACTION on one curd of a successor task. The floor's ENTRY lies in the section that the task's own ENTRY
lies in: the code section, or the constant section for a task whose argument block is a template (R77, R209). -/
def State.applyAction (s : State) (o : Order) (action : Nat) (c : Curd) : Curd :=
  let img := (s.image o.slot).bytes
  let t := imgTaskAt img c.task
  if c.st != .held && c.st != .released then c
  else if action = 0 ∧ t.hasFloor then
    { c with floor := true, entryOff := t.floorEntry, entry := s.imgAddr o.slot (entryOffset img c.cls t.floorEntry) }
  else { c with skip := true }

/-- The argument blocks of the curds of an order that now run their floor hold the floor's template (R55, R209, R257); kernels and
BMU programs keep what theirs holds, and a PRACH job's record is its own. DEDUCED, log entry 26. -/
def State.floorArgs (s : State) (o : Order) (before : List Curd) : State :=
  let img := (s.image o.slot).bytes
  (s.curds.filter (fun c => c.handle == o.handle && c.floor && 2 ≤ c.cls && c.cls != 6
    && before.any (fun b => b.addr == c.addr && !b.floor))).foldl (fun (t : State) (c : Curd) =>
      t.caveWrite c.args ((slice img (entryOffset img c.cls c.entryOff) 64 ++ zeros 64).take 64)) s

/-- Steps 1 to 3 and 5 of R130 on the curds of the order: STATUS, DEP of successors, and their actions. -/
def State.afterEnd (s : State) (o : Order) (c : Curd) : State :=
  let img := (s.image o.slot).bytes
  let t := imgTaskAt img c.task
  let sc := imgSuccs img t
  ({ s with
    curds := s.curds.map (fun x =>
      if x.addr = c.addr then { x with status := c.endStatus, staged := none }
      else if x.handle = c.handle then
        match sc.find? (fun y => y.1 == x.task) with
        | none => x
        | some y =>
          let x1 := { x with dep := x.dep - 1 }
          if c.endStatus = 0x10 then x1 else s.applyAction o y.2 x1
      else x) } : State).floorArgs o s.curds

/-- A staging buffer of the curd that nothing read is counted when it is freed (R134). -/
def State.stageFreed (s : State) (c : Curd) : State :=
  match c.staged with
  | some _ => if c.stagedRead then s else s.bump .DISP_STAGE_UNUSED c.station
  | none => s

/-- Kind of the record that a completion writes (Table 5.6). -/
def endKind (st : Nat) : Nat := if st = 0x15 then 5 else if st = 0x16 then 6 else 3

/-- Whether the curd's engine wrote a soft-buffer region (R219). -/
def engOfExec (e : Nat) : Option Nat :=
  if 320 ≤ e ∧ e < 352 then some ((e - 320) / 8 * 16 + (e - 320) % 8)
  else if 352 ≤ e ∧ e < 368 then some ((e - 352) / 4 * 16 + 8 + (e - 352) % 4)
  else if 368 ≤ e ∧ e < 376 then some ((e - 368) / 2 * 16 + 12 + (e - 368) % 2)
  else if 376 ≤ e ∧ e < 384 then some ((e - 376) / 2 * 16 + 14 + (e - 376) % 2)
  else none
def State.eng (s : State) (n : Nat) : Eng := Sparse.get {} s.engs n
def State.setEng (s : State) (n : Nat) (e : Eng) : State := { s with engs := Sparse.set {} s.engs n e }

/-- Whether the curd's job wrote a soft-buffer region (R219). -/
def State.curdWrote (s : State) (c : Curd) : Bool :=
  match engOfExec c.exec with | some n => (s.eng n).wrote && (s.eng n).curd == none | none => false

/-- The token of a curd that ended returns, if it holds one. -/
def State.tokenBack (s : State) (c : Curd) : State := if c.token then s.returnToken c.flow c.endStatus (s.curdWrote c) else s

/-! ## What a job leaves in its flow's soft buffer (R194, R200, R235) -/

/-- The allocation entry again (Table 3.5). -/
def AllocSt.entry (a : AllocSt) : List Byte := leBytes 4 (a.flow + a.kind * 2 ^ 24) ++ leBytes 4 a.tbs ++ a.body

/-- Groups, ports and group size of an SRS allocation's weight table (R199, R200). -/
def srsPrg (e : List Byte) : Nat := 2 ^ (1 + u8 e 17 % 4)
def srsGroups (e : List Byte) : Nat := ceilDiv (u16 e 14 % 512) (srsPrg e)
def srsPorts (e : List Byte) : Nat := 2 ^ (u8 e 10 % 4)
def srsBytes (o : Order) (e : List Byte) : Nat := 64 + srsGroups e * srsPorts e * natAt o.params 7 * 4

/-- NR_PDSCH with CACHE (R235): its NEW bit. -/
def cacheNew (e : List Byte) : Option Bool := if u8 e 3 = 0x10 ∧ bitAt (u32 e 24) 25 then some (bitAt (u8 e 19) 6) else none

/-- A table or block of `n` bytes is stored from soft offset 0 on, or is clipped. -/
def State.softFill (s : State) (f n : Nat) : State :=
  let x := s.flow f
  s.setFlow f (if n ≤ x.sbBlocks * 4096 then { x with sbState := 1 } else { x with clipped := (x.clipped + 1) % 2 ^ 32 })

/-- The cache of flow `f` holds the block of an allocation (R235). -/
def State.cacheHolds (s : State) (f tbs : Nat) : Bool :=
  let a := fun o => leNat (readBytes s.cave ((s.flow f).sbMap + 4 * (o / 4096)) 4) % 2 ^ 25 * 4096 + o % 4096
  let h := readBytes s.cave (a 0) 8
  (s.flow f).sbState == 1 && u8 h 6 == 0x10 && u32 h 0 == tbs

/-- A job of an Ivpol image that held its flow's token and ended DONE: a decoding floor leaves the flow SUSPECT; an SRS task has
stored its weight table; a fetch task its cache, or found none, and the allocation's output is then absent. DEDUCED, log entry 78. -/
def State.flowLeft (s : State) (o : Order) (t : ImgTask) (c : Curd) : State :=
  let img := (s.image o.slot).bytes
  if !c.token || c.endStatus != 0x10 || !ivpolImage img then s
  else if (c.cls = 2 ∨ c.cls = 5) ∧ c.floor ∧ !s.curdWrote c then s.setFlow c.flow { s.flow c.flow with sbState := 2 }
  else match (o.produces t).find? (fun k => (o.allocs.getD k default).flow == c.flow) with
    | none => s
    | some k =>
      let a := o.allocs.getD k default
      if c.cls ≤ 1 ∧ a.kind = 3 then s.softFill c.flow (srsBytes o a.entry)
      else if c.cls = 8 then
        match cacheNew a.entry with
        | none => s
        | some true => s.softFill c.flow (64 + ceilDiv a.tbs 8)
        | some false =>
          let ok := s.cacheHolds c.flow a.tbs
          s.modOrder o.handle (fun o => { o with
            allocs := modAt o.allocs k (fun a => { a with cached := ok })
            failedAllocs := if ok then o.failedAllocs else o.failedAllocs ++ [k] })
      else s

/-- The processing of one ended curd (R130); without a trace record for a curd of an isolated die (R136). -/
def State.complete (s : State) (c : Curd) (traced : Bool) : State :=
  match s.orderOf c.handle with
  | none => s.modCurd c.addr (fun x => { x with status := c.endStatus, freed := true })
  | some o =>
    let t := imgTaskAt (s.image o.slot).bytes c.task
    let s1 := (s.afterEnd o c).modOrder c.handle (fun o => o.curdEnded t c)
    let s3 := ((s1.tokenBack c).flowLeft o t c).stageFreed c
    let s4 := if traced ∧ c.endStatus ≠ 0x16 then
      s3.trace c.station (endKind c.endStatus) c.endStatus c.exec c.unstarted c else s3
    s4.modCurd c.addr (fun x => { x with freed := true, token := false })

/-- The processing of a curd whose order is gone: its token and its trace record (R130). -/
def State.completeGone (s : State) (c : Curd) : State :=
  let s1 := ({ s with gone := s.gone.erase c } : State).tokenBack c
  if c.endStatus = 0x16 then s1 else s1.trace c.station (endKind c.endStatus) c.endStatus c.exec c.unstarted c

/-- Curds of a station whose completion is due, in ascending executor number (R130); true for one whose order is gone. -/
def insertExec (c : Bool × Curd) : List (Bool × Curd) → List (Bool × Curd)
  | [] => [c]
  | x :: r => if c.2.exec < x.2.exec then c :: x :: r else x :: insertExec c r
def State.dueCompletions (s : State) (st : Nat) : List (Bool × Curd) :=
  ((s.curds.filter (fun c => c.station == st && c.st == .ended && !c.freed && c.endStamp != s.stamp)).map (fun c => (false, c))
    ++ (s.gone.filter (fun c => c.station == st && c.endStamp != s.stamp)).map (fun c => (true, c))).foldr insertExec []

end Sys2Proof.Machine
end

