-- ==== Sys2Proof/Machine/Isolation.lean ====
section
/-!
DEFINITION. Die isolation (R49, R136, R520, Table 4.13), as one operation that every cause calls.
-/
namespace Sys2Proof.Machine

/-- GLOBAL_DIESTAT of a die set to `v`. -/
def State.setDieStat (s : State) (d v : Nat) : State :=
  s.setReg .GLOBAL_DIESTAT 0 (putBits (s.reg .GLOBAL_DIESTAT) (2 * d + 1) (2 * d) v)

/-- Drops the entries of a sparse table whose key, divided by `n`, is `d`. -/
def dropKeys {V : Type} (m : Sparse V) (n d : Nat) : Sparse V := m.filter (fun e => e.1 / n != d)

/-- The credits of a die's networks and link return to their senders (R113). -/
def creditsHome (m : Sparse (Option CreditTerms)) (p : Nat → Bool) : Sparse (Option CreditTerms) :=
  m.map (fun e => if p e.1 then (e.1, e.2.map (fun t => ⟨t.atSender + t.inFlight + t.inBuffer, 0, 0⟩)) else e)

/-- Key of a credit quantity: QTY × 2^24 + INSTANCE. -/
def creditOfDie (d k : Nat) : Bool :=
  (k / 2 ^ 24 == 3 && bits k 5 4 == d) || (k / 2 ^ 24 == 4 && bits k 1 0 == d)

/-- The state of the die's cores, matrix units, engines and tile channels is lost. -/
def State.dieHalted (s : State) (d : Nat) : State :=
  { s with
    cores := dropKeys s.cores 64 d, bmus := dropKeys s.bmus 16 d, engs := dropKeys s.engs 16 d
    tchans := dropKeys s.tchans 128 d, credits := creditsHome s.credits (creditOfDie d) }

/-- Every curd of the die that has not ended ends FAILED_ON_TIME; the hub processes their completions (R136). -/
def State.failDieCurds (s : State) (d : Nat) : State :=
  let s1 := { s with curds := s.curds.map (fun (c : Curd) => if c.station = d ∧ c.st ≠ CurdState.ended then c.ended s.stamp 0x12 else c) }
  (s1.curds.filter (fun c => c.station == d && !c.freed)).foldl (fun (t : State) (c : Curd) =>
    match t.curdAt c.addr with | some x => t.complete x false | none => t) s1

/-- Tile `t` is on. -/
def State.tileOn (s : State) (t : Nat) : Bool :=
  bitAt (s.reg (if t < 32 then .POWER_TILES_LO else .POWER_TILES_HI)) (t % 32)

/-- A debug session closes (R503, R504, Table 20.7): its tile, when a D2 session held it, is filled again, and its capacity
returns in the columns that open from now on. DEDUCED, log entry 42. -/
def State.closeSession (s : State) (n cause : Nat) : State :=
  if s.fld Fld.DBG_SESS_STATE n = 0 then s
  else
    let x : Sess := s.kp.sess.getD n {}
    let t := s.fld Fld.DBG_SESS_TILE n
    let serves := s.fld Fld.DBG_SESS_LEVEL n == 2 && s.tileOn t && s.dieStat (t / 16) == 1
    let begun := x.filling || s.fld Fld.DBG_SESS_STATE n == 2
    let u := ((s.setReg .DBG_SESS n 0).setReg .DBG_SESS_SRC n 0).setReg .DBG_SESS_IP n 0
    let u : State := { u with
      kp := { u.kp with
        sess := setAt u.kp.sess n {}
        fills := if serves && begun then u.kp.fills ++ [t] else u.kp.fills }
      cap := if serves then { u.cap with tiles := putBit u.cap.tiles t true } else u.cap }
    -- a DBG_OPEN that still waits for its session is answered with a status that the spec does not give
    (match x.ctx with | some c => u.used.lateReply c u.anyFailure [] | none => u).event 0x0121 0 n cause

/-- D2 sessions on a die that is lost close with cause 4 (R509). -/
def State.dropSessions (s : State) (tile : Nat → Bool) : State :=
  (List.range 4).foldl (fun (u : State) n =>
    if u.fld Fld.DBG_SESS_STATE n ≠ 0 ∧ u.fld Fld.DBG_SESS_LEVEL n = 2 ∧ tile (u.fld Fld.DBG_SESS_TILE n) = true then u.closeSession n 4 else u) s

/-- Isolation of a die (R520); a die already isolated or off stays as it is. DEDUCED, log entry 24. -/
def State.isolateDie (s : State) (d cause : Nat) : State :=
  if s.dieStat d = 2 ∨ s.dieStat d = 0 then s
  else
    let s1 := ((s.setReg .DL_PORT d 3).setDieStat d 2).setReg .GLOBAL_ISO_CAUSE 0
      (putBits (s.reg .GLOBAL_ISO_CAUSE) (8 * d + 7) (8 * d) cause)
    let s2 := { (s1.faultHolders (fun p i _ => perDiePool p && i == d)).zeroPools (diePool d) with cap := { s1.cap with dies := putBit s1.cap.dies d false } }
    (((s2.failDieCurds d).dieHalted d).dropSessions (fun t => t / 16 == d)).event 0x0011 2 d cause

end Sys2Proof.Machine
end

