-- ==== Sys2Proof/Machine/Errors.lean ====
section
/-!
DEFINITION. Error detection and error records (R459, R463, R468, R470 to R476).
-/
namespace Sys2Proof.Machine

/-- MEM of Table 18.4 and the code word of an access. Memories here: 0 Cave, 1 TSM (key), 2 VM (key). -/
def codeWord (mem a : Nat) : Nat × Nat :=
  if mem = 0 then (if a < 0x8000000000 then (0, a / 64) else (1, a / 8))
  else if mem = 1 then (2, a / 8) else (3, a / 8)

def State.wordErr (s : State) (w : Nat × Nat) : Option BadWord := s.bad.find? (fun b => b.mem == w.1 && b.word == w.2)

/-- The word that holds copy B of a word of copy A of the flow table or of hub working storage (R87, R470). -/
def copyB (w : Nat × Nat) : Option (Nat × Nat) :=
  let a := w.2 * 64
  if w.1 ≠ 0 then none
  else if a < 0x14000000 then some (0, (a + 0x20000000) / 64)
  else if 0x15800000 ≤ a ∧ a < 0x20000000 then some (0, (a - 0x15800000 + 0x34000000) / 64)
  else none

/-- A word is uncorrectable or poisoned; a word held twice is, when both copies are (R470). -/
def State.wordBad (s : State) (w : Nat × Nat) : Bool :=
  let one := fun w => match s.wordErr w with | some b => b.err != .ce | none => false
  one w && (match copyB w with | some x => one x | none => true)

/-- The word of an address is uncorrectable or poisoned. -/
def State.badAt (s : State) (mem a : Nat) : Bool := s.wordBad (codeWord mem a)

/-- ADDR of an error record (Table 18.4). -/
def wordAddr (mem word : Nat) : Nat :=
  if mem = 0 then word * 64
  else if mem = 1 then word * 8
  else if mem = 2 then (let k := word * 8; k % 2 ^ 21 + k / 2 ^ 21 % 16 * 2 ^ 22)
  else if mem = 3 then (let k := word * 8; k % 2 ^ 19 + k / 2 ^ 19 % 64 * 2 ^ 20)
  else word

/-- Owner class of the block of a Cave address (Table 18.4, byte 28). -/
def State.ownerClass (s : State) (mem word : Nat) : Nat :=
  if mem ≥ 2 then 0
  else
    let a := wordAddr mem word
    if caveSystem a then 1
    else match s.owner (a / 4096) with
      | none => 6
      | some (.order _) => 2 | some (.queue _) => 3 | some (.flow _) => 4 | some (.image _ _) => 5

/-- Rank of a status in a merged record (R473). -/
def errRank (st : Nat) : Nat := if st = 0x62 then 2 else if st = 0x66 then 1 else 0

def errCounter (st : Nat) : RegId := if st = 0x62 then .ECC_D_CNT_UE else if st = 0x66 then .ECC_D_CNT_POISON else .ECC_D_CNT_CE

/-- One more record lost on a die (R474). -/
def State.errLost (s : State) (die : Nat) : State :=
  (s.bump .ECC_D_CNT_LOST die).setFld Fld.ECC_D_STORE_LOST_PENDING die (min (s.fld Fld.ECC_D_STORE_LOST_PENDING die + 1) 65535)

/-- A record into a die's store: merged, kept, or lost (R473, R474). DEDUCED, log entry 36. -/
def State.errStore (s : State) (die : Nat) (r : ErrRec) : State :=
  let st := s.errs.getD die []
  let put := fun (t : State) (l : List ErrRec) => ({ t with errs := setAt t.errs die l }).setFld Fld.ECC_D_STORE_USED die l.length
  if st.any (fun x => x.mem == r.mem && x.word == r.word) then
    put s (st.map (fun x => if x.mem = r.mem ∧ x.word = r.word then
      { x with
        count := min (x.count + 1) 65535
        status := if errRank x.status < errRank r.status then r.status else x.status
        handle := if x.handle = 0 then r.handle else x.handle, func := if x.handle = 0 then r.func else x.func } else x))
  else if st.length < 16 then put s (st ++ [r])
  else
    match st.reverse.find? (fun x => x.status == 0x65) with
    | some v => put (s.errLost die) ((st.reverse.erase v).reverse ++ [r])
    | none => s.errLost die

/-- Closes the calendar to new orders (R112, R470, R475); a write that would open it again is no longer pending. -/
def State.closeRennet (s : State) : State :=
  let k := RegId.key .RENNET_CTRL 0
  { s.setFld Fld.RENNET_CTRL_OPEN 0 0 with
    rwsNew := Sparse.set none s.rwsNew k none, rwsLatched := Sparse.set none s.rwsLatched k none
    rwsLate := Sparse.set none s.rwsLate k none }

/-- An uncorrectable error on a die in whose handling another one lies escalates (R475). DEDUCED, log entry 24; DEDUCED, log entry 36. -/
def State.errEscalate (s : State) (die mem addr : Nat) : State :=
  let s1 := s.bump .ECC_D_CNT_ESC die
  if die < 4 then s1.isolateDie die 3
  else (s1.event 0x0141 3 4 (addr % 2 ^ 32) mem).closeRennet

/-- The function that posted the order of a handle. -/
def State.posterOf (s : State) (h : Nat) : Option Nat :=
  match s.orders.find? (fun o => o.handle == h) with
  | some o => some o.func
  | none => ((s.curds ++ s.gone).find? (fun c => c.handle == h)).map Curd.func

/-- Records one error that a read found: counters, record, handling and escalation. DEDUCED, log entry 36. -/
def State.errRecord (s : State) (die status mem word flags req synd handle : Nat) : State :=
  let addr := wordAddr mem word
  let inHandling := s.fld Fld.ECC_D_STORE_HANDLING die == 1
  let esc := inHandling && status == 0x62 && !s.inHand.contains (die, mem, word)
  let r : ErrRec := ⟨s.stamp, status, mem, die, flags + b2n esc * 8, addr, req, synd, handle, s.posterOf handle, 1, s.ownerClass mem word, s.absBeat, word⟩
  let s1 := (s.bump (errCounter status) die).errStore die r
  let s2 := if status = 0x62 then { s1.setFld Fld.ECC_D_STORE_HANDLING die 1 with inHand := (die, mem, word) :: s1.inHand } else s1
  if esc then s2.errEscalate die mem addr else s2

/-- Removes a word from the list of words that are not intact: a write of the whole word (R459); a merge entry of the word is
gone (R462). -/
def State.wordClean (s : State) (w : Nat × Nat) : State :=
  { s with
    bad := s.bad.filter (fun b => !(b.mem == w.1 && b.word == w.2))
    merges := s.merges.filter (fun m => !(m.mem == w.1 && m.word == w.2)) }

/-- The word holds poison. -/
def State.wordPoison (s : State) (w : Nat × Nat) : State :=
  { s with bad := s.bad.map (fun b => if b.mem = w.1 ∧ b.word = w.2 then { b with err := .poison } else b) }

/-- An uncorrectable word of copy A is served from copy B and rewritten; with both copies bad the hub stops taking orders
(R470). -/
def State.dualCopy (s : State) (w : Nat × Nat) : State :=
  match copyB w with
  | none => s.wordPoison w
  | some _ => if s.wordBad w then ((s.event 0x0140 3 4 (wordAddr 0 w.2) 0).closeRennet).wordPoison w else s.wordClean w

/-- REQ of an error record (Table 18.4): a requester here is an executor, 0x1FE for BAR4, 0x3F0 to 0x3F2, 0x3FF, or 0x400 + n for
the tile DMA on behalf of core n. -/
def reqCode (r : Nat) : Nat := if 0x400 ≤ r then 0x3F3 else if r = 0x1FE then 0x3F1 else r

/-- FLAGS.BUS of a record: BAR4, the steward, the boot ROM and the keeper ask in bus context (R470, Table 18.4). -/
def busFlag (req flags : Nat) : Nat := if (req = 0x1FE ∨ req = 0x3F1 ∨ req = 0x3F2) ∧ flags / 16 % 2 = 0 then 16 else 0

/-- A read of the stored word by a requester (R459, R470): a correctable error is recorded and corrected for the reader, an
uncorrectable one recorded and poisoned, a poisoned word recorded. The symbol or bit an error is located at is a free value,
unless it was injected. A correctable error hits no order (R471). -/
def State.readStored (s : State) (w : Nat × Nat) (die flags req handle : Nat) : State :=
  match s.wordErr w with
  | none => s
  | some b =>
    let fl := flags + b2n b.injected * 2 + busFlag req flags
    match b.err with
    | .ce => (s.errRecord die 0x65 w.1 w.2 fl (reqCode req) (b.sym.getD (s.pick (if w.1 = 0 then 68 else 72))) 0).used
    | .ue => (s.errRecord die 0x62 w.1 w.2 fl (reqCode req) 0x7F handle).dualCopy w
    | .poison => s.errRecord die 0x66 w.1 w.2 fl (reqCode req) 0x7F handle

/-! ## Merge buffers (R461 to R463) -/

/-- The entry of a word. DEDUCED, log entry 47. -/
def State.mergeAt (s : State) (w : Nat × Nat) : Option Merge := s.merges.find? (fun m => m.mem == w.1 && m.word == w.2)

/-- A failed drain of a core's or a tile transfer's store fails the curd that the core runs, when it ends (R463). -/
def State.mergeFail (s : State) (req : Nat) : State :=
  let n := if 0x400 ≤ req then req - 0x400 else req
  let c := Sparse.get {} s.cores n
  if n < 256 ∧ c.curd.isSome then { s with cores := Sparse.set {} s.cores n { c with wprot := true } } else s

/-- An entry drains (R462, R463): the word is read, corrected, merged and rewritten; or it is left poisoned and recorded with
FLAGS.MERGE. Answers whether the bytes were written. DEDUCED, log entry 47. -/
def State.drainEntry (s : State) (m : Merge) : Bool × State :=
  let w := (m.mem, m.word)
  let t : State := { s with merges := s.merges.filter (fun x => x != m) }
  match t.wordErr w with
  | none => (true, t)
  | some b =>
    if b.err = .ce then (true, (t.readStored w m.die 0 m.req m.handle).wordClean w)
    else (false, (t.readStored w m.die 4 m.req m.handle).mergeFail m.req)

/-- The entry of a word drains, when there is one. -/
def State.drainWord (s : State) (w : Nat × Nat) : State :=
  match s.mergeAt w with | some m => (s.drainEntry m).2 | none => s

/-- Every entry that a predicate selects drains, oldest first. Answers whether all their bytes were written. -/
def State.drainAll (s : State) (p : Merge → Bool) : Bool × State :=
  (s.merges.filter p).foldl (fun (r : Bool × State) m => let d := r.2.drainEntry m; (r.1 && d.1, d.2)) (true, s)

/-- A write of one code word, whole or in part (R459, R461, R462): a whole word becomes intact; a part of a word that is not
intact waits in the merge buffer. DEDUCED, log entry 47. -/
def State.writeWord (s : State) (w : Nat × Nat) (whole : Bool) (die src handle : Nat) : State :=
  let t := match s.mergeAt w with | some m => if m.req = src then s else (s.drainEntry m).2 | none => s
  if whole then t.wordClean w
  else if (t.wordErr w).isNone ∨ (t.mergeAt w).isSome then t
  else { t with merges := t.merges ++ [⟨w.1, w.2, src, handle, die⟩] }

/-- A read of one code word by a requester: its merge entry drains first (R462). -/
def State.readWord (s : State) (w : Nat × Nat) (die flags req handle : Nat) : State :=
  (s.drainWord w).readStored w die flags req handle

/-- The code words of a range. -/
def wordsOf (mem a n : Nat) : List (Nat × Nat) :=
  let sz := if (codeWord mem a).1 = 0 then 64 else 8
  (List.range (ceilDiv (a % sz + n) sz)).map (fun i => codeWord mem (a / sz * sz + i * sz))

/-- A read of a range by a requester. -/
def State.readRange (s : State) (mem a n die flags req handle : Nat) : State :=
  (wordsOf mem a n).foldl (fun t w => t.readWord w die flags req handle) (if mem = 0 then s.wakeStack a n else s)

/-- No word of a range is uncorrectable or poisoned. -/
def State.rangeOk (s : State) (mem a n : Nat) : Bool :=
  (wordsOf mem a n).all (fun w => !s.wordBad w)

/-- The first bad word of a range is recorded as read. -/
def State.readBad (s : State) (mem a n die req handle : Nat) : State :=
  match (wordsOf mem a n).find? (fun w => s.wordBad w) with
  | some w => s.readWord w die 0 req handle
  | none => s

/-- A curd's unit has read its staged buffer (R134): a TSM address in the staging region while pre-staging is on. -/
def State.noteStaged (s : State) (cu : Option Nat) (mem a : Nat) : State :=
  match cu with
  | some x =>
    if mem = 1 ∧ 0x1C0000 ≤ a % 2 ^ 21 ∧ s.fld Fld.DISP_CTRL_PRESTAGE (a / 2 ^ 25 % 4) = 1 then
      s.modCurd x (fun c => { c with stagedRead := true })
    else s
  | none => s

/-! ## Error injection (R476) -/

/-- Number of non-zero bytes among the low `n` of `v`. -/
def nzBytes (v : Nat) : Nat → Nat
  | 0 => 0
  | n + 1 => b2n (v % 256 != 0) + nzBytes (v / 256) n

/-- What a masked write leaves in a word: nothing, one symbol or bit (correctable), two (uncorrectable), more: free. -/
def State.flipErr (s : State) (target : Nat) : Option WordErr :=
  let d := s.reg .ECC_FLIP_DLO + 2 ^ 32 * s.reg .ECC_FLIP_DHI
  let n := if target = 0 then nzBytes d 8 + nzBytes (s.reg .ECC_FLIP_CHK) 4
    else popCount d 64 + popCount (s.reg .ECC_FLIP_CHK) 8
  if n = 0 then none else if n = 1 then some .ce else if n = 2 then some .ue
  else if s.pick 2 = 0 then some .ce else some .ue

/-- Where the one symbol or bit that the mask changes lies: data first, then check bits (Table 18.4). DEDUCED, log entry 36. -/
def State.flipSym (s : State) (target : Nat) : Option Nat :=
  let d := s.reg .ECC_FLIP_DLO + 2 ^ 32 * s.reg .ECC_FLIP_DHI
  let c := s.reg .ECC_FLIP_CHK
  if target = 0 then
    match (List.range 8).find? (fun i => d / 256 ^ i % 256 != 0) with
    | some i => some (8 * s.fld Fld.ECC_FLIP_CFG_WORD + i)
    | none => ((List.range 4).find? (fun i => c / 256 ^ i % 256 != 0)).map (64 + ·)
  else
    match (List.range 64).find? (bitAt d) with
    | some i => some i
    | none => ((List.range 8).find? (bitAt c)).map (64 + ·)

/-- A write of a range by executor `src` passes the injector: the armed mask applies to its first code word. -/
def State.flip (s : State) (mem a src : Nat) : State :=
  let w := codeWord mem a
  let so := s.fld Fld.ECC_FLIP_CFG_SOURCE
  if s.fld Fld.ECC_FLIP_CFG_ARM = 1 ∧ s.fld Fld.ECC_FLIP_CFG_TARGET = w.1 ∧ (so = 0x1FF ∨ so = if 0x400 ≤ src then 0x1FD else src) then
    let adr := wordAddr w.1 w.2
    let s1 := (((((s.setFld Fld.ECC_FLIP_CFG_ARM 0 0).setFld Fld.ECC_FLIP_STAT_APPLIED 0 1).setReg .ECC_FLIP_ADDR_LO 0 (adr % 2 ^ 32)).setReg
      .ECC_FLIP_ADDR_HI 0 (adr / 2 ^ 32)).setReg .ECC_FLIP_STAMP 0 s.stamp).used
    match s.flipErr w.1 with
    | none => s1
    | some e => { s1.wordClean w with bad := (s1.wordClean w).bad ++ [⟨w.1, w.2, e, true, s.flipSym w.1⟩] }
  else s

/-- A write of `n` bytes by a requester, as the codes see it (R459, R461). -/
def State.writeWords (s : State) (mem a n die src handle : Nat) : State :=
  let sz := if (codeWord mem a).1 = 0 then 64 else 8
  (wordsOf mem a n).foldl (fun (t : State) w => t.writeWord w (a ≤ w.2 * sz && w.2 * sz + sz ≤ a + n) die src handle) s

/-- A write of `n` bytes makes the words it covers whole intact (R459). -/
def State.cleanRange (s : State) (mem a n : Nat) : State :=
  if s.bad = [] then s
  else
    let sz := if (codeWord mem a).1 = 0 then 64 else 8
    (wordsOf mem a n).foldl (fun t w => if a ≤ w.2 * sz ∧ w.2 * sz + sz ≤ a + n then t.wordClean w else t) s

end Sys2Proof.Machine
end

