-- ==== Sys2Proof/Machine/Dsp.lean ====
section
/-!
DEFINITION. The DSP core (R143 to R161): local and Cave accesses, the words of a bundle, their exceptions, and what each
writes. Stalls leave the core as it is: a bundle that waits for a CMU result simply does not issue (R152, R170).
-/
namespace Sys2Proof.Machine

def State.core (s : State) (n : Nat) : Core := Sparse.get {} s.cores n
def State.setCore (s : State) (n : Nat) (c : Core) : State := { s with cores := Sparse.set {} s.cores n c }
def State.tchan (s : State) (k : Nat) : TileChan := Sparse.get {} s.tchans k
def State.setTchan (s : State) (k : Nat) (t : TileChan) : State := { s with tchans := Sparse.set {} s.tchans k t }

/-- Index of core `n`'s registers, of its tile's, and of its die's. -/
def coreTile (n : Nat) : Nat := n / 4
def coreDie (n : Nat) : Nat := n / 64

/-- The curd a core holds. -/
def State.coreCurd (s : State) (n : Nat) : Option Curd :=
  match (s.core n).curd with
  | none => none
  | some a => s.curds.find? (fun c => c.addr == a)

/-! ## Local accesses (R144, R132) -/

/-- The store `key` of a local address: (memory, key); none outside VM and TSM. -/
def localKey (n a : Nat) : Option (Nat × Nat) :=
  if a < 0x80000 then some (2, n * 2 ^ 19 + a)
  else if 0x100000 ≤ a ∧ a < 0x300000 then some (1, coreTile n * 2 ^ 21 + (a - 0x100000))
  else none

/-- A TSM offset of the staging region that is not in the buffer bound to the running curd (R132). -/
def State.stagingDenied (s : State) (n a : Nat) : Bool :=
  let o := a - 0x100000
  decide (0x100000 ≤ a ∧ a < 0x300000 ∧ 0x1C0000 ≤ o) && s.fld Fld.DISP_CTRL_PRESTAGE (coreDie n) == 1
  && (match s.coreCurd n with
      | some c => !(c.staged == some (coreTile n, (o - 0x1C0000) / 0x10000))
      | none => true)

def State.localByte (s : State) (n a : Nat) : Byte :=
  match ((s.core n).lbuf.reverse).find? (fun e => e.1 == a) with
  | some e => e.2
  | none => match localKey n a with
    | some (2, k) => Sparse.get 0 s.vm k
    | some (_, k) => Sparse.get 0 s.tsm k
    | none => 0

def State.localRead (s : State) (n a len : Nat) : Nat := leNat ((List.range len).map (fun i => s.localByte n (a + i)))

/-- The exception of a local access of `len` bytes, 0 for none (R144, R157). -/
def State.localExc (s : State) (n a len : Nat) (load : Bool) : Nat :=
  if a % len ≠ 0 then 0x06
  else match localKey n a with
    | none => 0x07
    | some k =>
      if s.stagingDenied n a then 0x07
      else if load && (List.range (ceilDiv len 8)).any (fun i => s.badAt k.1 (k.2 + 8 * i)) then 0x08 else 0

/-- The local words a core's buffered stores reach, with how many of their bytes they cover. -/
def localWords (n : Nat) (b : List (Nat × Byte)) : List (Nat × Nat × Nat) :=
  ((b.filterMap (fun e => (localKey n e.1).map (fun k => (k.1, k.2 / 8)))).eraseDups).map (fun w =>
    (w.1, w.2, ((b.filterMap (fun e => localKey n e.1)).filter (fun k => k.1 == w.1 && k.2 / 8 == w.2)).eraseDups.length))

/-- The codes of the words that local stores reach (R459, R463, R476): a whole word becomes intact; a partly written bad one
waits in the merge buffer. -/
def State.localCodes (s : State) (n : Nat) (b : List (Nat × Byte)) : State :=
  let h := match s.coreCurd n with | some cu => cu.handle | none => 0
  (localWords n b).foldl (fun t w =>
    let k := codeWord w.1 (w.2.1 * 8)
    let t1 := t.writeWord k (w.2.2 == 8) (coreDie n) n h
    t1.flip w.1 (w.2.1 * 8) n) s

/-- Makes a core's VM and TSM stores visible (R148). DEDUCED, log entry 65. -/
def State.flushLocal (s0 : State) (n : Nat) : State :=
  let s := if s0.bad = [] ∧ s0.fld Fld.ECC_FLIP_CFG_ARM = 0 then s0 else s0.localCodes n (s0.core n).lbuf
  let c := s.core n
  let t := c.lbuf.foldl (fun t e => match localKey n e.1 with
    | some (2, k) => { t with vm := Sparse.set 0 t.vm k e.2 }
    | some (_, k) => { t with tsm := Sparse.set 0 t.tsm k e.2 }
    | none => t) s
  t.setCore n { c with lbuf := [] }

/-! ## The tile DMA window (R372, R440) -/

/-- The channel key and the offset in its 0x80-byte block of a window address; the region port is channel 4. -/
def windowSlot (tile a : Nat) : Option (Nat × Nat) :=
  let o := a - 0x400000
  if o < 0x200 then some (tile * 8 + o / 0x80, o % 0x80)
  else if 0x800 ≤ o ∧ o < 0x880 then some (tile * 8 + 4, o - 0x800)
  else none

def inWindow (a : Nat) : Bool := decide (0x400000 ≤ a ∧ a < 0x401000)

/-- STATE, ARMED, REFUSED, CORE and LAST_STATUS as TSTAT reads them. -/
def tstatWord (t : TileChan) : Nat :=
  (match t.active with | none => 0 | some j => if j.aborted then 2 else 1) + 4 * b2n t.armed.isSome + 8 * b2n t.refused
    + 16 * ((t.active.map (fun j => j.core % 4)).getD 0) + 2 ^ 8 * t.lastStatus

def State.windowRead (s : State) (n a : Nat) : Nat :=
  match windowSlot (coreTile n) a with
  | none => 0
  | some (k, o) =>
    let t := s.tchan k
    if o < 0x40 then natAt t.shadow (o / 4) else if o = 0x44 then tstatWord t else if o = 0x48 then t.done else 0

/-- A store of 1 to GO: the shadow set is armed, starting at once on an idle channel, or refused (R372). -/
def State.tileGo (s0 : State) (n k : Nat) : State :=
  let s := s0.flushLocal n
  let t := s.tchan k
  let j : TileJob := {
    desc := t.shadow.flatMap (leBytes 4), core := n, curd := (s.core n).curd
    lost := (k % 8 == 4) && s.fld Fld.LR_STAT_STATE (1 + k / 128) != 3 }
  match t.active, t.armed with
  | none, _ => s.setTchan k { t with active := some j, refused := false }
  | some _, none => s.setTchan k { t with armed := some j, refused := false }
  | some _, some _ => s.setTchan k { t with refused := true }

/-- A word store into the window: descriptor words fill the shadow set. -/
def State.windowWrite (s : State) (n a v : Nat) : State :=
  match windowSlot (coreTile n) a with
  | none => s
  | some (k, o) =>
    let t := s.tchan k
    if o < 0x40 then s.setTchan k { t with shadow := setAt t.shadow (o / 4) v }
    else if o = 0x40 ∧ v = 1 then s.tileGo n k
    else s

/-! ## Words (R151, R153, Tables 6.3 and 6.4) -/

/-- Slot class of a MAJOR: 0 scalar, 1 vector, 2 load/store, 3 branch, system and CMU. A reserved MAJOR, to which Table 6.3
gives no class, goes by the range of numbers it stands in. DESIGN CHOICE, log entry 75. -/
def majClass (m : Nat) : Nat := if m ≤ 0x0F then 0 else if m ≤ 0x1F then 1 else if m ≤ 0x2F then 2 else 3
def majReserved (m : Nat) : Bool :=
  m = 0 || (0x0D ≤ m && m ≤ 0x0F) || m = 0x12 || (0x1C ≤ m && m ≤ 0x1F) || (0x2C ≤ m && m ≤ 0x2F)
    || m = 0x35 || m = 0x36 || (0x38 ≤ m && m ≤ 0x3D) || m = 0x3F

def wMaj (w : Nat) : Nat := bits w 31 26
def wEnd (w : Nat) : Bool := bitAt w 25
def wD (w : Nat) : Nat := bits w 24 20
def wA (w : Nat) : Nat := bits w 19 15
def wB (w : Nat) : Nat := bits w 14 10

/-- A predicate field is 0b0000 or 0b1nnn. -/
def pmOk (pm : Nat) : Bool := pm = 0 || 8 ≤ pm
/-- The lane mask a PM field selects. -/
def pmMask (c : Core) (pm : Nat) : Nat := if pm = 0 then 2 ^ 32 - 1 else natAt c.p (pm % 8)

/-- One effect of a word on the core. -/
inductive CoreWr where
  | s (r v : Nat)
  | v (r : Nat) (lanes : List (Option Nat))     -- none keeps the lane
  | p (r mask val : Nat)                        -- the bits of `mask` take those of `val`
  | csr (v : Nat)
  deriving DecidableEq, Repr

/-- What a word does beyond registers. -/
inductive CoreAct where
  | none
  | jump (pc : Nat)
  | take
  | give (status : Nat)
  | fence (kind : Nat)
  | cmu (op : CmuOp)
  | store (bytes : List (Nat × Byte))
  | window (a v : Nat)
  | cst (a : Nat) (data : List Byte)
  deriving DecidableEq, Repr

/-- A word's outcome: an exception cause (0 none), its register writes and its other action. -/
structure WordOut where
  exc : Nat := 0
  wr : List CoreWr := []
  act : CoreAct := .none
  rd : List (Nat × Nat × Nat) := []      -- memory, address and length of a load
  deriving DecidableEq, Repr

def excOut (c : Nat) : WordOut := { exc := c }

/-! ### Scalar words (R155, Table 6.5) -/

def clz32 (x : Nat) : Nat := if x = 0 then 32 else 31 - x.log2

def srOp (c : Core) (w : Nat) : WordOut :=
  let f := bits w 4 0; let rd := wD w; let x := natAt c.s (wA w); let y := natAt c.s (wB w)
  let ok := fun v => ({ wr := [.s rd (v % 2 ^ 32)] } : WordOut)
  let sx := sext 32 x; let sy := sext 32 y
  if bits w 9 5 ≠ 0 then excOut 4
  else match f with
    | 0x00 => ok (x + y)
    | 0x01 => ok (x + 2 ^ 32 - y)
    | 0x02 => ok (x &&& y)
    | 0x03 => ok (x ||| y)
    | 0x04 => ok (x ^^^ y)
    | 0x05 => ok (x * 2 ^ (y % 32))
    | 0x06 => ok (x / 2 ^ (y % 32))
    | 0x07 => ok (enc 32 (sx / (2 ^ (y % 32) : Nat)))
    | 0x08 => ok (b2n (decide (sx < sy)))
    | 0x09 => ok (b2n (decide (x < y)))
    | 0x0A => ok (if sx < sy then x else y)
    | 0x0B => ok (if sx < sy then y else x)
    | 0x0C => ok (x * y)
    | 0x0D => ok (enc 32 (sx * sy / (2 ^ 32 : Nat)))
    | 0x0E => ok (x * y / 2 ^ 32)
    | 0x0F => if wB w ≠ 0 then excOut 4 else ok (clz32 x)
    | 0x10 => if wB w ≠ 0 ∨ 8 ≤ rd then excOut 4 else { wr := [.p rd (2 ^ 32 - 1) x] }
    | 0x11 => if wB w ≠ 0 ∨ 8 ≤ wA w then excOut 4 else ok (natAt c.p (wA w))
    | _ => excOut 4

def siOp (c : Core) (w : Nat) : WordOut :=
  let rd := wD w; let x := natAt c.s (wA w); let z := bits w 14 0; let i := sext 15 z
  let ok := fun v => ({ wr := [.s rd (v % 2 ^ 32)] } : WordOut)
  match wMaj w with
  | 0x02 => ok (enc 32 ((x : Int) + i))
  | 0x03 => ok (x &&& z)
  | 0x04 => ok (x ||| z)
  | 0x05 => ok (x ^^^ z)
  | 0x06 => if z ≥ 32 then excOut 4 else ok (x * 2 ^ z)
  | 0x07 => if z ≥ 32 then excOut 4 else ok (x / 2 ^ z)
  | 0x08 => if z ≥ 32 then excOut 4 else ok (enc 32 (sext 32 x / (2 ^ z : Nat)))
  | 0x09 => ok (b2n (decide (sext 32 x < i)))
  | 0x0A => ok (b2n (decide (x < enc 32 i)))
  | 0x0C => ok (bits w 19 0 * 2 ^ 12)
  | _ => excOut 4

/-! ### Vector words (R154, R156, Table 6.6) -/

def rndI (x : Int) (s : Nat) : Int := if s = 0 then x else (x + (2 ^ (s - 1) : Nat)) / (2 ^ s : Nat)
def sat16 (x : Int) : Int := clampI (-32768) 32767 x
def sat32 (x : Int) : Int := clampI (-2147483648) 2147483647 x
def sat8 (x : Int) : Int := clampI (-127) 127 x

/-- H0 and H1 of a lane, also I and Q; a byte of a lane; the lane as a signed word. -/
def h0 (x : Nat) : Int := sext 16 x
def h1 (x : Nat) : Int := sext 16 (x / 65536)
def byteI (x k : Nat) : Int := sext 8 (x / 2 ^ (8 * k))
def mkH (a b : Int) : Nat := enc 16 a + 65536 * enc 16 b
def mkB (f : Nat → Int) : Nat := enc 8 (f 0) + 256 * enc 8 (f 1) + 65536 * enc 8 (f 2) + 16777216 * enc 8 (f 3)
def w32 (x : Nat) : Int := sext 32 x

/-- Both halves through a function. -/
def mapH (f : Int → Int → Int) (a b : Nat) : Nat := mkH (f (h0 a) (h0 b)) (f (h1 a) (h1 b))

/-- Products of two complex lanes: real and imaginary parts of a·b, or of a·conj(b). -/
def cRe (conj : Bool) (a b : Nat) : Int := if conj then h0 a * h0 b + h1 a * h1 b else h0 a * h0 b - h1 a * h1 b
def cIm (conj : Bool) (a b : Nat) : Int := if conj then h1 a * h0 b - h0 a * h1 b else h0 a * h1 b + h1 a * h0 b

/-- One-register operations of MAJOR 0x10, on one lane of each source. -/
def vrLane (f a b : Nat) : Option Nat :=
  match f with
  | 0x00 => some (mapH (· + ·) a b)
  | 0x01 => some (mapH (fun x y => sat16 (x + y)) a b)
  | 0x02 => some (mapH (· - ·) a b)
  | 0x03 => some (mapH (fun x y => sat16 (x - y)) a b)
  | 0x04 => some (mkB (fun k => sat8 (byteI a k + byteI b k)))
  | 0x05 => some (mkB (fun k => sat8 (byteI a k - byteI b k)))
  | 0x06 => some ((a + b) % 2 ^ 32)
  | 0x07 => some ((a + 2 ^ 32 - b) % 2 ^ 32)
  | 0x08 => some (mapH (fun x y => sat16 (rndI (x * y) 15)) a b)
  | 0x09 => some (mkH (sat16 (rndI (cRe false a b) 15)) (sat16 (rndI (cIm false a b) 15)))
  | 0x0A => some (mkH (sat16 (rndI (cRe true a b) 15)) (sat16 (rndI (cIm true a b) 15)))
  | 0x0D => some (enc 32 (sat32 (h0 a * h0 a + h1 a * h1 a)))
  | 0x0E => some (mkH (h0 a) (sat16 (-h1 a)))
  | 0x0F => some (mkH (sat16 (h0 a).natAbs) (sat16 (h1 a).natAbs))
  | 0x10 => some (mkH (sat16 (-h0 a)) (sat16 (-h1 a)))
  | 0x11 => some (mapH (fun x y => if x < y then y else x) a b)
  | 0x12 => some (mapH (fun x y => if x < y then x else y) a b)
  | 0x13 => some (if w32 a < w32 b then b else a)
  | 0x14 => some (if w32 a < w32 b then a else b)
  | 0x15 => some (a &&& b)
  | 0x16 => some (a ||| b)
  | 0x17 => some (a ^^^ b)
  | _ => none

/-- The lanes a vector word acts on: all, or one half by its slot (R151). -/
def laneRange (full : Bool) (slot : Nat) (i : Nat) : Bool := full || (if slot = 2 then i < 16 else 16 ≤ i)

/-- Result lanes: `g i` where lane `i` is in range and its mask bit is set. -/
def lanesOf (full : Bool) (slot mask : Nat) (g : Nat → Nat) : List (Option Nat) :=
  (List.range 32).map (fun i => if laneRange full slot i && bitAt mask i then some (g i) else none)

/-- Unary operations ignore vb; the table gives them no zero rule for it. -/
def vReg (c : Core) (r : Nat) : List Nat := c.v.getD r []

def cmpLane (f a b : Nat) : Bool :=
  match f with
  | 0 => w32 a == w32 b
  | 1 => decide (w32 a < w32 b)
  | 2 => decide (w32 a ≤ w32 b)
  | 3 => h0 a == h0 b
  | 4 => decide (h0 a < h0 b)
  | _ => decide (h0 a ≤ h0 b)

/-- A mask number from lane tests. -/
def maskOf (f : Nat → Bool) : Nat := (List.range 32).foldl (fun m i => m + b2n (f i) * 2 ^ i) 0

/-- VR words. `slot` is 2 for V0 and 3 for V1; `free` gives the lanes VPERM leaves open. DEDUCED, log entry 65. -/
def vrOp (c : Core) (w slot : Nat) (free : Nat → Nat) : WordOut :=
  let f := bits w 4 0; let vd := wD w; let pm := bits w 9 6; let full := bitAt w 5
  let a := vReg c (wA w); let b := vReg c (wB w); let m := pmMask c pm
  if !pmOk pm then excOut 4
  else if wMaj w = 0x10 then
    if f = 0x0B ∨ f = 0x0C then
      if vd % 2 = 1 then excOut 4
      else
        let cj := decide (f = 0x0C)
        let d := vReg c vd; let e := vReg c (vd + 1)
        { wr := [.v vd (lanesOf full slot m (fun i => enc 32 (sat32 (w32 (natAt d i) + cRe cj (natAt a i) (natAt b i))))),
                 .v (vd + 1) (lanesOf full slot m (fun i => enc 32 (sat32 (w32 (natAt e i) + cIm cj (natAt a i) (natAt b i)))))] }
    else if f = 0x18 then
      { wr := [.v vd (lanesOf full slot (2 ^ 32 - 1) (fun i => if bitAt m i then natAt a i else natAt b i))] }
    else if (vrLane f 0 0).isNone then excOut 4
    else { wr := [.v vd (lanesOf full slot m (fun i => (vrLane f (natAt a i) (natAt b i)).getD 0))] }
  else if wMaj w = 0x11 then
    if 5 < f ∨ 8 ≤ vd then excOut 4
    else { wr := [.p vd (maskOf (laneRange full slot)) (maskOf (fun i => bitAt m i && cmpLane f (natAt a i) (natAt b i)))] }
  else
    if !full then excOut 4
    else match f with
      | 0x00 => { wr := [.v vd ((List.range 32).map (fun i =>
          let j := natAt b i % 32
          some (if bitAt m j then natAt a j else free i)))] }
      | 0x01 =>
        let t := (List.range 32).foldl (fun (x : Int) i => if bitAt m i then x + w32 (natAt a i) else x) 0
        { wr := [.v vd ((List.range 32).map (fun i => some (if i = 0 then enc 32 (sat32 t) else 0)))] }
      | 0x02 =>
        let r := (List.range 32).foldl (fun (x : Int × Nat) i =>
          if bitAt m i && (x.2 == 32 || decide (x.1 < w32 (natAt a i))) then (w32 (natAt a i), i) else x) (-2147483648, 32)
        { wr := [.v vd ((List.range 32).map (fun i => some (if i = 0 then enc 32 r.1 else if i = 1 then r.2 else 0)))] }
      | _ => excOut 4

/-- VI words. -/
def viOp (c : Core) (w slot : Nat) : WordOut :=
  let vd := wD w; let pm := bits w 9 6; let full := bitAt w 5; let k := bits w 4 0
  let a := vReg c (wA w); let b := vReg c (wB w); let m := pmMask c pm
  let lanes := fun g => ({ wr := [.v vd (lanesOf full slot m g)] } : WordOut)
  if !pmOk pm then excOut 4
  else match wMaj w with
    | 0x14 => if 15 < k then excOut 4 else lanes (fun i => mkH (sat16 (h0 (natAt a i) * (2 ^ k : Nat))) (sat16 (h1 (natAt a i) * (2 ^ k : Nat))))
    | 0x15 => if 15 < k then excOut 4 else lanes (fun i => mkH (rndI (h0 (natAt a i)) k) (rndI (h1 (natAt a i)) k))
    | 0x16 => lanes (fun i => natAt a i * 2 ^ k % 2 ^ 32)
    | 0x17 => lanes (fun i => enc 32 (rndI (w32 (natAt a i)) k))
    | 0x18 =>
      if wA w % 2 = 1 ∨ wB w ≠ 0 then excOut 4
      else
        let e := vReg c (wA w + 1)
        lanes (fun i => mkH (sat16 (rndI (w32 (natAt a i)) k)) (sat16 (rndI (w32 (natAt e i)) k)))
    | 0x19 =>
      if 15 < k then excOut 4
      else lanes (fun i =>
        let n := fun x => sat8 (rndI x k)
        mkB (fun j => if j = 0 then n (h0 (natAt a i)) else if j = 1 then n (h1 (natAt a i))
          else if j = 2 then n (h0 (natAt b i)) else n (h1 (natAt b i))))
    | 0x1A => if !full ∨ pm ≠ 0 ∨ wB w ≠ 0 then excOut 4 else { wr := [.s vd (natAt a k)] }
    | _ => if wB w ≠ 0 ∨ k ≠ 0 then excOut 4 else lanes (fun _ => natAt c.s (wA w))

/-! ### Load and store words (R145, R157, Table 6.7) -/

/-- Bytes of the value `v`. -/
def storeBytes (a len v : Nat) : List (Nat × Byte) := (leBytes len v).mapIdx (fun i b => (a + i, b))

/-- The latest of a core's own unacknowledged Cave stores to an address, else the Cave. -/
def State.ownCaveByte (s : State) (n a : Nat) : Byte :=
  match (s.core n).csts.reverse.find? (fun t => decide (t.addr ≤ a ∧ a < t.addr + t.data.length)) with
  | some t => t.data.getD (a - t.addr) 0
  | none => s.caveByte a

def lsOp (st : State) (n : Nat) (c : Core) (w : Nat) : WordOut :=
  let r := wD w; let maj := wMaj w; let base := natAt c.s (wA w)
  let a := enc 32 ((base : Int) + sext 15 (bits w 14 0))
  let win := inWindow a
  let len := if maj = 0x20 ∨ maj = 0x25 then 4 else if maj = 0x21 ∨ maj = 0x22 ∨ maj = 0x26 then 2 else 1
  if maj ≤ 0x24 then
    if win then
      if maj ≠ 0x20 then excOut (if a % len ≠ 0 then 6 else 7) else if a % 4 ≠ 0 then excOut 6
      else { wr := [.s r (st.windowRead n a)] }
    else
      let e := st.localExc n a len true
      let rd := match localKey n a with | some k => [(k.1, k.2, len)] | none => []
      if e ≠ 0 then { exc := e, rd := if e = 8 then rd else [] }
      else
        let v := st.localRead n a len
        { rd := rd, wr := [.s r (if maj = 0x21 then enc 32 (sext 16 v) else if maj = 0x23 then enc 32 (sext 8 v) else v)] }
  else if maj ≤ 0x27 then
    let v := natAt c.s r
    if win then
      if maj ≠ 0x25 then excOut (if a % len ≠ 0 then 6 else 7) else if a % 4 ≠ 0 then excOut 6
      else { act := .window a v }
    else
      let e := st.localExc n a len false
      if e ≠ 0 then excOut e else { act := .store (storeBytes a len v) }
  else if maj ≤ 0x29 then
    let sz := bits w 14 13
    if wA w % 2 = 1 ∨ sz = 3 ∨ (maj = 0x29 ∧ bitAt w 12) then excOut 4
    else
      let l := 2 ^ sz
      let hi := natAt c.s (wA w + 1) % 256
      let ca := enc 40 ((hi * 2 ^ 32 + base : Nat) + sext 12 (bits w 11 0))
      if ca % l ≠ 0 then excOut 6
      else if !caveMapped ca then excOut 7
      else if maj = 0x28 then
        if st.badAt 0 (canonAddr ca) then { exc := 8, rd := [(0, ca, l)] }
        else
          let v := leNat ((List.range l).map (fun i => st.ownCaveByte n (ca + i)))
          { rd := [(0, ca, l)], wr := [.s r (if bitAt w 12 then v else enc 32 (sext (8 * l) v))] }
      else { act := .cst ca (leBytes l (natAt c.s r)) }
  else
    let pm := bits w 14 11; let full := bitAt w 10; let half := bitAt w 9
    if !pmOk pm ∨ (full ∧ half) then excOut 4
    else
      let va := enc 32 ((base : Int) + sext 9 (bits w 8 0) * 64)
      let l := if full then 128 else 64
      let m := pmMask c pm
      let first := if half then 16 else 0
      let e := if inWindow va then (if va % l ≠ 0 then 6 else 7) else st.localExc n va l (maj == 0x2A)
      let rd := match localKey n va with | some k => [(k.1, k.2, l)] | none => []
      if e ≠ 0 then { exc := e, rd := if e = 8 then rd else [] }
      else
        let inR := fun i => full || decide (first ≤ i ∧ i < first + 16)
        if maj = 0x2A then
          { rd := rd, wr := [.v r ((List.range 32).map (fun i =>
              if inR i && bitAt m i then some (st.localRead n (va + 4 * (i - first)) 4) else none))] }
        else
          let v := vReg c r
          { act := .store ((List.range 32).flatMap (fun i =>
              if inR i && bitAt m i then storeBytes (va + 4 * (i - first)) 4 (natAt v i) else [])) }

/-! ### Branch, system and CMU words (R158, R159, R167, Tables 6.8 and 6.9) -/

/-- CMU_BUSY at core cycle `cyc` (R170). -/
def Core.busyAt (c : Core) (cyc : Nat) : Bool :=
  match c.longAt with | some t => decide (t < cyc ∧ cyc ≤ t + 23) | none => false

def condMet (k x : Nat) : Bool :=
  let v := sext 32 x
  match k with
  | 0 => v == 0 | 1 => v != 0 | 2 => decide (v < 0) | 3 => decide (0 ≤ v) | 4 => decide (0 < v) | _ => decide (v ≤ 0)

/-- Grains left of a budget: min(s + b, 1,000) − g (BUDGET); 0 on a core that holds no curd, for which the spec gives no
value. DESIGN CHOICE, log entry 75. -/
def budgetLeft (cu : Option Curd) (g : Nat) : Nat :=
  match cu with | some c => min (stampGrain c.startStamp + c.budget) 1000 - g | none => 0

def bcOp (st : State) (n : Nat) (c : Core) (w cyc next : Nat) : WordOut :=
  let pc := c.pc; let maj := wMaj w
  let go := fun (d : Int) => enc 32 ((pc : Int) + 4 * d)
  match maj with
  | 0x30 => { act := .jump (go (sext 25 (bits w 24 0))) }
  | 0x31 => { wr := [.s (wD w) next], act := .jump (go (sext 20 (bits w 19 0))) }
  | 0x32 => if wD w ≠ 0 ∨ bits w 14 0 ≠ 0 then excOut 4 else { act := .jump (natAt c.s (wA w)) }
  | 0x33 =>
    let k := bits w 24 22
    if 5 < k then excOut 4
    else if condMet k (natAt c.s (bits w 21 17)) then { act := .jump (go (sext 17 (bits w 16 0))) } else {}
  | 0x34 => if wD w ≠ 0 then excOut 4 else if c.busyAt cyc then { act := .jump (go (sext 20 (bits w 19 0))) } else {}
  | 0x37 =>
    let f := bits w 4 0; let rd := wD w; let ra := wA w
    if bits w 14 5 ≠ 0 then excOut 4
    else match f with
      | 0x00 => {}
      | 0x01 => if rd ≠ 0 ∨ ra ≠ 0 then excOut 4 else { act := .take }
      | 0x02 => { act := .give (natAt c.s ra % 256) }
      | 0x03 | 0x04 | 0x05 | 0x06 => { act := .fence f }
      | 0x07 => { wr := [.s rd (budgetLeft (st.coreCurd n) st.grain)] }
      | 0x08 =>
        match ra with
        | 0 => { wr := [.s rd n] }
        | 1 => { wr := [.s rd st.stamp] }
        | 2 => { wr := [.s rd (cyc % 2 ^ 32)] }
        | 3 => { wr := [.s rd (c.cmucsr + 65536 * b2n (c.busyAt cyc))] }
        | _ => excOut 4
      | 0x09 => if rd ≠ 3 then excOut 4 else { wr := [.csr (natAt c.s ra &&& 0x1F01)] }
      | _ => excOut 4
  | _ => -- 0x3E
    let f := wD w; let d := wA w; let a := wB w; let b := bits w 9 5; let mod := bits w 4 0
    let usesB := decide (f = 0x06 ∨ f = 0x10 ∨ f = 0x11)
    if !cmuFuncOk f then excOut 4
    else if (f ≤ 1 ∧ 3 < mod) ∨ (1 < f ∧ mod ≠ 0) then excOut 4
    else if (f ≠ 1 ∧ !usesB ∧ b ≠ 0) ∨ (f = 1 ∧ mod = 0 ∧ b ≠ 0) then excOut 4
    else if (f ≠ 1 ∧ 16 ≤ d) ∨ (f ≠ 0 ∧ 16 ≤ a) ∨ (usesB ∧ 16 ≤ b) then excOut 4
    else if cmuLong f && c.busyAt cyc then excOut 5
    else
      let r := cmuResult f mod (c.c.getD a []) (c.c.getD b []) (vReg c a) (sext 5 b)
      { act := .cmu ⟨r.1, d, r.2.1, r.2.2.1, r.2.2.2, pc, cmuLong f, cyc, cyc + cmuLat f, false⟩ }

/-! ## Registers a word reads and writes -/

/-- Registers a word writes as (file, register): file 0 scalar, 1 vector, 2 predicate, 3 CMU (R151, rule 6). A word of a
reserved MAJOR writes none; one of a reserved FUNC counts as a word of its format. DESIGN CHOICE, log entry 75. -/
def destRegs (w : Nat) : List (Nat × Nat) :=
  let m := wMaj w; let f := bits w 4 0
  if majReserved m ∨ m = 0x0B then []
  else if m = 0x01 then (if f = 0x10 then [(2, wD w % 8)] else [(0, wD w)])
  else if m ≤ 0x0C then [(0, wD w)]
  else if m = 0x10 ∧ (f = 0x0B ∨ f = 0x0C) then [(1, wD w), (1, wD w + 1)]
  else if m = 0x11 then [(2, wD w % 8)]
  else if m = 0x1A then [(0, wD w)]
  else if m ≤ 0x1B then [(1, wD w)]
  else if m ≤ 0x24 ∨ m = 0x28 then [(0, wD w)]
  else if m = 0x2A then [(1, wD w)]
  else if m = 0x31 then [(0, wD w)]
  else if m = 0x37 ∧ (f = 7 ∨ f = 8) then [(0, wD w)]
  else if m = 0x3E then [(if wD w = 1 then 1 else 3, wA w)]
  else []

/-- Vector and CMU registers a word reads, or writes without the CMU, for the interlock of R152: all that a result in
flight could reach. An MFS or MTS of CMUCSR does not wait for operations in flight. DESIGN CHOICE, log entry 75. -/
def usesRegs (w : Nat) : List (Nat × Nat) :=
  let m := wMaj w
  (if m = 0x3E then [] else destRegs w) ++
  (if 0x10 ≤ m ∧ m ≤ 0x1A then [(1, wA w), (1, wB w)] ++ (if m = 0x18 then [(1, wA w + 1)] else [])
   else if m = 0x2B then [(1, wD w)]
   else if m = 0x3E then (if wD w = 0 then [(1, wB w)] else [(3, wB w), (3, bits w 9 5)])
   else [])

/-- Registers that results in flight will write. -/
def Core.inFlight (c : Core) : List (Nat × Nat) := (c.cmu.filter (fun o => !o.squashed)).map (fun o => (if o.toV then 1 else 3, o.dest))

/-- A CMU word waits for the result of an earlier operation on its destination that would come after its own (R152); of two
in the same cycle the later-issued one remains (R170). -/
def Core.overtakes (c : Core) (w cyc : Nat) : Bool :=
  wMaj w == 0x3E && c.cmu.any (fun o => !o.squashed && (destRegs w).contains (if o.toV then 1 else 3, o.dest) && decide (cyc + cmuLat (wD w) < o.due))

/-- A bundle of words stalls: a register it needs awaits a result (R152, R170). -/
def Core.stalls (c : Core) (ws : List Nat) (cyc : Nat) : Bool :=
  ws.any (fun w => (usesRegs w).any (c.inFlight.contains ·) || c.overtakes w cyc)

/-- A half-width vector word. -/
def halfVector (w : Nat) : Bool := majClass (wMaj w) == 1 && !bitAt w 5

/-- Rule 6 of R151 over a bundle. -/
def distinctDests : List Nat → Bool
  | [] => true
  | w :: r => r.all (fun x => (destRegs w).all (fun d => !(destRegs x).contains d
      || (d.1 == 1 && halfVector w && halfVector x))) && distinctDests r

/-- The rules of R151 on a bundle that starts at code offset `pc`; `ws` ends with the first END word, if any of six. -/
def bundleOk (pc : Nat) (ws : List Nat) : Bool :=
  let cls := ws.map (fun w => majClass (wMaj w))
  let cnt := fun k => (cls.filter (· == k)).length
  ws.length ≤ 6 && (ws.getLast?.map wEnd).getD false
  && (cls.zip (cls.drop 1)).all (fun x => decide (x.1 ≤ x.2))
  && cnt 0 ≤ 2 && cnt 1 ≤ 2 && cnt 2 ≤ 1 && cnt 3 ≤ 1
  && (cnt 1 ≤ 1 || ws.all (fun w => majClass (wMaj w) != 1 || !bitAt w 5))
  && pc / 64 == (pc + 4 * ws.length - 4) / 64 && distinctDests ws

/-- Slots of the words of a bundle (R161): 0 and 1 scalar, 2 and 3 vector, 4 load/store, 5 branch. -/
def slotsOf : List Nat → Nat → Nat → List Nat
  | [], _, _ => []
  | w :: r, ns, nv =>
    match majClass (wMaj w) with
    | 0 => ns :: slotsOf r (ns + 1) nv
    | 1 => (2 + nv) :: slotsOf r ns (nv + 1)
    | 2 => 4 :: slotsOf r ns nv
    | _ => 5 :: slotsOf r ns nv

/-- The words of a bundle from a list of code words: up to and including the first END word, at most six. -/
def takeBundle : Nat → List Nat → List Nat
  | 0, _ => []
  | _, [] => []
  | n + 1, w :: r => if wEnd w then [w] else w :: takeBundle n r

/-- One word's outcome in its slot. DEDUCED, log entry 65. -/
def wordOut (st : State) (n : Nat) (c : Core) (w slot cyc next : Nat) : WordOut :=
  let m := wMaj w
  if majReserved m then excOut 4
  else if m = 1 then srOp c w
  else if m ≤ 0x0C then siOp c w
  else if m ≤ 0x13 then vrOp c w slot (fun i => Config.freeValue (st.freeCtr + i) % 2 ^ 32)
  else if m ≤ 0x1B then viOp c w slot
  else if m ≤ 0x2B then lsOp st n c w
  else bcOp st n c w cyc next

/-- Code words of the running image from a code offset, within CODE_LEN (R146). -/
def State.codeWords (s : State) (c : Core) : List Nat :=
  let img := (s.image c.slot).bytes
  ((List.range 6).filter (fun i => decide (c.pc + 4 * i + 4 ≤ u32 img 36))).map (fun i => u32 img (u32 img 32 + c.pc + 4 * i))

/-- The outcomes of the words of a bundle, each with its slot. -/
def State.bundleOuts (s : State) (n : Nat) (c : Core) (ws : List Nat) (cyc : Nat) : List (WordOut × Nat) :=
  (ws.zip (slotsOf ws 0 0)).map (fun x => (wordOut s n c x.1 x.2 cyc (c.pc + 4 * ws.length), x.2))

/-- Nothing issues behind a bundle with this action until it has acted. -/
def CoreAct.ends : CoreAct → Bool
  | .jump _ | .take | .give _ | .fence _ => true
  | _ => false

/-- The CMU operations of the next `k` bundles in flight, which will not commit, and their number (R160, R171): an operation
that collides counts and does not start. DEDUCED, log entry 65. -/
def State.squashedOps (s : State) (n : Nat) : Nat → Core → Nat → List CmuOp × Nat
  | 0, _, _ => ([], 0)
  | k + 1, c, cyc =>
    let ws := takeBundle 6 (s.codeWords c)
    if c.pc % 4 ≠ 0 ∨ !bundleOk c.pc ws ∨ c.stalls ws cyc then ([], 0)
    else
      let outs := (s.bundleOuts n c ws cyc).map Prod.fst
      let ops := outs.filterMap (fun o => match o.act with | .cmu op => some { op with squashed := true } | _ => none)
      let hit := (outs.filter (fun o => o.exc == 5)).length
      let r := if outs.any (fun o => o.act.ends) then ([], 0)
        else s.squashedOps n k { c with pc := c.pc + 4 * ws.length, longAt := if ops.any (·.long) then some cyc else c.longAt } (cyc + 1)
      (ops ++ r.1, ops.length + hit + r.2)

/-- The CMU of a core holds `ops`: CMU_BUSY of CORE_STAT reads 1 until the last long one of them has drained (R170, R171). -/
def State.setCmu (s : State) (n : Nat) (ops : List CmuOp) (longAt : Option Nat) : State :=
  (s.setCore n { s.core n with cmu := ops, longAt := longAt }).setFld Fld.CORE_STAT_CMU_BUSY n (b2n (ops.any (·.long)))

/-- The bundles in flight, `k` of them from the PC on, are squashed (R171): their operations drain and are counted. -/
def State.squash (s : State) (n k cyc : Nat) : State :=
  let c := s.core n
  let r := s.squashedOps n k c cyc
  (s.setCmu n (c.cmu ++ r.1) (match r.1.find? (·.long) with | some o => some o.cycle | none => c.longAt)).bump .CORE_CNT_SQUASH n r.2

/-- Applies a register write. DEDUCED, log entry 65. -/
def Core.apply (c : Core) : CoreWr → Core
  | .s r v => { c with s := setAt c.s r v }
  | .v r l => { c with v := modAt c.v r (fun old => (List.range 32).map (fun i => ((l.getD i none).getD (natAt old i)))) }
  | .p r m v => { c with p := modAt c.p r (fun old => (old &&& (m ^^^ (2 ^ 32 - 1))) ||| (v &&& m)) }
  | .csr v => { c with cmucsr := v }

end Sys2Proof.Machine
end

