-- ==== Sys2Proof/Machine/Curds.lean ====
section
/-!
DEFINITION. Stopping the core that runs a curd, and the tile transfers of a curd (R162, R164, R373).
-/
namespace Sys2Proof.Machine

/-- Marks the tile transfers of a curd as aborted (R373). -/
def State.abortTile (s : State) (tile : Nat) (cu : Option Nat) : State :=
  (List.range 5).foldl (fun t n =>
    let k := tile * 8 + n
    let ch := t.tchan k
    let ab := fun (j : TileJob) => if j.curd = cu ∧ cu ≠ none then { j with aborted := true } else j
    if ch.active.isSome ∨ ch.armed.isSome then t.setTchan k { ch with active := ch.active.map ab, armed := ch.armed.map ab } else t) s

/-- A core stops for a cause other than GIVE (R162, R164): nothing further commits, and its transfers are aborted. The
first cause sets the status. -/
def State.coreHalt (s : State) (n st : Nat) : State :=
  let c := s.core n
  match c.wait with
  | .stop _ => s
  | _ => ((s.setCore n { c with wait := .stop st, tied := false }).setFld Fld.CORE_STAT_STATE n 3).abortTile (coreTile n) c.curd

/-- A stop that no bundle brings about: up to three bundles are in flight and are squashed; how many is a free value, since
the cycle of the stop is not told. DEDUCED, log entry 65. -/
def State.coreStop (s : State) (n st : Nat) : State :=
  let c := s.core n
  match c.wait with
  | .none => ((s.squash n (s.pick 4) (c.cyc + 1)).used).coreHalt n st
  | _ => s.coreHalt n st

/-- A transfer of the curd is active or armed on the tile. -/
def State.tileBusy (s : State) (tile : Nat) (cu : Option Nat) : Bool :=
  (List.range 5).any (fun n =>
    let ch := s.tchan (tile * 8 + n)
    (match ch.active with | some j => j.curd == cu | none => false)
      || (match ch.armed with | some j => j.curd == cu | none => false))

end Sys2Proof.Machine
end

