-- ==== Sys2Proof/Machine/Bmu.lean ====
section
/-!
DEFINITION. The beamforming matrix unit (R203 to R207, and the max-log demapper of R189): commands, operands, arithmetic,
faults, and the end of a job.
-/
namespace Sys2Proof.Machine

def State.bmu (s : State) (t : Nat) : Bmu := Sparse.get {} s.bmus t
def State.setBmu (s : State) (t : Nat) (b : Bmu) : State := { s with bmus := Sparse.set {} s.bmus t b }

/-- An operand resolved to a memory: 0 Cave, 1 TSM of the own tile (key), with its address. -/
abbrev Loc := Nat × Nat

/-- Extent `e` of an argument block (Table 5.4): address, length in bytes, and its packed offset in a staged buffer. -/
def extentAt (blk : List Byte) (e : Nat) : Option (Nat × Nat × Nat) :=
  if e < u16 blk 0 then
    some (bits (u64 blk (16 + 16 * e)) 39 0, 64 * u16 blk (24 + 16 * e),
      (List.range e).foldl (fun a i => a + 64 * u16 blk (24 + 16 * i)) 0)
  else none

/-- Resolves an operand of `len` bytes (R204); none where it breaks the rule. A matrix that passes the end of its memory breaks
it too. DEDUCED, log entry 73. -/
def State.bmuLoc (s : State) (tile : Nat) (c : Curd) (op len : Nat) (dst : Bool) : Option Loc :=
  let a := bits op 39 0; let kind := bits op 41 40; let ext := bits op 43 42
  let cave := fun (x : Nat) => if caveSpan x len then some (0, x) else none
  let tsm := fun (x lim : Nat) => if x + len ≤ lim then some (1, tile * 2 ^ 21 + x) else none
  if op / 2 ^ 44 ≠ 0 then none
  else if kind = 0 then cave a
  else if kind = 1 then tsm a (if s.fld Fld.DISP_CTRL_PRESTAGE (tile / 16) = 0 then 0x200000 else 0x1C0000)
  else if kind = 2 ∧ !dst then
    match extentAt (s.caveRead c.args 80) ext with
    | none => none
    | some (ea, el, eo) =>
      if el ≤ a then none
      else match c.staged with
        | some (t, b) => if t = tile then tsm (0x1C0000 + b * 0x10000 + eo + a) 0x200000 else cave (ea + a)
        | none => cave (ea + a)
  else none

def State.locByte (s : State) (l : Loc) (i : Nat) : Byte :=
  if l.1 = 0 then s.caveByte (l.2 + i) else Sparse.get 0 s.tsm (l.2 + i)
def State.locU32 (s : State) (l : Loc) (o : Nat) : Nat := leNat ((List.range 4).map (fun i => s.locByte l (o + i)))

/-- Writes a byte string at a resolved destination; a free arena block it reaches is taken for the order. -/
def State.locWrite (s0 : State) (h : Nat) (l : Loc) (p : List Byte) : State :=
  let s := s0.cleanRange l.1 l.2 p.length
  if l.1 = 0 then
    ((List.range (ceilDiv (l.2 % 4096 + p.length) 4096)).foldl (fun t i => t.touchArena h (l.2 / 4096 + i)) s).caveWrite l.2 p
  else { s with tsm := writeBytes s.tsm l.2 p }

/-- A store of a unit into an order's Cave blocks, as the codes and the injector see it. -/
def State.hubWrite (s : State) (h a exec : Nat) (d : List Byte) : State :=
  ((s.writeWords 0 a d.length 4 exec h).locWrite h (0, a) d).flip 0 a exec

/-- Every block a Cave destination of `n` bytes reaches is the order's, or free in the arena. A command whose DST is not ends
the job with BAD_OPERAND. DESIGN CHOICE, log entry 76. -/
def State.dstOk (s : State) (h : Nat) (l : Loc) (n : Nat) : Bool :=
  l.1 != 0 || (List.range (ceilDiv (l.2 % 4096 + n) 4096)).all (fun i =>
    let b := l.2 / 4096 + i
    s.owner b == some (.order h) || (s.owner b == none && decide (arenaLo ≤ b ∧ b < arenaLo + arenaN)))

/-- No word of `n` bytes at a source is bad. -/
def State.srcOk (s : State) (l : Loc) (n : Nat) : Bool := s.rangeOk l.1 l.2 n

/-! ## Arithmetic (R205) -/

/-- Complex element `i` of a C16 matrix as integers, and of an F32 matrix. -/
def State.c16At (s : State) (l : Loc) (i : Nat) : Int × Int :=
  let w := s.locU32 l (4 * i); (sext 16 w, sext 16 (w / 65536))
def State.f32At (s : State) (l : Loc) (i : Nat) : CF := (s.locU32 l (8 * i), s.locU32 l (8 * i + 4))

/-- One output of a product with C16 inputs: exact sum of products, then the output format. -/
def c16Dot (a b : Nat → Int × Int) (conjA : Bool) (k : Nat) : Int × Int :=
  (List.range k).foldl (fun (acc : Int × Int) i =>
    let x := a i; let y := b i
    let xi := if conjA then -x.2 else x.2
    (acc.1 + (x.1 * y.1 - xi * y.2), acc.2 + (x.1 * y.2 + xi * y.1))) (0, 0)

/-- A part of a complex value is a NaN, which makes the result of what reads it 0 (R168). -/
def nanC (z : CF) : Bool := isNaN z.1 || isNaN z.2

/-- One output of a product with F32 inputs: rn products summed with rn in ascending k. A product of a NaN is 0. DESIGN CHOICE, log entry 76. -/
def f32Dot (a b : Nat → CF) (conjA : Bool) (k : Nat) : CF × Nat :=
  ((List.range k).foldlM (fun (acc : CF) i => do
    let p ← if nanC (a i) || nanC (b i) then pure (0, 0) else if conjA then cmulConjF (b i) (a i) else cmulF (a i) (b i)
    caddF acc p) (0, 0)).run 0

/-- An F32 output added into DST (R205); a NaN of DST makes the sum 0. DESIGN CHOICE, log entry 76. -/
def accumF (d z : CF) : CF := if nanC d then (0, 0) else ((caddF d z).run 0).1

/-- The bytes of one output element and how many of its parts were clamped. -/
def outC16 (re im : Int) : List Byte × Nat :=
  (leBytes 4 (mkH (sat16 re) (sat16 im)), b2n (sat16 re != re) + b2n (sat16 im != im))
def outF32 (z : CF) : List Byte := leBytes 4 z.1 ++ leBytes 4 z.2

/-- acc × 2^−shift as binary32. -/
def scaleF (x : Int) (shift : Nat) : Nat := (fofInt x (-(shift : Int))).1

/-- One output element of GEMM or GRAM (R205), from the functions that give row and column elements. The value of a C16
output from F32 inputs is left open by the spec. -/
def State.bmuElem (s : State) (inF outF accum conjA : Bool) (shift k : Nat) (ca cb : Nat → Int × Int)
    (fa fb : Nat → CF) (dst : Loc) (i : Nat) : List Byte × Nat :=
  if inF then
    let z := (f32Dot fa fb conjA k).1
    if outF then
      (outF32 (if accum then accumF (s.f32At dst i) z else z), 0)
    else
      let v := Config.freeValue (s.freeCtr + i) % 2 ^ 32
      if accum then
        let d := s.c16At dst i
        outC16 (d.1 + h0 v) (d.2 + h1 v)
      else (leBytes 4 v, 0)
  else
    let t := c16Dot ca cb conjA k
    if outF then
      let z : CF := (scaleF t.1 shift, scaleF t.2 shift)
      (outF32 (if accum then accumF (s.f32At dst i) z else z), 0)
    else
      let r := outC16 (rndI t.1 shift) (rndI t.2 shift)
      if accum then
        let d := s.c16At dst i
        let q := outC16 (d.1 + sat16 (rndI t.1 shift)) (d.2 + sat16 (rndI t.2 shift))
        (q.1, r.2 + q.2)
      else r

/-- A dense output of `n` elements, element by element. -/
def State.bmuMatrix (s : State) (h : Nat) (tile : Nat) (dst : Loc) (esz n : Nat) (f : State → Nat → List Byte × Nat) : State :=
  (List.range n).foldl (fun t i =>
    let r := f s i
    (t.locWrite h (dst.1, dst.2 + esz * i) r.1).bump .BMU_CNT_SAT tile r.2) s

/-! ### SOLVE -/

/-- δ = trace(A) × 2^−e / N, each step rn. -/
def solveDelta (a : List CF) (n e : Nat) : StateM Nat Nat := do
  let t ← (List.range n).foldlM (fun x i => tickF (fadd x (mat a n i i).1)) 0
  let t' ← tickF (rnDy { fdec t with e := (fdec t).e - e })
  tickF (fdiv t' (fofInt n 0).1)

/-- One column of L y = b, then L^H x = y (R205): of each element the products are subtracted in ascending k and the rest is
divided by the diagonal, an order the rule does not state. DESIGN CHOICE, log entry 76. -/
def solveCol (l : List CF) (n : Nat) (b : List CF) : StateM Nat (List CF) := do
  let y ← (List.range n).foldlM (fun (y : List CF) i => do
    let t ← (List.range i).foldlM (fun (t : CF) k => do
      let p ← cmulF (mat l n i k) (y.getD k (0, 0))
      csubF t p) (b.getD i (0, 0))
    let re ← tickF (fdiv t.1 (mat l n i i).1); let im ← tickF (fdiv t.2 (mat l n i i).1)
    return y ++ [(re, im)]) []
  (List.range n).reverse.foldlM (fun (x : List CF) i => do
    let t ← ((List.range n).filter (fun k => decide (i < k))).foldlM (fun (t : CF) k => do
      let p ← cmulConjF (x.getD k (0, 0)) (mat l n k i)
      csubF t p) (y.getD i (0, 0))
    let re ← tickF (fdiv t.1 (mat l n i i).1); let im ← tickF (fdiv t.2 (mat l n i i).1)
    return x.set i (re, im)) (List.replicate n (0, 0))

/-- (A + δI)^−1 B, column by column; all zero with the NOTPD flag when the factorisation meets it, and all zero when a NaN is among
the values read (R168): the lower triangle of A, its diagonal by the real part, and B. DESIGN CHOICE, log entry 76. -/
def solveAll (a b : List CF) (n k e : Nat) : List CF × Nat :=
  let tri := (List.range n).any (fun i => isNaN (mat a n i i).1 || (List.range i).any (fun j => nanC (mat a n i j)))
  if tri || b.any nanC then (List.replicate (n * k) (0, 0), fInvalid)
  else
  let r := (do
    let d ← solveDelta a n e
    let a' ← (List.range n).foldlM (fun (m : List CF) i => do
      let x ← tickF (fadd (mat m n i i).1 d)
      return setMat m n i i (x, (mat m n i i).2)) a
    cholF a' n (List.range n) (List.replicate (n * n) (0, 0)) : StateM Nat (List CF)).run 0
  if bitAt r.2 4 then (List.replicate (n * k) (0, 0), r.2)
  else
    let cols := (List.range k).map (fun j => ((solveCol r.1 n ((List.range n).map (fun i => mat b k i j))).run 0).1)
    ((List.range n).flatMap (fun i => (List.range k).map (fun j => (cols.getD j []).getD i (0, 0))), r.2)

/-! ### DEMAP (R189) -/

/-- Level of one axis from its bits, most significant first, as 38.211 §5.1 nests them. -/
def axisLevel : List Bool → Int
  | [] => 1
  | [b] => if b then -1 else 1
  | b :: r => (if b then -1 else 1) * ((2 ^ r.length : Nat) - axisLevel r)

/-- Mean power of the unnormalised constellation of QM bits. -/
def qamNorm (qm : Nat) : Nat := if qm ≤ 2 then 2 else if qm = 4 then 10 else if qm = 6 then 42 else if qm = 8 then 170 else 682

/-- The constellation point of symbol bits `v` (bit j of the symbol is bit j of `v`), in binary32. PRESUMED, log entry 20. -/
def qamPoint (qm v : Nat) : CF :=
  let ax := fun o => (List.range (qm / 2)).map (fun i => bitAt v (2 * i + o))
  let re := if qm = 1 then axisLevel [bitAt v 0] else axisLevel (ax 0)
  let im := if qm = 1 then axisLevel [bitAt v 0] else axisLevel (ax 1)
  let sc := fun (x : Int) => (fmul (fofInt x 0).1 (frsqrt (fofInt (qamNorm qm) 0).1).1).1
  (sc re, sc im)

/-- |z − s|² in rn steps: the two differences, their squares, the sum. DESIGN CHOICE, log entry 76. -/
def dist2 (z s : CF) : Nat :=
  let dr := (fsub z.1 s.1).1; let di := (fsub z.2 s.2).1
  (fadd (fmul dr dr).1 (fmul di di).1).1

/-- The smallest of a list of distances. -/
def minF : List Nat → Nat
  | [] => 0
  | x :: r => r.foldl (fun a y => if flt y a then y else a) x

/-- A dyadic value rounded half away from zero. -/
def rhaDy (d : Dy) : Int :=
  let n : Nat := if 0 ≤ d.e then d.m * 2 ^ d.e.toNat else (d.m + 2 ^ ((-d.e).toNat - 1)) / 2 ^ (-d.e).toNat
  if d.neg then -(n : Int) else n

/-- The LLR of bit `j` of a symbol; 0 for a NaN. -/
def llrOf (qm frac j : Nat) (z : CF) (nu : Nat) : Int :=
  if nanC z || isNaN nu then 0 else
  let pts := List.range (2 ^ qm)
  let d := fun b => minF ((pts.filter (fun v => bitAt v j == b)).map (fun v => dist2 z (qamPoint qm v)))
  let lam := (fdiv (fsub (d true) (d false)).1 nu).1
  sat8 (rhaDy { fdec lam with e := (fdec lam).e + frac })

/-! ## Running commands (R203, R206) -/

/-- The command at index `i` of the curd's program. -/
def State.bmuCmd (s : State) (slot : Nat) (c : Curd) (i : Nat) : List Byte :=
  let img := (s.image slot).bytes
  slice img (u32 img 32 + c.entryOff + 32 * i) 32

/-- Element sizes and counts of the operands: A, B and DST of one repetition, in bytes. -/
def bmuSizes (op m n k : Nat) (inF outF : Bool) (qm : Nat) : Nat × Nat × Nat :=
  let e := if inF then 8 else 4
  if op = 1 then (m * k * e, k * n * e, m * n * (if outF then 8 else 4))
  else if op = 2 then (k * n * e, 0, n * n * 8)
  else if op = 3 then (n * n * 8, n * k * 8, n * k * 8)
  else (k * 8, k * 4, k * qm)

/-- A command's own rules (Table 7.11); of an END, the reserved bits. A DEMAP with a QM that no modulation has, or LLR_FRAC above the
range of Table 7.2, breaks them too. DESIGN CHOICE, log entry 76. -/
def bmuCmdOk (p : List Byte) : Bool :=
  let op := u8 p 0; let aux := u8 p 7
  if op = 0 then u8 p 1 < 16 else
  op ≤ 4 && u8 p 1 < 16 && decide (1 ≤ u8 p 2 ∧ u8 p 2 ≤ 64) && decide (1 ≤ u8 p 3 ∧ u8 p 3 ≤ 64)
  && decide (1 ≤ u16 p 4 ∧ u16 p 4 ≤ 4096) && u8 p 6 ≤ 12
  && (if op ≤ 3 then decide (aux ≤ 31)
      else [1, 2, 4, 6, 8, 10].contains (aux % 16) && bits aux 6 4 ≤ 4 && aux < 128)
  && (op != 3 || u8 p 3 ≤ 16)

/-- The job ends: its curd ends and the BMU is idle. -/
def State.bmuEnd (s : State) (tile st : Nat) : State :=
  let b := s.bmu tile
  let s1 := match b.curd with | some a => s.endCurd a st | none => s
  ((s1.setBmu tile {}).setFld Fld.BMU_STAT_STATE tile 1).setReg .BMU_CUR tile 0

/-- A command fault (R206). BMU_CNT_EXC counts these jobs, and not those that a trap or a cancellation stops. DESIGN CHOICE, log entry 76. -/
def State.bmuFault (s : State) (tile cause idx handle : Nat) : State :=
  ((((s.setReg .BMU_EXC tile (cause + 256 * (idx % 4096))).setReg .BMU_EXC_HANDLE tile handle).bump .BMU_CNT_EXC tile).bmuEnd tile 0x12)

/-- One repetition of a command at resolved operands. Flags that Table 7.11 defines but the command's row does not use do not act:
CONJ_A, OUT_F32 and ACCUM of a DEMAP, OUT_F32 and IN_F32 of a SOLVE, OUT_F32 and CONJ_A of a GRAM. DESIGN CHOICE, log entry 76. -/
def State.bmuRep (s : State) (tile h : Nat) (p : List Byte) (a b d : Loc) : State :=
  let op := u8 p 0; let fl := u8 p 1; let m := u8 p 2; let n := u8 p 3; let k := u16 p 4; let aux := u8 p 7
  let conjA := bitAt fl 0; let outF := bitAt fl 1; let inF := bitAt fl 2; let acc := bitAt fl 3
  if op = 1 then
    s.bmuMatrix h tile d (if outF then 8 else 4) (m * n) (fun s i =>
      let r := i / n; let c := i % n
      let ai := fun j => if conjA then j * m + r else r * k + j
      s.bmuElem inF outF acc conjA aux k (fun j => s.c16At a (ai j)) (fun j => s.c16At b (j * n + c))
        (fun j => s.f32At a (ai j)) (fun j => s.f32At b (j * n + c)) d i)
  else if op = 2 then
    s.bmuMatrix h tile d 8 (n * n) (fun s i =>
      let r := i / n; let c := i % n
      s.bmuElem inF true acc true aux k (fun j => s.c16At a (j * n + r)) (fun j => s.c16At a (j * n + c))
        (fun j => s.f32At a (j * n + r)) (fun j => s.f32At a (j * n + c)) d i)
  else if op = 3 then
    let r := solveAll ((List.range (n * n)).map (s.f32At a)) ((List.range (n * k)).map (s.f32At b)) n k aux
    let t := s.bmuMatrix h tile d 8 (n * k) (fun s i =>
      let z := r.1.getD i (0, 0)
      (outF32 (if acc && !bitAt r.2 4 then accumF (s.f32At d i) z else z), 0))
    if bitAt r.2 4 then t.bump .BMU_CNT_NOTPD tile else t
  else
    let qm := aux % 16
    s.bmuMatrix h tile d 1 (k * qm) (fun s i =>
      let z := s.f32At a (i / qm)
      (leBytes 1 (enc 8 (llrOf qm (bits aux 6 4) (i % qm) z (s.locU32 b (4 * (i / qm))))), 0))

/-- The first uncorrectable range that a command's read meets (R206): its own bytes, the argument block that a KIND 2 operand
names, A, B, and DST when the output is added into it. -/
def State.bmuBad (s : State) (c : Curd) (slot i : Nat) (p : List Byte) (rs : List (Loc × Nat)) : Option (Loc × Nat) :=
  let cmd : Loc × Nat := ((0, s.imgAddr slot (u32 (s.image slot).bytes 32 + c.entryOff + 32 * i)), 32)
  let blk := if [8, 16].any (fun o => bits (u64 p o) 41 40 == 2) then [(((0, c.args) : Loc), 80)] else []
  (cmd :: blk ++ rs).find? (fun r => r.2 != 0 && !s.srcOk r.1 r.2)

/-- LOAD_UE of a command, whose bad word is recorded. -/
def State.bmuLoadUe (s : State) (tile i h : Nat) (r : Loc × Nat) : State :=
  (s.readBad r.1.1 r.1.2 r.2 (tile / 16) (256 + tile) h).bmuFault tile 3 i h

/-- The command at the front of tile `tile`'s BMU program, when its OP is `op`; a command that breaks its rules ends the
job whichever row runs it. -/
def State.bmuStep (s : State) (tile op : Nat) : State :=
  match (s.bmu tile).curd.bind s.curdAt with
  | none => s
  | some c =>
    match s.orderOf c.handle with
    | none => s
    | some o =>
      let i := (s.bmu tile).idx
      let p := s.bmuCmd o.slot c i
      let acc := bitAt (u8 p 1) 3 && op != 4
      match s.bmuBad c o.slot i p [] with
      | some r => s.bmuLoadUe tile i c.handle r
      | none =>
      if !bmuCmdOk p then s.bmuFault tile 1 i c.handle
      else if u8 p 0 ≠ op then s
      else if op = 0 then s.bmuEnd tile 0x10
      else
        let sz := bmuSizes op (u8 p 2) (u8 p 3) (u16 p 4) (bitAt (u8 p 1) 2) (bitAt (u8 p 1) 1) (u8 p 7 % 16)
        let reps := 2 ^ u8 p 6
        match s.bmuLoc tile c (u64 p 8) (sz.1 * reps) false,
              (if op = 2 then some (0, 0) else s.bmuLoc tile c (u64 p 16) (sz.2.1 * reps) false), s.bmuLoc tile c (u64 p 24) (sz.2.2 * reps) true with
        | some a, some b, some d =>
          if !s.dstOk c.handle d (sz.2.2 * reps) then s.bmuFault tile 2 i c.handle
          else match s.bmuBad c o.slot i p [(a, sz.1 * reps), (b, if op = 2 then 0 else sz.2.1 * reps), (d, if acc then sz.2.2 * reps else 0)] with
          | some r => s.bmuLoadUe tile i c.handle r
          | none =>
            let s0 := (s.readRange a.1 a.2 (sz.1 * reps) (tile / 16) 0 (256 + tile) c.handle).readRange b.1 b.2
              (if op = 2 then 0 else sz.2.1 * reps) (tile / 16) 0 (256 + tile) c.handle
            let s0 := (s0.noteStaged (some c.addr) a.1 a.2).noteStaged (some c.addr) b.1 b.2
            let s1 := s0.writeWords d.1 d.2 (sz.2.2 * reps) (if d.1 = 0 then 4 else tile / 16) (256 + tile) c.handle
            let t := ((List.range reps).foldl (fun t r =>
              t.bmuRep tile c.handle p (a.1, a.2 + r * sz.1) (b.1, b.2 + r * sz.2.1) (d.1, d.2 + r * sz.2.2)) s1).flip d.1 d.2 (256 + tile)
            { t.setBmu tile { t.bmu tile with idx := i + 1 } with freeCtr := t.freeCtr + 4096 }
        | _, _, _ => s.bmuFault tile 2 i c.handle

/-- GEMM (R205). -/
def execGemm (tile : Fin 64) (s : State) : Host.Outcome State Fault Refusal := .next (s.bmuStep tile.val 1)
/-- GRAM (R205). -/
def execGram (tile : Fin 64) (s : State) : Host.Outcome State Fault Refusal := .next (s.bmuStep tile.val 2)
/-- SOLVE (R205). -/
def execSolve (tile : Fin 64) (s : State) : Host.Outcome State Fault Refusal := .next (s.bmuStep tile.val 3)
/-- DEMAP (R189). -/
def execDemap (tile : Fin 64) (s : State) : Host.Outcome State Fault Refusal := .next (s.bmuStep tile.val 4)
/-- END (R203). -/
def execBmuEnd (tile : Fin 64) (s : State) : Host.Outcome State Fault Refusal := .next (s.bmuStep tile.val 0)

/-- BMU_CLR (R207): clears the counters at offsets 0x10 to 0x1C. -/
def State.bmuClr (s : State) (tile : Nat) : State :=
  s.clearRegs [.BMU_CNT_JOBS, .BMU_CNT_SAT, .BMU_CNT_NOTPD, .BMU_CNT_EXC] tile

/-- A BMU starts a curd. -/
def State.bmuStart (s : State) (tile : Nat) (c : Curd) : State :=
  (((s.setBmu tile { curd := some c.addr }).setFld Fld.BMU_STAT_STATE tile 2).setReg .BMU_CUR tile c.handle).bump .BMU_CNT_JOBS tile

end Sys2Proof.Machine
end

