-- ==== Sys2Proof/Machine/Code.lean ====
section
/-!
DEFINITION. Channel coding as the engines do it (R107 to R109, R212, R216, R220): segmentation, CRCs, rate matching, LLR
compression and combining, and the LDPC decoder. What the spec takes from TS 38.212 and TS 36.212 is marked so
(PRESUMED, log entry 20).
-/
namespace Sys2Proof.Machine

/-! ## Bit strings and CRCs -/

def byteBits (b : Byte) : List Bool := (List.range 8).map (fun i => bitAt b.toNat (7 - i))
def bitsOf (p : List Byte) : List Bool := p.flatMap byteBits
/-- Eight bits, first in bit 7, as a byte. -/
def byteOf (l : List Bool) : Byte := BitVec.ofNat 8 ((List.range 8).foldl (fun a i => 2 * a + b2n (l.getD i false)) 0)
/-- A bit string as bytes, the first bit in bit 7 of byte 0, the last byte padded with zeros. -/
def bytesOf (l : List Bool) : List Byte := (List.range (ceilDiv l.length 8)).map (fun i => byteOf ((l.drop (8 * i)).take 8))

/-- A CRC of `n` bits with generator `poly` (without its leading term), initial value 0. -/
def crcOf (poly n : Nat) (l : List Bool) : Nat :=
  l.foldl (fun c b => let top := bitAt c (n - 1) != b; (if top then Nat.xor (2 * c % 2 ^ n) poly else 2 * c % 2 ^ n)) 0
/-- Its bits, highest first. -/
def crcBitsOf (poly n : Nat) (l : List Bool) : List Bool := (List.range n).map (fun i => bitAt (crcOf poly n l) (n - 1 - i))

-- generators of TS 38.212 clause 5.1
def crc24A : Nat := 0x864CFB
def crc24B : Nat := 0x800063
def crc16 : Nat := 0x1021

/-- The last `n` bits of `l` are the CRC of the others. -/
def crcHolds (poly n : Nat) (l : List Bool) : Bool := crcOf poly n l == 0

/-! ## Segmentation (R212) -/

/-- Lifting sizes of TS 38.212 Table 5.3.2-1. PRESUMED, log entry 20. -/
def liftSizes : List Nat :=
  (List.range 385).filter (fun z => [2, 3, 5, 7, 9, 11, 13, 15].any (fun a => (List.range 8).any (fun j => a * 2 ^ j == z)))

/-- A segmentation: blocks, lifting size or K+, bits of a block's part of the TB with its CRC, CRC length of the TB. -/
structure Seg where
  c : Nat
  lift : Nat
  k : Nat             -- bits of a code block, fillers included
  kp : Nat            -- K' of TS 38.212; for turbo, the same as k
  kLast : Nat         -- K' of the last block
  tbCrc : Nat
  deriving DecidableEq, Repr

def ldpcSeg (tbs code : Nat) : Seg :=
  let l := if tbs > 3824 then 24 else 16
  let b := tbs + l
  let kcb := if code = 1 then 8448 else 3840
  let c := if b ≤ kcb then 1 else ceilDiv b (kcb - 24)
  let b' := if c = 1 then b else b + 24 * c
  let kp := ceilDiv b' c
  let kb := if code = 1 then 22 else if b > 640 then 10 else if b > 560 then 9 else if b > 192 then 8 else 6
  let zc := (liftSizes.find? (fun z => decide (kp ≤ kb * z))).getD 384
  ⟨c, zc, (if code = 1 then 22 else 10) * zc, kp, b' - (c - 1) * kp, l⟩

/-- Turbo block sizes of TS 36.212 Table 5.1.3-3. -/
def turboSizes : List Nat :=
  (List.range 60).map (fun i => 40 + 8 * i) ++ (List.range 32).map (fun i => 528 + 16 * i)
    ++ (List.range 32).map (fun i => 1056 + 32 * i) ++ (List.range 64).map (fun i => 2112 + 64 * i)

/-- Turbo segmentation: C, K+, K−, C−, F. PRESUMED, log entry 20. -/
def turboSeg (tbs : Nat) : Nat × Nat × Nat × Nat × Nat :=
  let b := tbs + 24
  let c := if b ≤ 6144 then 1 else ceilDiv b 6120
  let b' := if c = 1 then b else b + 24 * c
  let kp := (turboSizes.find? (fun k => decide (b' ≤ c * k))).getD 6144
  let km := if c = 1 then 0 else ((turboSizes.filter (fun k => decide (k < kp))).getLast?).getD 0
  let cm := if c = 1 ∨ km = 0 then 0 else (c * kp - b') / (kp - km)
  (c, kp, km, cm, (c - cm) * kp + cm * km - b')

/-- Polar segments of a payload (TS 38.212 clause 5.2.1), and N per segment (clause 5.3.1). -/
def polarSegs (a e : Nat) : Nat := if 1013 ≤ a ∨ (360 ≤ a ∧ 1088 ≤ e) then 2 else 1
def log2up (n : Nat) : Nat := if n ≤ 1 then 0 else (n - 1).log2 + 1
def polarN (a e : Nat) : Nat :=
  let c := polarSegs a e
  let k := ceilDiv a c + (if a ≤ 19 then 6 else 11)
  let er := e / c
  let l := log2up er
  let n1 := if 8 * er ≤ 9 * 2 ^ (l - 1) ∧ 16 * k < 9 * er then l - 1 else l
  2 ^ max (min (min n1 (log2up (8 * k))) 10) 5

/-- E of block `r` (TS 38.212 clause 5.4.2.1, TS 36.212 clause 5.1.4.1.2). PRESUMED, log entry 20. -/
def eOf (g nl qm c r : Nat) : Nat :=
  let u := nl * qm
  if r + 1 + (g / u) % c ≤ c then u * (g / (u * c)) else u * ceilDiv g (u * c)
def eBefore (g nl qm c r : Nat) : Nat := (List.range r).foldl (fun a j => a + eOf g nl qm c j) 0

/-- k0 of TS 38.212 Table 5.4.2.1-2, and of TS 36.212 for turbo with `kw` positions of three streams. PRESUMED, log entry 20. -/
def ldpcK0 (code zc ncb rv : Nat) : Nat :=
  if rv = 0 then 0
  else
    let n := natAt (if code = 1 then [0, 17, 33, 56] else [0, 13, 25, 43]) rv
    n * ncb / ((if code = 1 then 66 else 50) * zc) * zc
def turboK0 (kpi ncb rv : Nat) : Nat := let r := kpi / 32; r * (2 * ceilDiv ncb (8 * r) * rv + 2)

/-! ## Circular-buffer positions -/

/-- An LDPC position is a filler: column k + 2 Zc in K' to K − 1. -/
def ldpcFiller (sg : Seg) (r k : Nat) : Bool :=
  let kp := if r + 1 = sg.c then sg.kLast else sg.kp
  decide (kp ≤ k + 2 * sg.lift ∧ k + 2 * sg.lift < sg.k)

/-- The stream and index that a turbo circular-buffer position carries; none for a dummy (TS 36.212 clause 5.1.4.1.1). -/
def rev5 (x : Nat) : Nat := (List.range 5).foldl (fun a i => 2 * a + x / 2 ^ i % 2) 0
def turboPos (k pos : Nat) : Option (Nat × Nat) :=
  let d := k + 4
  let r := ceilDiv d 32
  let kpi := 32 * r
  let nd := kpi - d
  let st := if pos < kpi then 0 else 1 + (pos - kpi) % 2
  let i := if pos < kpi then pos else (pos - kpi) / 2
  let y0 := rev5 (i / r) + 32 * (i % r)
  let y := if st = 2 then (y0 + 1) % kpi else y0
  if y < nd then none else some (st, y - nd)

/-- The positions that take LLRs, cyclically from k0, of a buffer of `ncb`. -/
def takers (ncb k0 : Nat) (skip : Nat → Bool) : List Nat :=
  ((List.range ncb).map (fun i => (k0 + i) % ncb)).filter (fun k => !skip k)

/-- `x` held in −127 to 127. -/
def sat127 (x : Int) : Int := clampI (-127) 127 x

/-- dematch of R216: LLR j goes to the j-th taker, cyclically. -/
def dematch (ncb : Nat) (tk : List Nat) (llr : List Int) : List (Option Int) :=
  (List.range llr.length).foldl (fun acc j =>
    let k := tk.getD (j % tk.length) 0
    modAt acc k (fun o => some (sat127 (o.getD 0 + llr.getD j 0)))) (List.replicate ncb none)

/-- The bit interleaver of TS 38.212 clause 5.4.2.2 undone: e index n of E bits at order Qm. -/
def deinterleave (qm : Nat) (f : List Int) : List Int :=
  let h := f.length / qm
  (List.range f.length).map (fun n => f.getD (n / h + (n % h) * qm) 0)

/-! ## LLR compression (R107, R109) -/

def qOf (l : Int) (s : Nat) : Int :=
  let m := min (if s = 0 then l.natAbs else (l.natAbs + 2 ^ (s - 1)) / 2 ^ s) 7
  if l < 0 then -(m : Int) else m
def shiftBig (mx s : Nat) : Bool := if s = 0 then mx > 7 else (mx + 2 ^ (s - 1)) / 2 ^ s > 7
def pickShift (l : List (Option Int)) : Nat :=
  let mx := l.foldl (fun m x => max m (x.getD 0).natAbs) 0
  if !shiftBig mx 0 then 0 else if !shiftBig mx 1 then 1 else if !shiftBig mx 2 then 2 else if !shiftBig mx 3 then 3 else 4
/-- A stored nibble: none when erased. -/
def llrOfNibble (q s : Nat) : Option Int := if q = 8 then none else some (sext 4 q * (2 ^ s : Nat))

/-- combine of R109, `old` being none where nothing stored is used. -/
def combineLlr (old new : List (Option Int)) (n : Nat) : List (Option Int) :=
  (List.range n).map (fun k =>
    match old.getD k none, new.getD k none with
    | none, none => none
    | a, b => some (sat127 (a.getD 0 + b.getD 0)))

/-- The nibble area of a region: position k in the low nibble for even k. -/
def nibbles (out : List (Option Int)) (s : Nat) : List Byte :=
  let q := fun k => match out.getD k none with | none => if k < out.length then 8 else 0 | some x => enc 4 (qOf x s)
  (List.range (ceilDiv out.length 2)).map (fun i => BitVec.ofNat 8 (q (2 * i) + 16 * q (2 * i + 1)))

/-! ## The LDPC decoder (R220) -/

def satP (x : Int) : Int := clampI (-511) 511 x

/-- One check of a lifted row: its variables with their messages, updated. -/
def checkNode (offset : Nat) (t : List Int) : List Int :=
  (List.range t.length).map (fun i =>
    let others := (List.range t.length).filter (· != i)
    let m := others.foldl (fun a u => min a (t.getD u 0).natAbs) 511
    let neg := others.foldl (fun a u => a != decide (t.getD u 0 < 0)) false
    let v : Int := (m - offset : Nat)
    sat127 (if neg then -v else v))

/-- One row of the base graph, all Zc lifted rows: the entries' messages are at `msgs` index entry × Zc + z. -/
def ldpcRow (zc offset : Nat) (row : List (Nat × Nat)) (pm : List Int × List (List Int)) (ri : Nat) : List Int × List (List Int) :=
  (List.range zc).foldl (fun (pm : List Int × List (List Int)) z =>
    let vs := row.map (fun e => e.1 * zc + (z + e.2) % zc)
    let old := (List.range row.length).map (fun k => (pm.2.getD ri []).getD (k * zc + z) 0)
    let t := (vs.zip old).map (fun x => satP (pm.1.getD x.1 0 - x.2))
    let m := checkNode offset t
    let p := (vs.zip (t.zip m)).foldl (fun p x => setAt p x.1 (satP (x.2.1 + x.2.2))) pm.1
    let ms := modAt pm.2 ri (fun l => (List.range row.length).foldl (fun l k => setAt l (k * zc + z) (m.getD k 0)) l)
    (p, ms)) pm

def hardOf (p : List Int) : List Bool := p.map (fun x => decide (x < 0))

/-- Every parity check holds. -/
def ldpcSynd (zc : Nat) (rows : List (List (Nat × Nat))) (h : List Bool) : Bool :=
  rows.all (fun row => (List.range zc).all (fun z =>
    !(row.foldl (fun a e => a != h.getD (e.1 * zc + (z + e.2) % zc) false) false)))

/-- ldpc_decode of R220: P at the end, iterations run, and whether every check held. -/
def ldpcLoop (zc offset : Nat) (rows : List (List (Nat × Nat))) (early : Bool) (crc : List Bool → Bool) :
    Nat → Nat → List Int × List (List Int) → List Int × Nat × Bool
  | 0, it, pm => (pm.1, it, false)
  | fuel + 1, it, pm =>
    let pm1 := (List.range rows.length).foldl (fun pm ri => ldpcRow zc offset (rows.getD ri []) pm ri) pm
    let h := hardOf pm1.1
    if ldpcSynd zc rows h then (pm1.1, it + 1, true)
    else if early && crc h then (pm1.1, it + 1, false)
    else ldpcLoop zc offset rows early crc fuel (it + 1) pm1

def ldpcDecode (code zc offset maxIter : Nat) (early : Bool) (crc : List Bool → Bool) (inp : List Int) : List Int × Nat × Bool :=
  let rows := Config.ldpcRows code zc
  ldpcLoop zc offset rows early crc maxIter 0 (inp, rows.map (fun r => List.replicate (r.length * zc) 0))

end Sys2Proof.Machine
end

