-- ==== Sys2Proof/Machine/Codecs.lean ====
section
/-!
DEFINITION. The codes that R212, R213, R222 and R223 take from TS 38.212 and TS 36.212: LDPC encoding, the turbo decoder with
its QPP interleaver, and the polar decoder. What those documents print is taken from them (PRESUMED, log entry 20); what the
decoders leave open is said where it is settled (DEDUCED, log entry 77).
-/
namespace Sys2Proof.Machine

/-! ## LDPC encoding (TS 38.212 clause 5.3.2) -/

/-- A solution of equations over GF(2) in `m` unknowns, each equation its coefficients and its right side; an unknown that no
equation fixes is 0. -/
def gfSolve : Nat → List (List Bool × Bool) → List Bool
  | 0, _ => []
  | m + 1, eqs =>
    let tails := fun (l : List (List Bool × Bool)) => l.map (fun q => (q.1.drop 1, q.2))
    match eqs.find? (fun q => q.1.headD false) with
    | none => false :: gfSolve m (tails eqs)
    | some p =>
      let rest := (eqs.erase p).map (fun q => if q.1.headD false then ((q.1.zip p.1).map (fun x => x.1 != x.2), q.2 != p.2) else q)
      let xs := gfSolve m (tails rest)
      ((((p.1.drop 1).zip xs).foldl (fun a x => a != (x.1 && x.2)) p.2)) :: xs

/-- The codeword of a block's K bits, without its 2 Zc punctured bits: the parity bits are those that make every check hold. -/
def ldpcEncode (code zc : Nat) (info : List Bool) : List Bool :=
  let k := (if code = 1 then 22 else 10) * zc
  let m := (if code = 1 then 46 else 42) * zc
  let eqs := (Config.ldpcRows code zc).flatMap (fun row => (List.range zc).map (fun z =>
    let vs := row.map (fun e => e.1 * zc + (z + e.2) % zc)
    ((List.range m).map (fun j => vs.contains (k + j)), vs.foldl (fun a v => a != (decide (v < k) && info.getD v false)) false)))
  (info.take k ++ gfSolve m eqs).drop (2 * zc)

/-! ## Turbo decoding (R222) -/

/-- f1 and f2 of TS 36.212 Table 5.1.3-3, for the block sizes in ascending order. PRESUMED, log entry 20. -/
def qppTable : List (Nat × Nat) :=
  [(3, 10), (7, 12), (19, 42), (7, 16), (7, 18), (11, 20), (5, 22), (11, 24), (7, 26), (41, 84), (103, 90), (15, 32)] ++
  [(9, 34), (17, 108), (9, 38), (21, 120), (101, 84), (21, 44), (57, 46), (23, 48), (13, 50), (27, 52), (11, 36), (27, 56)] ++
  [(85, 58), (29, 60), (33, 62), (15, 32), (17, 198), (33, 68), (103, 210), (19, 36), (19, 74), (37, 76), (19, 78), (21, 120)] ++
  [(21, 82), (115, 84), (193, 86), (21, 44), (133, 90), (81, 46), (45, 94), (23, 48), (243, 98), (151, 40), (155, 102), (25, 52)] ++
  [(51, 106), (47, 72), (91, 110), (29, 168), (29, 114), (247, 58), (29, 118), (89, 180), (91, 122), (157, 62), (55, 84), (31, 64)] ++
  [(17, 66), (35, 68), (227, 420), (65, 96), (19, 74), (37, 76), (41, 234), (39, 80), (185, 82), (43, 252), (21, 86), (155, 44)] ++
  [(79, 120), (139, 92), (23, 94), (217, 48), (25, 98), (17, 80), (127, 102), (25, 52), (239, 106), (17, 48), (137, 110), (215, 112)] ++
  [(29, 114), (15, 58), (147, 118), (29, 60), (59, 122), (65, 124), (55, 84), (31, 64), (17, 66), (171, 204), (67, 140), (35, 72)] ++
  [(19, 74), (39, 76), (19, 78), (199, 240), (21, 82), (211, 252), (21, 86), (43, 88), (149, 60), (45, 92), (49, 846), (71, 48)] ++
  [(13, 28), (17, 80), (25, 102), (183, 104), (55, 954), (127, 96), (27, 110), (29, 112), (29, 114), (57, 116), (45, 354), (31, 120)] ++
  [(59, 610), (185, 124), (113, 420), (31, 64), (17, 66), (171, 136), (209, 420), (253, 216), (367, 444), (265, 456), (181, 468), (39, 80)] ++
  [(27, 164), (127, 504), (143, 172), (43, 88), (29, 300), (45, 92), (157, 188), (47, 96), (13, 28), (111, 240), (443, 204), (51, 104)] ++
  [(51, 212), (451, 192), (257, 220), (57, 336), (313, 228), (271, 232), (179, 236), (331, 120), (363, 244), (375, 248), (127, 168), (31, 64)] ++
  [(33, 130), (43, 264), (33, 134), (477, 408), (35, 138), (233, 280), (357, 142), (337, 480), (37, 146), (71, 444), (71, 120), (37, 152)] ++
  [(39, 462), (127, 234), (39, 158), (39, 80), (31, 96), (113, 902), (41, 166), (251, 336), (43, 170), (21, 86), (43, 174), (45, 176)] ++
  [(45, 178), (161, 120), (89, 182), (323, 184), (47, 186), (23, 94), (47, 190), (263, 480)]

/-- The QPP interleaver: the position of the block that position `i` of the second encoder's input takes. -/
def qpp (k i : Nat) : Nat :=
  let f := qppTable.getD (turboSizes.idxOf k) (1, 0)
  (f.1 * i + f.2 * i * i) % k

/-- A constituent encoder's step from state 4 s1 + 2 s2 + s3 on input `u`: the next state and the parity bit (TS 36.212 clause
5.1.3.2.1). -/
def rscStep (s : Nat) (u : Bool) : Nat × Bool :=
  let s1 := bitAt s 2; let s2 := bitAt s 1; let s3 := bitAt s 0
  let a := u != (s2 != s3)
  (4 * b2n a + 2 * b2n s1 + b2n s2, a != (s1 != s3))

/-- State metrics: the largest subtracted from each, then saturated at ±1,023. -/
def normMetric (m : List Int) : List Int :=
  let mx := m.foldl max (m.headD 0)
  m.map (fun x => clampI (-1023) 1023 (x - mx))

/-- A branch's metric: what a bit 0 earns of its soft value. -/
def branchMetric (lu lz : Int) (u z : Bool) : Int := (if u then 0 else lu) + (if z then 0 else lz)

/-- Inputs that a step allows: both, or the one that feeds 0 into the register (termination). -/
def stepInputs (tail : Bool) (s : Nat) : List Bool := if tail then [bitAt s 1 != bitAt s 0] else [false, true]

def maxI : List Int → Int
  | [] => -4096
  | x :: r => r.foldl max x

/-- Metrics after a step forward, and before a step backward. -/
def stepFwd (al : List Int) (tail : Bool) (lu lz : Int) : List Int :=
  normMetric ((List.range 8).map (fun t => maxI ((List.range 8).flatMap (fun s =>
    (stepInputs tail s).filterMap (fun u =>
      let n := rscStep s u
      if n.1 = t then some (al.getD s 0 + branchMetric lu lz u n.2) else none)))))
def stepBack (be : List Int) (tail : Bool) (lu lz : Int) : List Int :=
  normMetric ((List.range 8).map (fun s => maxI ((stepInputs tail s).map (fun u =>
    let n := rscStep s u
    be.getD n.1 0 + branchMetric lu lz u n.2))))

/-- The state metrics of a known state 0. -/
def startMetric : List Int := 0 :: List.replicate 7 (-1023)

/-- Backward metrics behind each of a list of steps, the last first. -/
def backAll (init : List Int) (steps : List (Int × Int)) : List (List Int) :=
  steps.foldr (fun x r => stepBack (r.headD init) false x.1 x.2 :: r) [init]

/-- A posteriori values of one constituent decoder: information steps, then the three steps of termination. -/
def siso (steps tail : List (Int × Int)) : List Int :=
  let finish := tail.foldr (fun x b => stepBack b true x.1 x.2) startMetric
  let back := (backAll finish steps).drop 1
  ((steps.zip back).foldl (fun (r : List Int × List Int) x =>
    let al := r.1; let lu := x.1.1; let lz := x.1.2
    let best := fun u => maxI ((List.range 8).map (fun s =>
      let n := rscStep s u
      al.getD s 0 + branchMetric lu lz u n.2 + x.2.getD n.1 0))
    (stepFwd al false lu lz, r.2 ++ [best false - best true])) (startMetric, [])).2

/-- An extrinsic value times 3/4, rounded half away from zero (R222). -/
def scaleExt (x : Int) : Int := if x < 0 then -((3 * x.natAbs + 2) / 4 : Nat) else ((3 * x.natAbs + 2) / 4 : Nat)

/-- Iterations of the turbo decoder: `la` are the a priori values of the first decoder, `hard` the last decisions. -/
def turboLoop (k : Nat) (early : Bool) (crc : List Bool → Bool) (d0 d1 d2 : List Int) :
    Nat → Nat → List Int → List Bool → List Bool × Nat
  | 0, it, _, hard => (hard, it)
  | fuel + 1, it, la, _ =>
    let g := fun (l : List Int) i => l.getD i 0
    let in1 := (List.range k).map (fun i => (g d0 i + g la i, g d1 i))
    let tail1 := [(g d0 k, g d1 k), (g d2 k, g d0 (k + 1)), (g d1 (k + 1), g d2 (k + 1))]
    let ap1 := siso in1 tail1
    let ex1 := (List.range k).map (fun i => scaleExt (g ap1 i - (in1.getD i (0, 0)).1))
    let in2 := (List.range k).map (fun i => (g d0 (qpp k i) + g ex1 (qpp k i), g d2 i))
    let tail2 := [(g d0 (k + 2), g d1 (k + 2)), (g d2 (k + 2), g d0 (k + 3)), (g d1 (k + 3), g d2 (k + 3))]
    let ap2 := siso in2 tail2
    let pos := fun i => ((List.range k).find? (fun j => qpp k j == i)).getD 0
    let hard := (List.range k).map (fun i => decide (g ap2 (pos i) < 0))
    let la2 := (List.range k).map (fun i => scaleExt (g ap2 (pos i) - (in2.getD (pos i) (0, 0)).1))
    if early && crc hard then (hard, it + 1) else turboLoop k early crc d0 d1 d2 fuel (it + 1) la2 hard

/-- The turbo decoder of R222 on the three streams of K + 4 soft values each: the K hard decisions and the iterations run. -/
def turboDecode (k maxIter : Nat) (early : Bool) (crc : List Bool → Bool) (d0 d1 d2 : List Int) : List Bool × Nat :=
  turboLoop k early crc d0 d1 d2 maxIter 0 (List.replicate k 0) (List.replicate k false)

/-! ## The polar code (TS 38.212 clauses 5.3.1 and 5.4.1) -/

/-- The polar sequence of TS 38.212 Table 5.3.1.2-1, the least reliable first. PRESUMED, log entry 20. -/
def polarSeq : List Nat :=
  [0, 1, 2, 4, 8, 16, 32, 3, 5, 64, 9, 6, 17, 10, 18, 128, 12, 33, 65, 20, 256, 34, 24, 36, 7, 129, 66, 512, 11, 40, 68, 130] ++
  [19, 13, 48, 14, 72, 257, 21, 132, 35, 258, 26, 513, 80, 37, 25, 22, 136, 260, 264, 38, 514, 96, 67, 41, 144, 28, 69, 42, 516, 49, 74, 272] ++
  [160, 520, 288, 528, 192, 544, 70, 44, 131, 81, 50, 73, 15, 320, 133, 52, 23, 134, 384, 76, 137, 82, 56, 27, 97, 39, 259, 84, 138, 145, 261, 29] ++
  [43, 98, 515, 88, 140, 30, 146, 71, 262, 265, 161, 576, 45, 100, 640, 51, 148, 46, 75, 266, 273, 517, 104, 162, 53, 193, 152, 77, 164, 768, 268, 274] ++
  [518, 54, 83, 57, 521, 112, 135, 78, 289, 194, 85, 276, 522, 58, 168, 139, 99, 86, 60, 280, 89, 290, 529, 524, 196, 141, 101, 147, 176, 142, 530, 321] ++
  [31, 200, 90, 545, 292, 322, 532, 263, 149, 102, 105, 304, 296, 163, 92, 47, 267, 385, 546, 324, 208, 386, 150, 153, 165, 106, 55, 328, 536, 577, 548, 113] ++
  [154, 79, 269, 108, 578, 224, 166, 519, 552, 195, 270, 641, 523, 275, 580, 291, 59, 169, 560, 114, 277, 156, 87, 197, 116, 170, 61, 531, 525, 642, 281, 278] ++
  [526, 177, 293, 388, 91, 584, 769, 198, 172, 120, 201, 336, 62, 282, 143, 103, 178, 294, 93, 644, 202, 592, 323, 392, 297, 770, 107, 180, 151, 209, 284, 648] ++
  [94, 204, 298, 400, 608, 352, 325, 533, 155, 210, 305, 547, 300, 109, 184, 534, 537, 115, 167, 225, 326, 306, 772, 157, 656, 329, 110, 117, 212, 171, 776, 330] ++
  [226, 549, 538, 387, 308, 216, 416, 271, 279, 158, 337, 550, 672, 118, 332, 579, 540, 389, 173, 121, 553, 199, 784, 179, 228, 338, 312, 704, 390, 174, 554, 581] ++
  [393, 283, 122, 448, 353, 561, 203, 63, 340, 394, 527, 582, 556, 181, 295, 285, 232, 124, 205, 182, 643, 562, 286, 585, 299, 354, 211, 401, 185, 396, 344, 586] ++
  [645, 593, 535, 240, 206, 95, 327, 564, 800, 402, 356, 307, 301, 417, 213, 568, 832, 588, 186, 646, 404, 227, 896, 594, 418, 302, 649, 771, 360, 539, 111, 331] ++
  [214, 309, 188, 449, 217, 408, 609, 596, 551, 650, 229, 159, 420, 310, 541, 773, 610, 657, 333, 119, 600, 339, 218, 368, 652, 230, 391, 313, 450, 542, 334, 233] ++
  [555, 774, 175, 123, 658, 612, 341, 777, 220, 314, 424, 395, 673, 583, 355, 287, 183, 234, 125, 557, 660, 616, 342, 316, 241, 778, 563, 345, 452, 397, 403, 207] ++
  [674, 558, 785, 432, 357, 187, 236, 664, 624, 587, 780, 705, 126, 242, 565, 398, 346, 456, 358, 405, 303, 569, 244, 595, 189, 566, 676, 361, 706, 589, 215, 786] ++
  [647, 348, 419, 406, 464, 680, 801, 362, 590, 409, 570, 788, 597, 572, 219, 311, 708, 598, 601, 651, 421, 792, 802, 611, 602, 410, 231, 688, 653, 248, 369, 190] ++
  [364, 654, 659, 335, 480, 315, 221, 370, 613, 422, 425, 451, 614, 543, 235, 412, 343, 372, 775, 317, 222, 426, 453, 237, 559, 833, 804, 712, 834, 661, 808, 779] ++
  [617, 604, 433, 720, 816, 836, 347, 897, 243, 662, 454, 318, 675, 618, 898, 781, 376, 428, 665, 736, 567, 840, 625, 238, 359, 457, 399, 787, 591, 678, 434, 677] ++
  [349, 245, 458, 666, 620, 363, 127, 191, 782, 407, 436, 626, 571, 465, 681, 246, 707, 350, 599, 668, 790, 460, 249, 682, 573, 411, 803, 789, 709, 365, 440, 628] ++
  [689, 374, 423, 466, 793, 250, 371, 481, 574, 413, 603, 366, 468, 655, 900, 805, 615, 684, 710, 429, 794, 252, 373, 605, 848, 690, 713, 632, 482, 806, 427, 904] ++
  [414, 223, 663, 692, 835, 619, 472, 455, 796, 809, 714, 721, 837, 716, 864, 810, 606, 912, 722, 696, 377, 435, 817, 319, 621, 812, 484, 430, 838, 667, 488, 239] ++
  [378, 459, 622, 627, 437, 380, 818, 461, 496, 669, 679, 724, 841, 629, 351, 467, 438, 737, 251, 462, 442, 441, 469, 247, 683, 842, 738, 899, 670, 783, 849, 820] ++
  [728, 928, 791, 367, 901, 630, 685, 844, 633, 711, 253, 691, 824, 902, 686, 740, 850, 375, 444, 470, 483, 415, 485, 905, 795, 473, 634, 744, 852, 960, 865, 693] ++
  [797, 906, 715, 807, 474, 636, 694, 254, 717, 575, 913, 798, 811, 379, 697, 431, 607, 489, 866, 723, 486, 908, 718, 813, 476, 856, 839, 725, 698, 914, 752, 868] ++
  [819, 814, 439, 929, 490, 623, 671, 739, 916, 463, 843, 381, 497, 930, 821, 726, 961, 872, 492, 631, 729, 700, 443, 741, 845, 920, 382, 822, 851, 730, 498, 880] ++
  [742, 445, 471, 635, 932, 687, 903, 825, 500, 846, 745, 826, 732, 446, 962, 936, 475, 853, 867, 637, 907, 487, 695, 746, 828, 753, 854, 857, 504, 799, 255, 964] ++
  [909, 719, 477, 915, 638, 748, 944, 869, 491, 699, 754, 858, 478, 968, 383, 910, 815, 976, 870, 917, 727, 493, 873, 701, 931, 756, 860, 499, 731, 823, 922, 874] ++
  [918, 502, 933, 743, 760, 881, 494, 702, 921, 501, 876, 847, 992, 447, 733, 827, 934, 882, 937, 963, 747, 505, 855, 924, 734, 829, 965, 938, 884, 506, 749, 945] ++
  [966, 755, 859, 940, 830, 911, 871, 639, 888, 479, 946, 750, 969, 508, 861, 757, 970, 919, 875, 862, 758, 948, 977, 923, 972, 761, 877, 952, 495, 703, 935, 978] ++
  [883, 762, 503, 925, 878, 735, 993, 885, 939, 994, 980, 926, 764, 941, 967, 886, 831, 947, 507, 889, 984, 751, 942, 996, 971, 890, 509, 949, 973, 1000, 892, 950] ++
  [863, 759, 1008, 510, 979, 953, 763, 974, 954, 879, 981, 982, 927, 995, 765, 956, 887, 985, 997, 986, 943, 891, 998, 766, 511, 988, 1001, 951, 1002, 893, 975, 894] ++
  [1009, 955, 1004, 1010, 957, 983, 958, 987, 1012, 999, 1016, 767, 989, 1003, 990, 1005, 959, 1011, 1013, 895, 1006, 1014, 1017, 1018, 991, 1020, 1007, 1015, 1019, 1021, 1022, 1023]

-- generators of TS 38.212 clause 5.1
def crc6 : Nat := 0x21
def crc11 : Nat := 0x621

/-- The sub-block interleaver of clause 5.4.1.1: J(n). -/
def polarJ (n i : Nat) : Nat :=
  natAt [0, 1, 2, 4, 3, 5, 6, 7, 8, 16, 9, 17, 10, 18, 11, 19, 12, 20, 13, 21, 14, 22, 15, 23, 24, 25, 26, 28, 27, 29, 30, 31] (32 * i / n) * (n / 32)
    + i % (n / 32)

/-- Rate matching of E bits from N with K information bits: 0 repetition, 1 puncturing, 2 shortening (clause 5.4.1.2). -/
def polarMatch (n k e : Nat) : Nat := if n ≤ e then 0 else if 16 * k ≤ 7 * e then 1 else 2

/-- Positions that rate matching freezes. -/
def polarFrozen (n k e : Nat) : List Nat :=
  match polarMatch n k e with
  | 0 => []
  | 1 => (List.range (n - e)).map (polarJ n) ++ List.range (if 3 * n ≤ 4 * e then ceilDiv (3 * n - 2 * e) 4 else ceilDiv (9 * n - 4 * e) 16)
  | _ => ((List.range n).drop e).map (polarJ n)

/-- Parity-check bits, and how many of them go to positions of least row weight (clause 6.3.1.3.1). -/
def polarPc (k e : Nat) : Nat × Nat := if 18 ≤ k ∧ k ≤ 25 then (3, if 192 + k < e + 3 then 1 else 0) else (0, 0)

/-- The information positions, those of parity bits among them, and the parity positions (clause 5.3.1.2). -/
def polarSets (n k e : Nat) : List Nat × List Nat :=
  let pc := polarPc k e
  let fr := polarFrozen n k e
  let cand := (polarSeq.filter (· < n)).filter (fun i => !fr.contains i)
  let qi := cand.drop (cand.length - (k + pc.1))                 -- the least reliable first
  let rest := qi.drop pc.1                                        -- the |Q_I| − n_PC most reliable
  let wt := fun i => popCount i 10
  let least := rest.foldl (fun m i => min m (wt i)) 10
  let low := rest.filter (fun i => wt i == least)
  (qi, qi.take (pc.1 - pc.2) ++ low.drop (low.length - pc.2))

/-- u G of 2^m bits. -/
def polarEnc : Nat → List Bool → List Bool
  | 0, u => u
  | m + 1, u =>
    let a := polarEnc m (u.take (2 ^ m)); let b := polarEnc m (u.drop (2 ^ m))
    (a.zip b).map (fun x => x.1 != x.2) ++ b

/-- The two node functions of successive cancellation. -/
def nodeF (a b : Int) : Int := let m : Int := (min a.natAbs b.natAbs : Nat); if decide (a < 0) != decide (b < 0) then -m else m
def nodeG (u : Bool) (a b : Int) : Int := if u then b - a else b + a

/-- The LLR of the next bit of a block of 2^m bits, after the decided bits `u`. -/
def polarLlr : Nat → List Int → List Bool → Int
  | 0, l, _ => l.headD 0
  | m + 1, l, u =>
    let h := 2 ^ m
    let top := l.take h; let low := l.drop h
    if u.length < h then polarLlr m ((top.zip low).map (fun x => nodeF x.1 x.2)) u
    else polarLlr m (((polarEnc m (u.take h)).zip (top.zip low)).map (fun x => nodeG x.1 x.2.1 x.2.2)) (u.drop h)

/-- A path of the list decoder: its bits, its metric (the smaller the better) and its parity register. -/
structure PolarPath where
  u : List Bool
  pm : Nat
  y : List Bool
  deriving DecidableEq, Repr

/-- The path with bit `b` appended, `lam` being its LLR: a bit against the LLR costs its magnitude. -/
def PolarPath.ext (p : PolarPath) (lam : Int) (b info pc : Bool) : PolarPath :=
  let y := p.y.drop 1 ++ p.y.take 1
  ⟨p.u ++ [b], p.pm + (if b = decide (lam < 0) then 0 else lam.natAbs), if info && !pc then (y.headD false != b) :: y.drop 1 else y⟩

/-- The best `n` paths, the smallest metric first kept, ties to the lower index; they stay in their order. -/
def keepBest (n : Nat) (l : List PolarPath) : List PolarPath :=
  let rank := fun i => ((List.range l.length).filter (fun j =>
    let a := ((l.map PolarPath.pm).getD j 0); let b := ((l.map PolarPath.pm).getD i 0)
    decide (a < b) || (a == b && decide (j < i)))).length
  ((List.range l.length).zip l).filterMap (fun x => if rank x.1 < n then some x.2 else none)

/-- One bit of every path: frozen bits are 0, parity bits the register's first bit, information bits both values. -/
def polarBit (m : Nat) (llr : List Int) (qi pc : List Nat) (ps : List PolarPath) (i : Nat) : List PolarPath :=
  keepBest 8 (ps.flatMap (fun p =>
    let lam := polarLlr m llr p.u
    if !qi.contains i then [p.ext lam false false false]
    else if pc.contains i then [p.ext lam ((p.y.drop 1 ++ p.y.take 1).headD false) true true]
    else [p.ext lam false true false, p.ext lam true true false]))

/-- The coded-bit interleaver of clause 5.4.1.3: the order in which E bits leave it. -/
def polarTri (e : Nat) : List Nat :=
  let t := ((List.range (e + 1)).find? (fun t => decide (2 * e ≤ t * (t + 1)))).getD 0
  let start := fun i => i * t - i * (i - 1) / 2          -- first index of row i
  (List.range t).flatMap (fun j => (List.range (t - j)).filterMap (fun i => if start i + j < e then some (start i + j) else none))

/-- Soft values of the N coded bits: the interleavers undone; repetitions add, punctured bits are 0, shortened bits are certain. -/
def polarSoft (n k e : Nat) (llr : List Int) : List Int :=
  let ord := polarTri e
  let f := (List.range e).map (fun x => llr.getD (ord.idxOf x) 0)
  let y := (List.range n).map (fun i =>
    match polarMatch n k e with
    | 0 => (List.range (ceilDiv e n)).foldl (fun a j => a + f.getD (i + j * n) 0) 0
    | 1 => if i + e < n then 0 else f.getD (i + e - n) 0
    | _ => if i < e then f.getD i 0 else (2 ^ 20 : Int))
  (List.range n).map (fun x => y.getD (((List.range n).find? (fun i => polarJ n i == x)).getD 0) 0)

/-- The polar decoder of R223 on one segment of A bits: its payload, and whether a path passes the CRC. -/
def polarDecode (a n e : Nat) (llr : List Int) : List Bool × Bool :=
  let l := if a ≤ 19 then 6 else 11
  let k := a + l
  let m := n.log2
  let sets := polarSets n k e
  let ps := (List.range n).foldl (polarBit m (polarSoft n k e llr) sets.1 sets.2) [⟨[], 0, List.replicate 5 false⟩]
  let bitsOfPath := fun (p : PolarPath) => (((List.range n).zip p.u).filter (fun x => sets.1.contains x.1 && !sets.2.contains x.1)).map Prod.snd
  let ok := fun (p : PolarPath) => crcHolds (if l = 6 then crc6 else crc11) l (bitsOfPath p)
  let best := fun (q : List PolarPath) => (keepBest 1 q).head?
  match best (ps.filter ok), best ps with
  | some p, _ => ((bitsOfPath p).take a, true)
  | none, some p => ((bitsOfPath p).take a, false)
  | none, none => ([], false)

end Sys2Proof.Machine
end

