-- ==== Sys2Proof/Machine/Coding.lean ====
section
/-!
DEFINITION. The channel coding engines (R208 to R229): descriptors, jobs, the soft buffer, faults, fences and counters.
Engine n of die d has index d × 16 + n.
-/
namespace Sys2Proof.Machine

/-- An engine descriptor (Table 8.2). -/
structure EngDesc where
  op : Nat
  flags : Nat
  c : Nat
  tbs : Nat
  lift : Nat
  code : Nat
  maxIter : Nat
  first : Nat
  n : Nat
  g : Nat
  qm : Nat
  nl : Nat
  rvo : Nat
  nref : Nat
  inA : Nat
  outA : Nat
  statA : Nat
  appA : Nat
  deriving DecidableEq, Repr

def engDesc (p : List Byte) : EngDesc :=
  ⟨u8 p 0, u8 p 1, u16 p 2, u32 p 4, u16 p 8, u8 p 10, u8 p 11, u16 p 12, u16 p 14, u32 p 16, u8 p 20, u8 p 21, u8 p 22,
    u32 p 24, u64 p 32, u64 p 40, u64 p 48, u64 p 56⟩

def EngDesc.flag (d : EngDesc) (i : Nat) : Bool := bitAt d.flags i
def EngDesc.rv (d : EngDesc) : Nat := d.rvo % 4
def EngDesc.off (d : EngDesc) : Nat := d.rvo / 4 % 16

/-- An address of Table 8.2 (R210). -/
def engAddrOk (a : Nat) : Bool := a < 2 ^ 40 && a % 64 == 0

/-- A valid descriptor (R211, R224). -/
def engDescOk (p : List Byte) (cls : Nat) (hasFlow : Bool) : Bool :=
  let d := engDesc p
  let rng := decide (d.first < d.c ∧ 1 ≤ d.n ∧ d.n ≤ d.c - d.first ∧ 1 ≤ d.nl)
  d.op == cls && u8 p 23 == 0 && u32 p 28 == 0 && [d.inA, d.outA, d.statA, d.appA].all engAddrOk
  && !((d.flag 1 || d.flag 2) && !hasFlow)
  && (if cls = 2 then
      let sg := ldpcSeg d.tbs d.code
      d.flags < 128 && rng && (d.code = 1 || d.code = 2) && decide (1 ≤ d.maxIter ∧ d.maxIter ≤ 32)
      && [1, 2, 4, 6, 8, 10].contains d.qm && d.nl ≤ 4 && d.rvo < 64 && (d.flag 5 || d.appA == 0)
      && decide (1 ≤ d.c ∧ d.c ≤ 256) && d.c == sg.c && d.lift == sg.lift
    else if cls = 3 then
      let sg := ldpcSeg d.tbs d.code
      d.flags == 0 && rng && (d.code = 1 || d.code = 2) && d.maxIter == 0 && [1, 2, 4, 6, 8, 10].contains d.qm && d.nl ≤ 4
      && d.rvo < 4 && d.appA == 0 && decide (1 ≤ d.c ∧ d.c ≤ 256) && d.c == sg.c && d.lift == sg.lift
    else if cls = 4 then
      d.flags == 0 && d.code == 0 && d.maxIter == 0 && d.first == 0 && d.n == d.c && d.qm == 0 && d.nl == 0 && d.rvo == 0
      && d.nref == 0 && d.appA == 0 && decide (12 ≤ d.tbs ∧ d.tbs ≤ 1706) && d.c == polarSegs d.tbs d.g && d.lift == polarN d.tbs d.g
    else
      let sg := turboSeg d.tbs
      d.flags < 128 && !d.flag 5 && rng && d.code == 3 && decide (1 ≤ d.maxIter ∧ d.maxIter ≤ 16)
      && [2, 4, 6, 8].contains d.qm && d.nl ≤ 2 && d.rvo < 4 && d.appA == 0 && decide (1 ≤ d.c ∧ d.c ≤ 64)
      && d.c == sg.1 && d.lift == sg.2.1)

/-- NCB of a job (R216). -/
def EngDesc.ncb (d : EngDesc) : Nat :=
  if d.code = 3 then
    let kw := 96 * ceilDiv (d.lift + 4) 32
    if d.nref = 0 then kw else min (d.nref / d.c) kw
  else
    let n := (if d.code = 1 then 66 else 50) * d.lift
    if d.nref = 0 then n else min n d.nref

/-! ## The soft buffer (R102, R108, R110) -/

/-- Cave address of soft offset `o` of a flow. -/
def State.softAddr (s : State) (f o : Nat) : Nat :=
  leNat (s.caveRead ((s.flow f).sbMap + 4 * (o / 4096)) 4) % 2 ^ 25 * 4096 + o % 4096
def State.softRead (s : State) (f o n : Nat) : List Byte := (List.range n).map (fun i => s.caveByte (s.softAddr f (o + i)))

def cbStride (ncb : Nat) : Nat := ceilDiv (16 + ceilDiv ncb 2) 64 * 64
/-- Code blocks that the soft buffer holds (R110). -/
def storedBlocks (c stride sb : Nat) : Nat := if 64 + c * stride ≤ sb * 4096 then c else (sb * 4096 - 64) / stride

/-- The TB header of a job (Table 4.10). -/
def tbHeader (d : EngDesc) (stamp : Nat) : List Byte :=
  leBytes 4 d.tbs ++ leBytes 2 d.c ++ leBytes 1 d.code ++ zeros 1 ++ leBytes 2 d.lift ++ leBytes 2 d.ncb
    ++ leBytes 4 (cbStride d.ncb) ++ leBytes 4 stamp ++ zeros 44

/-- The stored header differs in TBS, C, CODE, LIFT or NCB (R217). -/
def headerDiffers (h : List Byte) (d : EngDesc) : Bool :=
  u32 h 0 != d.tbs || u16 h 4 != d.c || u8 h 6 != d.code || u16 h 8 != d.lift || u16 h 10 != d.ncb

/-! ## Jobs -/

/-- Executor number of engine `e` (Table 8.1). -/
def engExec (e : Nat) : Nat :=
  let d := e / 16; let n := e % 16
  if n < 8 then 320 + 8 * d + n else if n < 12 then 352 + 4 * d + (n - 8) else if n < 14 then 368 + 2 * d + (n - 12) else 376 + 2 * d + (n - 14)

/-- A write of engine `e` into the Cave for order `h`. -/
def State.engWrite (s : State) (e h a : Nat) (p : List Byte) : State := s.hubWrite h a (engExec e) p

/-- A write of engine `e` into a flow's soft buffer, line by line through its map (R102). -/
def State.softWrite (s : State) (e h f o : Nat) (p : List Byte) : State :=
  (List.range (ceilDiv (o % 64 + p.length) 64)).foldl (fun (t : State) i =>
    let at' := o / 64 * 64 + 64 * i
    let lo := max o at'
    let d := slice p (lo - o) (at' + 64 - lo)
    let a := s.softAddr f lo
    ((t.writeWords 0 a d.length 4 (engExec e) h).caveWrite a d).flip 0 a (engExec e)) s

/-- ENG_STAT of an engine: FENCED from the moment its fence is accepted, else `v` (R228). -/
def State.engStat (s : State) (e v : Nat) : State :=
  s.setFld Fld.ENG_STAT_STATE e (if bitAt (s.fld Fld.ENG_FENCE_STAT_FENCED (e / 16)) (e % 16) then 3 else v)

/-- The job leaves the engine: its curd ends with `st`. -/
def State.engEnd (s : State) (e st : Nat) : State :=
  let x := s.eng e
  let s1 := match x.curd with | some a => s.endCurd a st | none => s
  ((s1.setEng e { x with curd := none, wrote := x.wrote && st == 0x10 }).engStat e 1).setReg .ENG_CUR e 0

/-- A job reads an unmapped Cave address (R88): the access is not performed and the job ends FAILED_ON_TIME; Table 8.6 gives it
no cause, so ENG_EXC keeps its value. DEDUCED, log entry 35. -/
def State.engUnmapped (s : State) (e : Nat) : State := s.engEnd e 0x12

/-- A cause of Table 8.6: recorded, and the job ends FAILED_ON_TIME. -/
def State.engFail (s : State) (e cause cb : Nat) : State :=
  let h := match (s.eng e).curd.bind s.curdAt with | some c => c.handle | none => 0
  (((s.setReg .ENG_EXC e (cause + 256 * (cb % 256))).setReg .ENG_EXC_HANDLE e h).bump .ENG_CNT_EXC e).engEnd e 0x12

/-- Executor of the engine's curd, for error records. -/
def State.engReadBad (s : State) (e a n : Nat) (h : Nat) : State := s.readBad 0 a n (e / 16) (engExec e) h

/-- Clears FLAGS.VALID of regions 0 to `n` − 1 (R219). -/
def State.clearRegions (s : State) (e h f stride : Nat) : Nat → State
  | 0 => s
  | n + 1 =>
    let o := 64 + n * stride + 3
    let t := s.clearRegions e h f stride n
    t.softWrite e h f o [BitVec.ofNat 8 (u8 (t.softRead f o 1) 0 / 2 * 2)]

/-- An engine starts a job (R209, R211, R217, R219): it reads its descriptor once, checks it, and with WRITE_SB on a TB that
starts empty writes the header first. -/
def State.engStart (s : State) (e : Nat) (c : Curd) : State :=
  let p := s.caveRead c.args 64
  let d := engDesc p
  let f := c.flow
  let fl := s.flow f
  let s1 := (((s.modCurd c.addr (fun x => { x with arg := p })).engStat e 2).setReg .ENG_CUR e c.handle).bump .ENG_CNT_JOBS e
  let run := fun (t : State) (emp : Bool) => t.setEng e { s.eng e with curd := some c.addr, next := d.first, empty := emp, wrote := false, iterMax := 0 }
  if !caveSpan c.args 64 then (run s1 true).engUnmapped e
  else if !s.rangeOk 0 c.args 64 then ((run s1 true).engReadBad e c.args 64 c.handle).engFail e 2 0
  else
    let s2 := s1.readRange 0 c.args 64 (e / 16) 0 (engExec e) c.handle
    if !engDescOk p c.cls c.hasFlow then (run s2 true).engFail e 1 0
    else if c.cls = 3 ∨ c.cls = 4 then run s2 true
    else
      let hdrUse := !d.flag 0 && c.hasFlow && fl.sbState == 1
      if hdrUse && !s.rangeOk 0 (s.softAddr f 0) 64 then ((run s2 true).engReadBad e (s.softAddr f 0) 64 c.handle).engFail e 2 0
      else
        let mism := hdrUse && headerDiffers (s.softRead f 0 64) d
        let emp := d.flag 0 || !d.flag 1 || fl.sbState == 0 || mism
        let s3' := if hdrUse then s2.readRange 0 (s.softAddr f 0) 64 (e / 16) 0 (engExec e) c.handle else s2
        let s3 := if mism then s3'.bump .ENG_CNT_MISMATCH e else s3'
        let s4 := run s3 emp
        if d.flag 2 ∧ emp ∧ fl.sbBlocks ≠ 0 then
          (s4.softWrite e c.handle f 0 (tbHeader d s.stamp)).clearRegions e c.handle f (cbStride d.ncb) (storedBlocks d.c (cbStride d.ncb) fl.sbBlocks)
        else s4

/-- The status word of block `r` of a job. -/
def State.statusWord (s : State) (d : EngDesc) (r : Nat) : Nat := leNat (s.caveRead (d.statA + 4 * r) 4)

/-- The next block the job processes: ONLY_FAILED passes over blocks whose CRC_OK is set. DEDUCED, log entry 35. -/
def State.nextBlock (s : State) (d : EngDesc) : Nat → Nat → Option Nat
  | 0, _ => none
  | fuel + 1, r =>
    if d.first + d.n ≤ r then none
    else if d.flag 3 && bitAt (s.statusWord d r) 0 then s.nextBlock d fuel (r + 1)
    else some r

/-- Writes bits at a bit offset of a Cave area, for the order of the job. -/
def State.writeBits (s : State) (e h a off : Nat) (l : List Bool) : State :=
  let b0 := a + off / 8
  let pre := (bitsOf (s.caveRead b0 1)).take (off % 8)
  let n := off % 8 + l.length
  let post := (bitsOf (s.caveRead (a + (off + l.length) / 8) 1)).drop (n % 8)
  s.engWrite e h b0 (bytesOf (pre ++ l ++ (if n % 8 = 0 then [] else post)))

/-- The bytes that `n` bits at bit offset `off` of a Cave area reach may be written by the order (R210). -/
def State.bitsOk (s : State) (h a off n : Nat) : Bool := s.dstOk h (0, a + off / 8) (ceilDiv (off % 8 + n) 8)

/-- What a decoder makes of one block: information bits with their CRC, CRC result, iterations, checks met, APP bytes. -/
structure CbOut where
  info : List Bool
  crcOk : Bool
  iter : Nat
  synd : Bool
  app : List Int
  deriving DecidableEq, Repr

/-- CRC of a block: CRC24B when C exceeds 1, the TB CRC otherwise (R212). -/
def cbCrcOk (c tbCrc : Nat) (l : List Bool) : Bool :=
  if c > 1 then crcHolds crc24B 24 l else if tbCrc = 24 then crcHolds crc24A 24 l else crcHolds crc16 16 l

/-- The LDPC decoding of a block from its combined soft bits. -/
def ldpcBlock (d : EngDesc) (r : Nat) (tk : List Nat) (e : Nat) (out : List (Option Int)) : CbOut :=
  let sg := ldpcSeg d.tbs d.code
  let zc := d.lift
  let kr := if r + 1 = sg.c then sg.kLast else sg.kp
  let cols := (if d.code = 1 then 68 else 52) * zc
  let inp := (List.range cols).map (fun v =>
    if kr ≤ v ∧ v < sg.k then 127 else if v < 2 * zc then 0 else (out.getD (v - 2 * zc) none).getD 0)
  let crc := fun h => cbCrcOk sg.c sg.tbCrc (h.take kr)
  let res := ldpcDecode d.code zc d.off d.maxIter (d.flag 4) crc inp
  let h := hardOf res.1
  let app := (List.range e).map (fun j => sat127 (res.1.getD (2 * zc + tk.getD ((j / d.qm + (j % d.qm) * (e / d.qm)) % tk.length) 0) 0))
  ⟨h.take kr, crc h, res.2.1, res.2.2, app⟩

/-- The turbo decoding of a block (R222). -/
def turboBlock (d : EngDesc) (r : Nat) (out : List (Option Int)) : CbOut :=
  let sg := turboSeg d.tbs
  let k := if r < sg.2.2.2.1 then sg.2.2.1 else sg.2.1
  let f := if r = 0 then sg.2.2.2.2 else 0
  let at' := fun st i => match (List.range out.length).find? (fun p => turboPos k p == some (st, i)) with
    | some p => (out.getD p none).getD 0 | none => (0 : Int)
  let strm := fun st => (List.range (k + 4)).map (fun i => if i < f ∧ st < 2 then 127 else at' st i)
  let res := turboDecode k d.maxIter (d.flag 4) (cbCrcOk sg.1 24) (strm 0) (strm 1) (strm 2)
  let info := (res.1.take k).drop f
  ⟨info, cbCrcOk sg.1 24 ((List.replicate f false) ++ info), res.2, false, []⟩

/-- Bits of TB data that blocks before `r` carry. -/
def EngDesc.bitsBefore (d : EngDesc) (r : Nat) : Nat :=
  if d.code = 3 then
    let sg := turboSeg d.tbs
    let l := if sg.1 > 1 then 24 else 0
    (List.range r).foldl (fun a j => a + ((if j < sg.2.2.2.1 then sg.2.2.1 else sg.2.1) - l) - (if j = 0 then sg.2.2.2.2 else 0)) 0
  else
    let sg := ldpcSeg d.tbs d.code
    r * (sg.kp - (if sg.c > 1 then 24 else 0))

/-- A status word (Table 8.3). -/
def statusBits (crc synd stored clipped comb : Bool) (iter : Nat) : Nat :=
  b2n crc + 2 + 4 * b2n synd + 8 * b2n stored + 16 * b2n clipped + 32 * b2n comb + 256 * (iter % 256)

/-- The region of a block written after its decoding (R219, Table 4.11). -/
def regionBytes (ncb s crc txc rv : Nat) (out : List (Option Int)) : List Byte :=
  let nb := nibbles out s
  leBytes 2 ncb ++ leBytes 1 s ++ leBytes 1 (1 + 2 * crc) ++ leBytes 2 txc ++ leBytes 1 rv ++ zeros 1 ++ leBytes 4 (crc32c nb)
    ++ zeros 4 ++ nb ++ zeros (cbStride ncb - 16 - nb.length)

/-- One block of a decoding job (LDEC, TURBO). DEDUCED, log entry 35. -/
def State.decodeBlock (s : State) (e : Nat) (c : Curd) (d : EngDesc) (r : Nat) : State :=
  let fl := s.flow c.flow
  let sg := ldpcSeg d.tbs d.code
  let er := eOf d.g d.nl d.qm d.c r
  let ib := d.inA + eBefore d.g d.nl d.qm d.c r
  let ncb := d.ncb; let stride := cbStride ncb
  let stored := c.hasFlow && decide (r < storedBlocks d.c stride fl.sbBlocks)
  let ro := 64 + r * stride
  let useOld := !(s.eng e).empty && stored && c.hasFlow
  if !caveSpan ib er then s.engUnmapped e
  else if !s.rangeOk 0 ib er then (s.engReadBad e ib er c.handle).engFail e 2 r
  else if useOld && !(List.range (ceilDiv stride 64)).all (fun i => s.rangeOk 0 (s.softAddr c.flow (ro + 64 * i)) 64) then
    ((List.range (ceilDiv stride 64)).foldl (fun t i =>
      if s.rangeOk 0 (s.softAddr c.flow (ro + 64 * i)) 64 then t else t.engReadBad e (s.softAddr c.flow (ro + 64 * i)) 64 c.handle) s).engFail e 2 r
  else
    let llr := (s.caveRead ib er).map (fun b => max (sext 8 b.toNat) (-127))
    let tsg := turboSeg d.tbs
    let kt := if r < tsg.2.2.2.1 then tsg.2.2.1 else tsg.2.1
    -- a block of K− bits has a shorter circular buffer; its region keeps the header's NCB
    let nb := if d.code = 3 then min ncb (96 * ceilDiv (kt + 4) 32) else ncb
    let k0 := if d.code = 3 then turboK0 (32 * ceilDiv (kt + 4) 32) nb d.rv else ldpcK0 d.code d.lift ncb d.rv
    let skip := fun k => if d.code = 3 then
        (match turboPos kt k with | none => true | some x => r == 0 && decide (x.1 < 2 ∧ x.2 < tsg.2.2.2.2))
      else ldpcFiller sg r k
    let tk := takers nb k0 skip
    let new := dematch nb tk (if d.code = 3 then llr else deinterleave d.qm llr)
    let reg := s.softRead c.flow ro (16 + ceilDiv ncb 2)
    let valid := useOld && bitAt (u8 reg 3) 0
    let old := (List.range ncb).map (fun k =>
      if valid && fl.sbState != 2 then llrOfNibble (u8 reg (16 + k / 2) / 16 ^ (k % 2) % 16) (u8 reg 2 % 8) else none)
    let out := combineLlr old new ncb
    let res := if d.code = 3 then turboBlock d r out else ldpcBlock d r tk er out
    let combined := valid && fl.sbState != 2
    let crcLen := if d.c > 1 then 24 else 0
    let data := res.info.take (res.info.length - crcLen)
    let off := d.bitsBefore r
    let want := d.flag 2 && (res.crcOk || d.flag 6)
    let sa := d.statA + 4 * r
    let aa := d.appA + eBefore d.g d.nl d.qm d.c r
    -- the writes go out in this order; a refused one ends the job, those before it stand (R227)
    let s0 := s.readRange 0 ib er (e / 16) 0 (engExec e) c.handle
    let s1 := if useOld then
        (List.range (ceilDiv stride 64)).foldl (fun (t : State) i =>
          t.readRange 0 (s.softAddr c.flow (ro + 64 * i)) 64 (e / 16) 0 (engExec e) c.handle) s0
      else s0
    if !s1.bitsOk c.handle d.outA off data.length then s1.engFail e 3 r
    else
    let s2 := s1.writeBits e c.handle d.outA off data
    if d.flag 5 && !s2.dstOk c.handle (0, aa) er then s2.engFail e 3 r
    else
      let s3 := if d.flag 5 then s2.engWrite e c.handle aa (res.app.map (fun x => BitVec.ofNat 8 (enc 8 x))) else s2
      let doStore := want && stored
      let clipped := want && !stored
      let txc := if combined then (u16 reg 4 + 1) % 65536 else 1
      let rb := regionBytes ncb (pickShift out) (b2n res.crcOk) txc d.rv out
      let s4 := if doStore then (s3.softWrite e c.handle c.flow (ro + 16) (rb.drop 16)).softWrite e c.handle c.flow ro (rb.take 16) else s3
      let s5 := if clipped then
          let x := s4.flow c.flow
          (s4.setFlow c.flow { x with clipped := (x.clipped + 1) % 2 ^ 32 }).bump .ENG_CNT_CLIP e
        else s4
      if !s5.dstOk c.handle (0, sa) 4 then s5.engFail e 3 r
      else
      let s6 := s5.engWrite e c.handle sa (leBytes 4 (statusBits res.crcOk (res.synd && d.code != 3) doStore clipped combined res.iter))
      let s7 := ((s6.bump .ENG_CNT_CB e).bump .ENG_CNT_ITER e res.iter).bump .ENG_CNT_CBFAIL e (b2n (!res.crcOk))
      let x := s7.eng e
      s7.setEng e { x with next := r + 1, wrote := x.wrote || doStore, iterMax := max x.iterMax res.iter }

/-- One block of an encoding job (LENC, R214). Whether CRC_OK is set for an encoder the spec does not say: a free value. -/
def State.encodeBlock (s : State) (e : Nat) (c : Curd) (d : EngDesc) (r : Nat) : State :=
  let sg := ldpcSeg d.tbs d.code
  let nIn := ceilDiv d.tbs 8
  let er := eOf d.g d.nl d.qm d.c r
  let off := eBefore d.g d.nl d.qm d.c r
  let per := sg.kp - (if sg.c > 1 then 24 else 0)
  -- a range with TB CRC bits reads the whole TB, another the bits of its blocks
  let rd := if d.tbs < (d.first + d.n) * per then (0, nIn) else (r * per / 8, ceilDiv (r * per % 8 + per) 8)
  if !caveSpan (d.inA + rd.1) rd.2 then s.engUnmapped e
  else if !s.rangeOk 0 (d.inA + rd.1) rd.2 then (s.engReadBad e (d.inA + rd.1) rd.2 c.handle).engFail e 2 r
  else
    let tb := (bitsOf (s.caveRead d.inA nIn)).take d.tbs
    let b := tb ++ (if sg.tbCrc = 24 then crcBitsOf crc24A 24 tb else crcBitsOf crc16 16 tb)
    let part := (b.drop (r * per)).take per
    let info := part ++ (if sg.c > 1 then crcBitsOf crc24B 24 part else [])
    let cw := ldpcEncode d.code d.lift (info ++ List.replicate (sg.k - info.length) false)
    let ncb := d.ncb
    let tk := takers ncb (ldpcK0 d.code d.lift ncb d.rv) (ldpcFiller sg r)
    let sel := (List.range er).map (fun j => cw.getD (tk.getD (j % tk.length) 0) false)
    let h := er / d.qm
    let out := (List.range er).map (fun n => sel.getD ((n % d.qm) * h + n / d.qm) false)
    let sa := d.statA + 4 * r
    let s0 := s.readRange 0 (d.inA + rd.1) rd.2 (e / 16) 0 (engExec e) c.handle
    let bits' := out ++ (if r + 1 = d.c then List.replicate ((8 - (off + er) % 8) % 8) false else [])
    if !s0.bitsOk c.handle d.outA off bits'.length then s0.engFail e 3 r
    else
      let s1 := s0.writeBits e c.handle d.outA off bits'
      if !s1.dstOk c.handle (0, sa) 4 then s1.engFail e 3 r
      else
      let ok := s.pick 2 == 1
      let s2 := (s1.engWrite e c.handle sa (leBytes 4 (statusBits ok false false false false 0))).used
      let s3 := (s2.bump .ENG_CNT_CB e).bump .ENG_CNT_CBFAIL e (b2n (!ok))
      s3.setEng e { s3.eng e with next := r + 1 }

/-- One segment of a polar job (R214, R223). -/
def State.polarBlock (s : State) (e : Nat) (c : Curd) (d : EngDesc) (r : Nat) : State :=
  let er := d.g / d.c
  let a := ceilDiv d.tbs d.c
  let ib := d.inA + r * er
  if !caveSpan ib er then s.engUnmapped e
  else if !s.rangeOk 0 ib er then (s.engReadBad e ib er c.handle).engFail e 2 r
  else
    let llr := (s.caveRead ib er).map (fun b => max (sext 8 b.toNat) (-127))
    let res := polarDecode a d.lift er llr
    -- with two segments and an odd payload, segment 0 starts with one filler bit (TS 38.212 clause 5.2.1)
    let pad := if r = 0 then d.c * a - d.tbs else 0
    let data := (res.1.take a).drop pad
    let off := if r = 0 then 0 else a - (d.c * a - d.tbs)
    let sa := d.statA + 4 * r
    let s0 := s.readRange 0 ib er (e / 16) 0 (engExec e) c.handle
    if !s0.bitsOk c.handle d.outA off data.length then s0.engFail e 3 r
    else
      let s1 := s0.writeBits e c.handle d.outA off data
      if !s1.dstOk c.handle (0, sa) 4 then s1.engFail e 3 r
      else
      let s2 := s1.engWrite e c.handle sa (leBytes 4 (statusBits res.2 false false false false 0))
      let s3 := (s2.bump .ENG_CNT_CB e).bump .ENG_CNT_CBFAIL e (b2n (!res.2))
      s3.setEng e { s3.eng e with next := r + 1 }

/-- CODE_BLOCK_DONE (R215): the engine finishes its next block. -/
def execCodeBlockDone (eng : Fin 64) (s : State) : Host.Outcome State Fault Refusal :=
  let e := eng.val
  .next (match (s.eng e).curd.bind s.curdAt with
    | none => s
    | some c =>
      let d := engDesc c.arg
      match s.nextBlock d (d.n + 1) (s.eng e).next with
      | none => s
      | some r => if c.cls = 3 then s.encodeBlock e c d r else if c.cls = 4 then s.polarBlock e c d r else s.decodeBlock e c d r)

/-- The TB word of a job whose range includes block C − 1 (R215). DEDUCED, log entry 35. -/
def State.tbWord (s : State) (e : Nat) (c : Curd) (d : EngDesc) : Nat × State :=
  let oks := (List.range d.c).map (fun r => bitAt (s.statusWord d r) 0)
  let allOk := oks.all id
  let fails := (oks.filter (fun b => !b)).length
  let word := fun ok chk => b2n ok + 2 * b2n chk + 4 * b2n allOk + 256 * ((s.eng e).iterMax % 256) + 65536 * fails
  if c.cls = 4 then (word allOk true, s)
  else if c.cls = 3 then (word (s.pick 2 == 1) (s.pick 4 / 2 == 1), s.used)
  else
    let l := if d.code ≠ 3 ∧ d.tbs ≤ 3824 then 16 else 24
    let tb := (bitsOf (s.caveRead d.outA (ceilDiv (d.tbs + l) 8))).take (d.tbs + l)
    (word (if l = 24 then crcHolds crc24A 24 tb else crcHolds crc16 16 tb) true, s)

/-- The allocation whose block a decoding job writes: of those that its task produces, then of all, the one of the job's flow. DEDUCED,
log entry 78. -/
def Order.decodedBy (o : Order) (t : ImgTask) (c : Curd) : Option Nat :=
  let pusch := fun k => (o.allocs.getD k default).kind == 1 || (o.allocs.getD k default).kind == 5
  if c.hasFlow then
    (o.producedBy t c.index ++ List.range o.allocs.length).find? (fun k => pusch k && (o.allocs.getD k default).flow == c.flow)
  else (o.producedBy t c.index).find? pusch

/-- The delivery task takes CRC_OK from the TB word, and ITER as the largest ITER_MAX over all passes (R215). -/
def State.noteTb (s : State) (c : Curd) (d : EngDesc) (word : Nat) : State :=
  match s.orderOf c.handle with
  | none => s
  | some o =>
    match o.decodedBy (imgTaskAt (s.image o.slot).bytes c.task) c with
    | none => s
    | some k => s.modOrder c.handle (fun o => { o with
        allocs := modAt o.allocs k (fun a => { a with out := some d.outA, crcOk := bitAt word 0, iter := max a.iter (bits word 15 8) }) })

/-- Bytes of the decoded TB with its CRC, which the TB check reads; 0 for jobs that check none. -/
def EngDesc.tbLen (d : EngDesc) (cls : Nat) : Nat :=
  if (cls = 2 ∨ cls = 5) ∧ d.first + d.n = d.c then ceilDiv (d.tbs + (if d.code ≠ 3 ∧ d.tbs ≤ 3824 then 16 else 24)) 8 else 0

/-- ENGINE_JOB_END (R227): every block of the range is done; the TB word is written, the header's STAMP updated, and the
job ends DONE. -/
def execEngineJobEnd (eng : Fin 64) (s : State) : Host.Outcome State Fault Refusal :=
  let e := eng.val
  .next (match (s.eng e).curd.bind s.curdAt with
    | none => s
    | some c =>
      let d := engDesc c.arg
      let n := d.tbLen c.cls
      if (s.nextBlock d (d.n + 1) (s.eng e).next).isSome then s
      else if !caveSpan d.outA n then s.engUnmapped e
      else if !s.rangeOk 0 d.outA n then (s.engReadBad e d.outA n c.handle).engFail e 2 (d.c - 1)
      else if d.first + d.n = d.c ∧ s.dstOk c.handle (0, d.statA + 4 * d.c) 4 = false then s.engFail e 3 (d.c - 1)
      else
        let s1 := if d.first + d.n = d.c then
            let w := s.tbWord e c d
            let t := (w.2.readRange 0 d.outA n (e / 16) 0 (engExec e) c.handle).engWrite e c.handle (d.statA + 4 * d.c) (leBytes 4 w.1)
            if c.cls = 2 ∨ c.cls = 5 then t.noteTb c d w.1 else t
          else s
        let s2 := if (c.cls = 2 ∨ c.cls = 5) ∧ d.flag 2 ∧ (s.flow c.flow).sbBlocks ≠ 0 then s1.softWrite e c.handle c.flow 16 (leBytes 4 s.stamp) else s1
        s2.engEnd e 0x10)

/-- An internal fault of a coding engine (Table 8.6, cause 0x04). -/
def State.engFault (s : State) (e : Nat) : State :=
  if (s.eng e).resetting then s
  else
    let s1 := s.bump .ENG_CNT_FAULT e
    let s2 := if (s.eng e).curd.isSome then s1.engFail e 4 (s.eng e).next else s1
    (s2.setEng e { s2.eng e with resetting := true, wrote := false }).event 0x0012 2 (e / 16) (engExec e)

/-- A coding engine's job stops for a trap or a cancellation: a status word describes only finished blocks. DEDUCED, log entry 34. -/
def State.engStop (s : State) (e st : Nat) : State := if (s.eng e).curd.isSome then s.engEnd e st else s

/-! ## Fences (R228) and counters (R229) -/

/-- The absolute beat of E for an action that reaches the rennet now. -/
def State.absFirst (s : State) : Nat := s.absBeat + (if s.grain ≤ 1007 then 1 else 2)

/-- A write of ENG_FENCE of die `d`. -/
def State.engFence (s : State) (d v : Nat) : State :=
  let req := v % 65536
  let now := s.fld Fld.ENG_FENCE_STAT_FENCED d
  let add := maskList req 16 |>.filter (fun n => !bitAt now n)
  let drop := (List.range 16).filter (fun n => bitAt now n && !bitAt req n)
  -- an unfenced engine is free from the grain after the write; capacity returns in columns that open later
  let s1 := drop.foldl (fun (t : State) n =>
    let e := d * 16 + n
    (t.setEng e { t.eng e with fenceFrom := none, freeFrom := s.tm.absGrain + 1 }).setFld Fld.ENG_STAT_STATE e (if (t.eng e).curd.isSome then 2 else 1)) s
  let kept := drop.foldl (fun m n => putBit m n false) now
  let s2 := { s1.setReg .ENG_FENCE_STAT d kept with cap := { s1.cap with engFence := setAt s1.cap.engFence d kept } }
  let cnt := fun p => (add.filter (fun n => decide ((enginePool p).1 ≤ n ∧ n < (enginePool p).1 + (enginePool p).2))).length
  if add = [] then s2.setReg .ENG_FENCE d kept
  else if [2, 3, 4, 5].all (fun p => cnt p == 0 || s2.withdrawOk p d (1000 * cnt p)) then
    let s3 := [2, 3, 4, 5].foldl (fun (t : State) p => if cnt p = 0 then t else t.withdraw p d (1000 * cnt p)) s2
    let m := add.foldl (fun m n => putBit m n true) kept
    let s4 := add.foldl (fun (t : State) n =>
      let e := d * 16 + n
      (t.setEng e { t.eng e with fenceFrom := some s.absFirst }).setFld Fld.ENG_STAT_STATE e 3) s3
    { (s4.setReg .ENG_FENCE_STAT d m).setReg .ENG_FENCE d m with cap := { s4.cap with engFence := setAt s4.cap.engFence d m } }
  else (s2.setReg .ENG_FENCE_STAT d (kept + 65536)).setReg .ENG_FENCE d kept

/-- ENG_CLR (R229): clears the counters at offsets 0x10 to 0x2C. -/
def State.engClr (s : State) (e : Nat) : State :=
  s.clearRegs [.ENG_CNT_JOBS, .ENG_CNT_CB, .ENG_CNT_ITER, .ENG_CNT_CBFAIL, .ENG_CNT_EXC, .ENG_CNT_FAULT, .ENG_CNT_MISMATCH, .ENG_CNT_CLIP] e

end Sys2Proof.Machine
end

