-- ==== Sys2Proof/Machine/Prach.lean ====
section
/-!
DEFINITION. Arithmetic of the PRACH engines and of SE0: decibels, angles, the roots of TS 38.211 and TS 36.211, the detector of
R258, and the correlations and the signal field of R264 to R269.
-/
namespace Sys2Proof.Machine

/-! ## Decibels and angles -/

/-- log2 of a positive number, with 110 fraction bits. DEDUCED, log entry 12. -/
def log2Fix (n : Nat) : Nat := n.log2 * 2 ^ 110 + log2Bits 300 110 (n * 2 ^ 300 / 2 ^ n.log2) 0

/-- `scale` times log10 of n / d, rounded to the nearest integer; a ratio other than 1 never lies half-way. -/
def log10Scaled (scale n d : Nat) : Int :=
  let x : Int := (scale : Int) * ((log2Fix n : Int) - (log2Fix d : Int))
  let l : Int := (log2Fix 10 : Int)
  (2 * x + l) / (2 * l)

/-- A binary32 value in 1/256 dB (R259); a value that is not positive has no logarithm, and the spec states no result: a free
value of the operand. DESIGN CHOICE, log entry 11. -/
def db256 (x : Nat) : Int :=
  let d := fdec x
  if d.neg ∨ d.m = 0 then Config.dbOfNonPositive x
  else log10Scaled 2560 (d.m * 2 ^ d.e.toNat) (2 ^ (-d.e).toNat)

/-- 10^(x / 80) in binary32 (R258). -/
def pow10by80 (x : Nat) : Nat :=
  let e := x * log2Fix 10 / 80
  (rnMag false (exp2Bits (e % 2 ^ 110) 110 (2 ^ 201) (2 ^ 200)) ((e / 2 ^ 110 : Nat) - 200) true).1

/-- cos and sin of n / d of a turn, in binary32. DEDUCED, log entry 12. -/
def cisTurn (n d : Nat) : Nat × Nat :=
  let m := n % d * 2 ^ 100 / d
  ((cosTurn m 100).1, (sinTurn m 100).1)

/-! ## PRACH roots -/

/-- Every second physical root of length 839 in logical order (TS 38.211, Table 6.3.3.1-3; TS 36.211, Table 5.7.2-4); each is
followed by its complement. PRESUMED, log entry 79. -/
def roots839 : List Nat :=
  [129, 140, 120, 210, 168, 84, 105, 93, 70, 60, 2, 1, 56, 112, 148, 80, 42, 40, 35, 73, 146, 31, 28, 30] ++
  [27, 29, 24, 48, 68, 74, 178, 136, 86, 78, 43, 39, 20, 21, 95, 202, 190, 181, 137, 125, 151, 217, 128, 142] ++
  [122, 203, 118, 110, 89, 103, 61, 55, 15, 14, 12, 23, 34, 37, 46, 207, 179, 145, 130, 223, 228, 227, 132, 133] ++
  [143, 135, 161, 201, 173, 106, 83, 91, 66, 53, 10, 9, 7, 8, 16, 47, 64, 57, 104, 101, 108, 208, 184, 197] ++
  [191, 121, 141, 149, 216, 218, 152, 144, 134, 138, 199, 162, 176, 119, 158, 164, 174, 171, 170, 87, 169, 88, 107, 81] ++
  [82, 100, 98, 71, 59, 65, 50, 49, 26, 17, 13, 6, 5, 33, 51, 75, 99, 96, 97, 166, 172, 175, 187, 163] ++
  [185, 200, 114, 189, 115, 194, 195, 192, 182, 157, 156, 211, 154, 123, 139, 212, 153, 213, 215, 150, 225, 224, 221, 220] ++
  [127, 147, 124, 193, 205, 206, 116, 160, 186, 167, 79, 85, 77, 92, 58, 62, 69, 54, 36, 32, 25, 18, 11, 4] ++
  [3, 19, 22, 41, 38, 44, 52, 45, 63, 67, 72, 76, 94, 102, 90, 109, 165, 111, 209, 204, 117, 188, 159, 198] ++
  [113, 183, 180, 177, 196, 155, 214, 126, 131, 219, 222, 226, 230, 232, 262, 252, 418, 416, 413, 411, 376, 395, 283, 285] ++
  [379, 390, 363, 384, 388, 386, 361, 387, 360, 310, 354, 328, 315, 337, 349, 335, 324, 323, 320, 334, 359, 295, 385, 292] ++
  [291, 381, 399, 380, 397, 369, 377, 410, 407, 281, 414, 247, 277, 271, 272, 264, 259, 237, 239, 244, 243, 275, 278, 250] ++
  [246, 417, 248, 394, 393, 370, 365, 300, 299, 364, 362, 298, 312, 313, 314, 353, 352, 343, 327, 350, 326, 319, 332, 333] ++
  [348, 347, 322, 330, 338, 341, 340, 342, 301, 366, 401, 371, 408, 375, 249, 269, 238, 234, 257, 273, 255, 254, 245, 251] ++
  [412, 372, 282, 403, 396, 392, 391, 382, 389, 294, 297, 311, 344, 345, 318, 331, 325, 321, 346, 339, 351, 306, 289, 400] ++
  [378, 374, 415, 270, 241, 231, 260, 268, 276, 409, 398, 290, 304, 308, 358, 316, 293, 288, 284, 368, 253, 256, 263, 242] ++
  [274, 402, 383, 357, 329, 317, 307, 286, 287, 266, 261, 236, 303, 356, 355, 405, 404, 406, 235, 267, 302, 309, 265, 233] ++
  [367, 296, 336, 305, 373, 280, 279, 419, 240, 258, 229]

/-- The physical root of a logical root (R258): for the short lengths 1, L − 1, 2, L − 2, … PRESUMED, log entry 79. -/
def prachRoot (l logical : Nat) : Nat :=
  let i := logical % (l - 1)
  let u := if l = 839 then natAt roots839 (i / 2) else i / 2 + 1
  if i % 2 = 0 then u else l - u

/-- The inverse of `u` modulo a prime `l`: the number whose product with `u` leaves 1. -/
def invMod (u l : Nat) : Nat := ((List.range l).find? (fun x => u * x % l == 1)).getD 0

/-- conj(X(k)) of the frequency-domain sequence of root `u`, up to a constant phase that |.|² removes, as a numerator over `l` of a
turn: the transform of x_u(i) = exp(−jπ u i (i + 1) / l) is conj(x_u(k / u)) times X(0). DEDUCED, log entry 83. -/
def conjX (u l k : Nat) : Nat :=
  let q := invMod u l * k % l
  l - u * (q * (q + 1) / 2 % l) % l

/-! ## The detector (R258) -/

/-- Sum of complex products y × exp(j2π turn) over (y, numerator over d), each product and each sum in binary32, in order. DEDUCED, log entry 83. -/
def corrSum (d : Nat) (l : List ((Int × Int) × Nat)) : Nat × Nat :=
  l.foldl (fun a x =>
    let w := cisTurn x.2 d
    let yr := (fofInt x.1.1 0).1; let yi := (fofInt x.1.2 0).1
    let re := (fsub (fmul yr w.1).1 (fmul yi w.2).1).1
    let im := (fadd (fmul yr w.2).1 (fmul yi w.1).1).1
    ((fadd a.1 re).1, (fadd a.2 im).1)) (0, 0)

/-- PDP[r][b] for the physical root `u` (R258): `y rep a k` is sample k of repetition `rep` and stream `a`. DEDUCED, log entry 83. -/
def prachPdp (l nRep nIdft nAxc u b : Nat) (y : Nat → Nat → Nat → Int × Int) : Nat :=
  let n := (fofInt (nRep * l : Nat) 0).1
  (List.range nAxc).foldl (fun acc a =>
    let c := corrSum (l * nIdft) ((List.range nRep).flatMap (fun rep => (List.range l).map (fun k =>
      (y rep a k, conjX u l k * nIdft + k * b * l))))
    let re := (fdiv c.1 n).1; let im := (fdiv c.2 n).1
    (fadd acc (fadd (fmul re re).1 (fmul im im).1).1).1) 0

/-! ## Sensing (R264 to R269) -/

/-- |x|² summed over samples. -/
def power (x : List (Int × Int)) : Nat := (x.foldl (fun a v => a + v.1 * v.1 + v.2 * v.2) (0 : Int)).toNat

/-- P16 of a block of 16 samples in 0.5 dB (R264); a silent block has no logarithm: a free value. DESIGN CHOICE, log entry 11. -/
def p16Of (x : List (Int × Int)) : Int :=
  let e := power x
  if e = 0 then Config.silentP16 else log10Scaled 20 e (16 * 2 ^ 31)

/-- A of R266: the sum of r(n) conj(r(n − 16)) over the last 48 of at least 64 samples. -/
def stfA (r : List (Int × Int)) : Int × Int :=
  let k := r.length
  (List.range 48).foldl (fun a i =>
    let x := r.getD (k - 48 + i) (0, 0); let y := r.getD (k - 64 + i) (0, 0)
    (a.1 + x.1 * y.1 + x.2 * y.2, a.2 + x.2 * y.1 - x.1 * y.2)) (0, 0)

/-- stf_corr = |A| / E is at least q / 256. -/
def stfQualifies (r : List (Int × Int)) (q : Nat) : Bool :=
  let a := stfA r
  let e := power (r.drop (r.length - 48))
  decide (q ^ 2 * e ^ 2 ≤ (256 ^ 2 * (a.1 * a.1 + a.2 * a.2)).toNat) && e != 0

/-- angle(A) × 20e6 / (2π × 16) in Hz, rounded down or up as the free bit `up` says (R268). DEDUCED, log entry 66. -/
def cfoOf (a : Int × Int) (up : Nat) : Int :=
  let d := fun (v : Int) => (⟨decide (v < 0), v.natAbs, 0⟩ : Dy)
  let t := fdec (atanTurn (d a.2) (d a.1)).1
  let n : Int := (if t.neg then -1 else 1) * (t.m * 1250000 : Nat)
  let k := 2 ^ (-t.e).toNat
  let q := n / (k : Nat)
  clampI (-625000) 625000 (if n % (k : Nat) = 0 then q else q + (up : Int))

/-! ### The signal field (R269) -/

/-- Output bits of the rate-1/2 code (generators 133 and 171, octal) from six past bits, newest first, and an input bit. PRESUMED, log entry 84. -/
def convOut (st b : Nat) : Nat × Nat :=
  let w := b * 64 + st
  let par := fun g => (List.range 7).foldl (fun a i => (a + bits w i i * bits g i i) % 2) 0
  (par 0b1011011, par 0b1111001)

/-- A survivor of the Viterbi decoder: metric and decided bits, newest first. -/
structure Survivor where
  metric : Int
  path : List Nat
  deriving DecidableEq, Repr, Inhabited

/-- One step of the decoder over two received soft values, positive for a 0; of equal metrics the lower predecessor survives. -/
def viterbiStep (sv : List (Option Survivor)) (a b : Int) : List (Option Survivor) :=
  (List.range 64).map (fun st =>
    let inp := st / 32
    [0, 1].foldl (fun (best : Option Survivor) low =>
      let prev := st % 32 * 2 + low
      match sv.getD prev none with
      | none => best
      | some v =>
        let o := convOut prev inp
        let m := v.metric + (if o.1 = 0 then a else -a) + (if o.2 = 0 then b else -b)
        match best with
        | some w => if w.metric < m then some ⟨m, inp :: v.path⟩ else best
        | none => some ⟨m, inp :: v.path⟩) none)

/-- Viterbi decoding of soft pairs from state 0; the best final state wins. DEDUCED, log entry 66. -/
def viterbi (l : List (Int × Int)) : List Nat :=
  let fin := l.foldl (fun sv x => viterbiStep sv x.1 x.2)
    ((List.range 64).map (fun st => if st = 0 then some ⟨0, []⟩ else none))
  let best := fin.foldl (fun (b : Option Survivor) x => match b, x with
    | none, y => y
    | some v, some y => if v.metric < y.metric then some y else b
    | b, none => b) none
  (best.getD ⟨0, []⟩).path.reverse

/-- The 24 bits of the L-SIG from its 48 equalised BPSK values in subcarrier order, as a number with bit 0 first: the interleaver of
IEEE 802.11-2020 clause 17.3.5.7 is undone, and the code decoded. A positive value stands for −1, a transmitted 0. PRESUMED, log entry 84. -/
def lsigField (soft : List Int) : Nat :=
  let c := (List.range 48).map (fun k => soft.getD (3 * (k % 16) + k / 16) 0)
  let d := viterbi ((List.range 24).map (fun i => (c.getD (2 * i) 0, c.getD (2 * i + 1) 0)))
  d.foldr (fun b a => b + 2 * a) 0

end Sys2Proof.Machine
end

