-- ==== Sys2Proof/Machine/Access.lean ====
section
/-!
DEFINITION. The PRACH engines (R251 to R262), the sensing engine SE0 (R263 to R272), and the listen-before-talk jobs and
gates (R273 to R275).
-/
namespace Sys2Proof.Machine

def State.px (s : State) (n : Nat) : Px := Sparse.get {} s.pxs n
def State.setPx (s : State) (n : Nat) (x : Px) : State := { s with pxs := Sparse.set {} s.pxs n x }

/-! ## Jobs of PX0 to PX3 (n = 0 to 3) and SE0 (n = 4) -/

/-- PRACH format figures (Table 10.1): L_RA by (format, LRA), N_REP, N_IDFT, Δf_RA in Hz. -/
def prachLra (f lra : Nat) : Nat :=
  if f ≤ 3 ∨ (0x10 ≤ f ∧ f ≤ 0x13) then 839 else if f = 0x14 then 139 else natAt [139, 571, 1151] lra
def prachRep (f : Nat) : Nat :=
  if f ≤ 0xC then natAt [1, 2, 4, 4, 2, 4, 6, 2, 4, 6, 12, 1, 4] f else natAt [1, 1, 2, 2, 1] (f - 0x10)
def prachIdft (f lra : Nat) : Nat :=
  if prachLra f lra = 839 then 1024 else natAt [256, 1024, 2048] (if f = 0x14 then 0 else lra)
def prachDf (f mu : Nat) : Nat :=
  if f = 3 then 5000 else if f < 3 ∨ (0x10 ≤ f ∧ f ≤ 0x13) then 1250 else if f = 0x14 then 7500 else 15000 * 2 ^ mu

/-- The figures of an occasion's entry (Tables 3.5 and 10.2). -/
structure Prach where
  root : Nat
  ncs : Nat
  fmt : Nat
  lra : Nat
  rep : Nat
  idft : Nat
  df : Nat
  npre : Nat
  thrE : Nat
  thrQ : Nat
  deriving DecidableEq, Repr

def prachOf (e : List Byte) : Prach :=
  let f := u8 e 12 % 32; let l := u8 e 12 / 32 % 4
  ⟨u16 e 8 % 1024, u16 e 10 % 1024, f, prachLra f l, prachRep f, prachIdft f l, prachDf f (u8 e 13 % 4), u8 e 14 % 128, u8 e 15, u8 e 16⟩
def Prach.nv (p : Prach) : Nat := if p.ncs = 0 then 1 else p.lra / p.ncs
def Prach.nRoot (p : Prach) : Nat := ceilDiv p.npre p.nv
def Prach.w (p : Prach) : Nat := if p.ncs = 0 then p.idft else ceilDiv (p.ncs * p.idft) p.lra

/-- Insertion sort of binary32 patterns of non-negative values, which order as numbers. -/
def insertNat (x : Nat) : List Nat → List Nat
  | [] => [x]
  | y :: r => if x ≤ y then x :: y :: r else y :: insertNat x r
def sortNat (l : List Nat) : List Nat := l.foldr insertNat []

/-- One reported preamble: its record (Table 10.3). -/
def prachRecord (p : Prach) (mu nAxc v c sig ew pk b : Nat) : List Byte :=
  -- delay in units of 1/L_RA of a bin, rounded half up
  let num : Int := ((b * p.lra : Nat) - (c * p.idft : Nat) : Int) * 1966080000
  let den : Nat := p.lra * p.idft * p.df
  let delay : Int := (2 * num + den) / (2 * den : Nat)
  let ta : Int := min ((2 * delay + (1024 / 2 ^ mu : Nat)) / (2 * (1024 / 2 ^ mu) : Nat)) 65535
  let f := fun n => (fofInt (n : Nat) 0).1
  let ws := (fmul (f p.w) sig).1
  let pow := (fdiv (fmul (f p.lra) (fsub ew ws).1).1 (fmul (f (p.idft * nAxc)) (f (2 ^ 31))).1).1
  leBytes 1 v ++ zeros 1 ++ leBytes 2 (enc 16 ta) ++ leBytes 4 (enc 32 delay) ++ leBytes 2 (enc 16 (db256 pow))
    ++ leBytes 2 (enc 16 (db256 (fdiv ew ws).1)) ++ leBytes 2 (enc 16 (db256 (fdiv (fmul pk (f p.w)).1 ew).1))
    ++ leBytes 2 (b % p.idft)

/-- prach_job of R258 and the result data of Table 10.3. -/
def prachData (e : List Byte) (mu nAxc : Nat) (samples : List Byte) : List Byte × Nat :=
  let p := prachOf e
  let nk := ceilDiv p.lra 16 * 16
  let y := fun l a k => let o := ((l * nAxc + a) * nk + k) * 4; (sext 16 (u16 samples o), sext 16 (u16 samples (o + 2)))
  let pdp := fun r b => prachPdp p.lra p.rep p.idft nAxc (prachRoot p.lra (p.root + r)) b y
  let all := sortNat ((List.range p.nRoot).flatMap (fun r => (List.range p.idft).map (pdp r)))
  let sig := (fdiv (natAt all ((all.length - 1) / 2)) 0x3F317218).1      -- divided by ln 2
  let f := fun n => (fofInt (n : Nat) 0).1
  let found := (List.range p.npre).filterMap (fun v =>
    let r := v / p.nv; let c := v % p.nv * p.ncs
    let s0 := ceilDiv (c * p.idft) p.lra
    let terms := (List.range p.w).map (fun i => pdp r ((s0 + i) % p.idft))
    let ew := terms.foldl (fun a x => (fadd a x).1) 0
    let pk := terms.foldl max 0
    let ip := (terms.findIdx? (· == pk)).getD 0
    if (fmul (fmul (f p.w) sig).1 (pow10by80 p.thrE)).1 ≤ ew ∧ (fmul ew (pow10by80 p.thrQ)).1 ≤ (fmul pk (f p.w)).1
    then some (prachRecord p mu nAxc v c sig ew pk (s0 + ip)) else none)
  let noise := db256 (fdiv (fmul sig (f (p.rep * p.lra))).1 (fmul (f nAxc) (f (2 ^ 31))).1).1
  (leBytes 1 found.length ++ leBytes 1 p.fmt ++ leBytes 2 (enc 16 noise) ++ leBytes 2 p.nRoot ++ zeros 10 ++ found.flatten, found.length)

/-- The job of PX n or SE0 starts. -/
def State.pxStart (s : State) (n : Nat) (c : Curd) : State :=
  let p := s.caveRead c.args 64
  let s1 := (s.modCurd c.addr (fun x => { x with arg := p })).setPx n { s.px n with curd := some c.addr }
  if n < 4 then ((s1.setReg .PX_STAT n 2).setReg .PX_CUR n c.handle).bump .PX_CNT_JOBS n else s1.bump .SE_J_JOBS

/-- The job leaves the engine. -/
def State.pxEnd (s : State) (n st : Nat) : State :=
  let s1 := match (s.px n).curd with | some a => s.endCurd a st | none => s
  let s2 := s1.setPx n { s.px n with curd := none }
  if n < 4 then (s2.setReg .PX_STAT n (if bitAt (s.fld Fld.PX_FENCE_STAT_FENCED) n then 3 else 1)).setReg .PX_CUR n 0 else s2

/-- A cause of Table 8.6 in PX_EXC or SE_J_EXC (R262). -/
def State.pxFail (s : State) (n cause : Nat) : State :=
  let h := match (s.px n).curd.bind s.curdAt with | some c => c.handle | none => 0
  let s1 := if n < 4 then ((s.setReg .PX_EXC n cause).setReg .PX_EXC_HANDLE n h).bump .PX_CNT_EXC n else s.setReg .SE_J_EXC 0 cause
  s1.pxEnd n 0x12

def State.pxStop (s : State) (n st : Nat) : State := if (s.px n).curd.isSome then s.pxEnd n st else s

/-- An internal fault of PX n or SE0 (R262). -/
def State.pxFault (s : State) (n : Nat) : State :=
  if (s.px n).resetting then s
  else
    let s1 := if (s.px n).curd.isSome then s.pxFail n 4 else s
    (s1.setPx n { s1.px n with resetting := true }).event 0x0012 2 4 (448 + n)

/-- PRACH_JOB_END (R258 to R260). -/
def execPrachJobEnd (engine : Fin 4) (s : State) : Host.Outcome State Fault Refusal :=
  let n := engine.val
  .next (match (s.px n).curd.bind s.curdAt with
    | none => s
    | some c =>
      let e := c.arg.take 32
      let grid := u64 c.arg 32; let nAxc := u16 c.arg 40; let mu := u8 c.arg 42; let out := u64 c.arg 48
      let p := prachOf e
      let len := p.rep * nAxc * (ceilDiv p.lra 16 * 16) * 4
      -- an unmapped address ends the job, with no cause of Table 8.6 (R88)
      if !caveSpan c.args 64 || !caveSpan grid len then s.pxEnd n 0x12
      else if !s.rangeOk 0 c.args 64 then (s.readBad 0 c.args 64 4 (448 + n) c.handle).pxFail n 2
      else if !s.rangeOk 0 grid len then (s.readBad 0 grid len 4 (448 + n) c.handle).pxFail n 2
      else
        let r := prachData e mu nAxc (s.caveRead grid len)
        if !s.dstOk c.handle (0, out) r.1.length then s.pxFail n 3
        else
          let s1 := (s.readRange 0 grid len 4 0 (448 + n) c.handle).hubWrite c.handle out (448 + n) r.1
          (s1.bump .PX_CNT_DET n r.2).pxEnd n 0x10)

/-- A write of PX_FENCE (R262, as R228 on the PRACH pool). -/
def State.pxFence (s : State) (v : Nat) : State :=
  let req := v % 16
  let now := s.fld Fld.PX_FENCE_STAT_FENCED
  let add := (maskList req 4).filter (fun n => !bitAt now n)
  let drop := (List.range 4).filter (fun n => bitAt now n && !bitAt req n)
  let kept := drop.foldl (fun m n => putBit m n false) now
  let s1 := drop.foldl (fun (t : State) n =>
    (t.setPx n { t.px n with fenceFrom := none, freeFrom := s.tm.absGrain + 1 }).setReg .PX_STAT n (if (t.px n).curd.isSome then 2 else 1)) s
  let s2 := { s1.setReg .PX_FENCE_STAT 0 kept with cap := { s1.cap with pxFence := kept } }
  if add = [] then s2.setReg .PX_FENCE 0 kept
  else if s2.withdrawOk 0xC 0 (1000 * add.length) then
    let m := add.foldl (fun m n => putBit m n true) kept
    let s3 := add.foldl (fun (t : State) n =>
      (t.setPx n { t.px n with fenceFrom := some s.absFirst }).setReg .PX_STAT n 3) (s2.withdraw 0xC 0 (1000 * add.length))
    { (s3.setReg .PX_FENCE_STAT 0 m).setReg .PX_FENCE 0 m with cap := { s3.cap with pxFence := m } }
  else (s2.setReg .PX_FENCE_STAT 0 (kept + 16)).setReg .PX_FENCE 0 kept

/-- PRACH_FENCE (R262). -/
def execPrachFence (value : Word) (src : Source) (s : State) : Host.Outcome State Fault Refusal := .next (s.busGate (RegId.offset .PX_FENCE 0) src (s.pxFence value.toNat))

/-- PX_CLR (R277): clears the engine's counters. -/
def State.pxClr (s : State) (n : Nat) : State := s.clearRegs [.PX_CNT_JOBS, .PX_CNT_DET, .PX_CNT_EXC] n
def execPxClr (engine : Fin 4) (src : Source) (s : State) : Host.Outcome State Fault Refusal := .next (s.busGate (RegId.offset .PX_CLR engine.val) src (s.pxClr engine.val))

/-- SP_CLR_STATS (R277): clears every counter of the block. -/
def State.spClr (s : State) : State :=
  let s1 := s.clearRegs [.SE_LOG_DROPS, .SE_J_JOBS, .SE_J_GRANTS]
  let s2 := (List.range 32).foldl (fun (t : State) n => (t.clearRegs
    [.SE_S_STARTS, .SE_S_FALSE_DET, .SE_S_CAPTURED, .SE_S_NO_QUAL, .SE_S_SIG_FAIL, .SE_S_GAPS, .SE_S_BUSY_SLOTS] n).setReg .SE_G_HELD n 0) s1
  (List.range 4).foldl (fun t n => t.pxClr n) s2
def execSpClrStats (src : Source) (s : State) : Host.Outcome State Fault Refusal := .next (s.busGate (RegId.offset .SP_CTRL 0) src s.spClr)

/-! ## Sensing streams -/

def State.stream (s : State) (n : Nat) : SeStream := Sparse.get {} s.streams n
def State.setStream (s : State) (n : Nat) (x : SeStream) : State := { s with streams := Sparse.set {} s.streams n x }
/-- SE_S_STAT.STATE: 0 OFF, 1 IDLE, 2 UNCONFIRMED, 3 CONFIRMED, 4 RECEIVING. -/
def State.seState (s : State) (n : Nat) : Nat := s.fld Fld.SE_S_STAT_STATE n
def State.setSeState (s : State) (n v : Nat) : State := s.setFld Fld.SE_S_STAT_STATE n v
/-- A signed 8-bit register field in 0.5 dB. -/
def State.db (s : State) (f : Fld) : Int := sext 8 (s.fld f)

/-- The counter of a logged event (R266). -/
def seCounter (ev : Nat) : Option RegId :=
  match ev with
  | 1 => some .SE_S_STARTS | 3 => some .SE_S_FALSE_DET | 4 => some .SE_S_CAPTURED
  | 5 => some .SE_S_NO_QUAL | 6 => some .SE_S_SIG_FAIL | 7 => some .SE_S_GAPS | _ => none

/-- A sensing record into the host ring, or counted as dropped (R271, Table 10.4). -/
def State.seRecord (s : State) (r : List Byte) : State :=
  let d := s.fld Fld.SE_LOG_CFG_DEPTH_LOG2
  let m := 2 ^ (d + 1)
  let h := s.reg .SE_LOG_HEAD; let t := s.reg .SE_LOG_TAIL
  if s.fld Fld.SE_LOG_CFG_ENABLE = 0 ∨ 2 ^ d ≤ (t + m - h % m) % m then s.bump .SE_LOG_DROPS
  else
    (s.hostWrite 0 (s.reg2 .SE_LOG_LO .SE_LOG_HI + t % 2 ^ d * 32) r).setReg .SE_LOG_TAIL 0 ((t + 1) % m)

/-- `log` of R266: the record and the counter of the same name. -/
def State.seLog (s : State) (n ev at' : Nat) : State :=
  let x := s.stream n
  let p := if ev = 1 ∨ ev = 2 ∨ ev = 4 then x.pPkt else x.pRef
  let tx := match x.fin with | some e => if x.sigOk then e - x.start else 0 | none => 0
  let e := leBytes 8 at' ++ leBytes 1 n ++ leBytes 1 ev ++ leBytes 1 (if x.sigOk then x.rate else 0) ++ leBytes 1 (b2n x.sigOk)
    ++ leBytes 2 (if x.sigOk then x.len else 0) ++ leBytes 2 (enc 16 (p * 128)) ++ leBytes 4 tx
    ++ leBytes 4 (s.reg .SE_S_CFO n) ++ leBytes 8 (if x.sigOk then x.fin.getD 0 else 0)
  let s1 := match seCounter ev with | some r => s.bump r n | none => s
  s1.seRecord e

def State.setGain (s : State) (n : Nat) (p : Int) : State :=
  s.setFld Fld.SE_S_STAT_GAIN n (enc 8 (clampI (s.db Fld.SE_AGC_GAIN_MIN) (s.db Fld.SE_AGC_GAIN_MAX) (s.db Fld.SE_AGC_TARGET - p)))

/-- trigger of R266. -/
def State.seTrigger (s : State) (n : Nat) (p : Int) : State :=
  let x := s.stream n
  ((s.setStream n { x with
    blk := 0, pRef := p, corr := 0, frozen := false, search := none, fin := none, sigOk := false }).setSeState n 2).setGain n p

/-- idle of R266. -/
def State.seIdle (s : State) (n : Nat) : State :=
  (s.setStream n { s.stream n with corr := 0, frozen := false, search := none }).setSeState n 1

/-- agc of R265. -/
def State.seAgc (s : State) (n : Nat) (p : Int) : State :=
  let g := sext 8 (s.fld Fld.SE_S_STAT_GAIN n)
  let st : Int := s.fld Fld.SE_AGC_STEP
  s.setFld Fld.SE_S_STAT_GAIN n (enc 8 (clampI (s.db Fld.SE_AGC_GAIN_MIN) (s.db Fld.SE_AGC_GAIN_MAX)
    (g + clampI (-st) st (s.db Fld.SE_AGC_TARGET - p - g))))

/-- block of R266: `p` is P16 in 0.5 dB, `r` the last samples at 20 MS/s, `fin` the block end in ns. DEDUCED, log entry 66. -/
def State.seBlock (s : State) (n : Nat) (p : Int) (r : List (Int × Int)) (fin : Nat) : State :=
  let x := s.stream n
  let st := s.seState n
  let thr := s.db Fld.SE_DET_DET_THR
  if st = 1 then (if thr ≤ p then s.seTrigger n p else s.seAgc n p)
  else if st = 2 then
    let b := x.blk + 1
    let s1 := s.setStream n { x with blk := b }
    if b = 1 then
      let m := max x.pRef p
      (s1.setStream n { x with blk := b, pRef := m, frozen := true }).setGain n m
    else if (s.fld Fld.SE_DET_RE_ARM_DB : Int) ≤ p - x.pRef then (s1.seLog n 3 fin).seTrigger n p
    else if 3 ≤ b ∧ stfQualifies r (s.fld Fld.SE_DET_QUAL_THR) = true then
      let cfo := cfoOf (stfA r) (s.pick 2)
      (((s1.setStream n { x with blk := b, pPkt := x.pRef, corr := cfo, search := some 0, fin := none, sigOk := false }).setSeState n 3).setReg
        .SE_S_CFO n (enc 32 cfo)).used
    else if b = 12 then (s1.seLog n 5 fin).seIdle n
    else s1
  else if st = 3 ∨ st = 4 then
    if (s.fld Fld.SE_DET_CAPTURE_DB : Int) ≤ p - x.pPkt then (s.seLog n 4 fin).seTrigger n p
    else if st == 4 && (match x.fin with | some e => decide (e ≤ fin) | none => decide (p < thr ∧ x.prevP < thr)) then (s.seLog n 2 fin).seIdle n
    else match x.search with
      | some k =>
        -- R269: no accepted field within 24 blocks of confirmation
        if 24 ≤ k + 1 then
          let s1 := s.setStream n { x with search := none, fin := none, sigOk := false }
          (s1.seLog n 6 fin).setSeState n 4
        else s.setStream n { x with search := some (k + 1) }
      | none => s
  else s

/-- Notes a block for the slots of R272: one that lies wholly within a slot and reached ED_THR, and the stream's activity at its end. -/
def SeStream.note (x : SeStream) (hot active : Bool) (fin : Nat) : SeStream :=
  let k := (fin - 1) / 9000
  let whole := decide (k * 9000 ≤ fin - 800)
  let upd := fun (l : List SlotAcc) (k : Nat) (f : SlotAcc → SlotAcc) =>
    (if l.any (fun a => a.slot == k) then l else l ++ [{ slot := k }]).map (fun a => if a.slot = k then f a else a)
  let acc := upd x.acc k (fun a => { a with hot := a.hot + b2n (hot && whole) })
  { x with acc := upd acc (fin / 9000) (fun a => { a with active := a.active || active }) }

/-- Samples of a stream's rate up to the end of its `b`-th block, whole ones. -/
def blockEdge (rate b : Nat) : Nat := b * 24576 * 2 ^ rate / 1000

/-- Time from one sample to the next, in 1/384 ns (R263). -/
def sampleUnits (rate : Nat) : Nat := 12500 / 2 ^ rate

/-- SENSE_BLOCK (R264 to R268): the stream's next block, once its samples have come, is rotated by −(CENTER + CORR), resampled,
measured, and taken by the state machine; a correction found now acts from the next block on. DEDUCED, log entry 66. -/
def State.senseBlock (s : State) (n : Nat) : State :=
  let x := s.stream n
  let rate := s.fld Fld.SE_S_CFG_RATE n
  let need := blockEdge rate (x.blocks + 1) - blockEdge rate x.blocks
  if s.seState n = 0 ∨ x.raw.length < need then s
  else
    let mine := x.raw.take need
    let fin := (((mine.getLast?.map Prod.fst).getD 0 + (sampleUnits rate : Int)) / 384).toNat
    let y := (Config.seFront rate (-(sext 32 (s.reg .SE_S_CENTER n) + x.corr)) x.taken (mine.map Prod.snd) ++ List.replicate 16 (0, 0)).take 16
    let r := (x.hist ++ y).drop (x.hist.length + 16 - 64)
    let p := p16Of y
    let t := (s.setStream n { x with
      raw := x.raw.drop need, taken := x.taken + need, blocks := x.blocks + 1, hist := r, last := fin }).seBlock n p r fin
    t.setStream n ({ t.stream n with prevP := p }.note (decide (s.db Fld.SE_ED_ED_THR ≤ p)) (decide (2 ≤ t.seState n)) fin)

def execSenseBlock (stream : Fin 32) (s : State) : Host.Outcome State Fault Refusal := .next (s.senseBlock stream.val)

/-- N_DBPS of a RATE code (R269), 0 for a code not listed. -/
def ndbps (rate : Nat) : Nat :=
  match rate with
  | 0b1101 => 24 | 0b1111 => 36 | 0b0101 => 48 | 0b0111 => 72 | 0b1001 => 96 | 0b1011 => 144 | 0b0001 => 192 | 0b0011 => 216 | _ => 0

/-- A span overlaps slot `k`. -/
def overSlot (k : Nat) (sp : Nat × Nat) : Bool := decide (sp.1 < (k + 1) * 9000 ∧ k * 9000 < sp.2)

/-- Slots recorded IDLE that a span covers take state `v`, and count as slots that are not idle (R272). -/
def State.reviseSlots (s : State) (n : Nat) (sp : Nat × Nat) (v : Nat) : State :=
  let x := s.stream n
  let hit := fun (e : Nat × Nat) => (e.2 == 0 || v == 2) && overSlot e.1 sp
  (s.setStream n { x with slots := x.slots.map (fun e => if hit e then (e.1, v) else e) }).bump .SE_S_BUSY_SLOTS n
    (x.slots.filter (fun e => e.2 == 0 && hit e)).length

/-- LSIG_DECODED (R269): `soft` holds the 48 values of the signal field's subcarriers after equalising, positive for a transmitted 0,
and `ltf` the start of the L-LTF in ns; the search and the equaliser are the implementation's. RATE's R1 is bit 0 of the field and
LENGTH bits 5 to 16. DEDUCED, log entry 66. -/
def State.lsigDecoded (s : State) (n : Nat) (soft : List Int) (ltf : Nat) : State :=
  let f := lsigField soft
  let x := s.stream n
  let rate := (List.range 4).foldl (fun a i => 2 * a + b2n (bitAt f i)) 0
  let len := bits f 16 5
  if s.seState n = 3 ∧ x.search.isSome ∧ popCount f 18 % 2 = 0 ∧ ndbps rate ≠ 0 ∧ bits f 23 18 = 0 then
    let start := ltf - 8000
    let fin := start + 20000 + 4000 * ceilDiv (22 + 8 * len) (ndbps rate)
    let s1 := (((s.setStream n { x with search := none, start := start, fin := some fin, rate := rate, len := len, sigOk := true, navs := x.navs ++ [(start, fin)] }).seLog
      n 1 x.last).setSeState n 4)
    if s.fld Fld.SE_ED_NAV_EN = 1 then s1.reviseSlots n (start, fin) 1 else s1
  else s

def execLsigDecoded (stream : Fin 32) (soft : List Int) (ltf : Nat) (s : State) : Host.Outcome State Fault Refusal :=
  .next (s.lsigDecoded stream.val soft ltf)

/-- SENSE_GAP (R270): a gap from air time `lo` to `hi`, in ns: the slots it covers are UNKNOWN, those recorded already too; sensing
resumes with the samples that follow. -/
def State.seGap (s : State) (n lo hi : Nat) : State :=
  if s.seState n = 0 then s
  else
    let s1 := ((s.seLog n 7 lo).seIdle n).reviseSlots n (lo, hi) 2
    s1.setStream n { s1.stream n with gaps := (s1.stream n).gaps ++ [(lo, hi)], raw := [], taken := 0, blocks := 0, hist := [] }
def execSenseGap (stream : Fin 32) (lo hi : Nat) (s : State) : Host.Outcome State Fault Refusal := .next (s.seGap stream.val lo hi)

/-- The samples of an eCPRI message that arrived at ns `at'`, `gap` sequence numbers after the last (R263, R270): their air time is
the arrival less LAT_NS, and the rate's spacing. Samples later than 20 µs after their air time are a gap themselves. -/
def State.seSamples (s : State) (n at' gap : Nat) (b : List Byte) : State :=
  if s.seState n = 0 then s
  else
    let lat := s.fld Fld.SE_S_LAT_LAT_NS n
    let rate := s.fld Fld.SE_S_CFG_RATE n
    let t0 : Int := 384 * ((at' : Int) - (lat : Int))
    let new := (List.range (b.length / 4)).map (fun i =>
      (t0 + (i * sampleUnits rate : Nat), sext 16 (beAt b (4 * i) 2), sext 16 (beAt b (4 * i + 2) 2)))
    let x := s.stream n
    let lo := (match x.raw.getLast? with | some e => e.1 / 384 | none => (x.last : Int)).toNat
    let s1 := if gap = 0 then s else s.seGap n lo (t0 / 384).toNat
    if 20000 < lat then s1.seGap n (t0 / 384).toNat ((t0 + (new.length * sampleUnits rate : Nat)) / 384).toNat
    else s1.setStream n { s1.stream n with raw := (s1.stream n).raw ++ new }

/-- SENSING_SLOT_END (R272): the state of slot `k` is recorded. -/
def execSensingSlotEnd (stream : Fin 32) (k : Nat) (s : State) : Host.Outcome State Fault Refusal :=
  let n := stream.val; let x := s.stream n
  let a := (x.acc.find? (fun a => a.slot == k)).getD {  slot := k }
  let nav := s.fld Fld.SE_ED_NAV_EN == 1 && x.navs.any (overSlot k)
  let v : Nat := if s.seState n = 0 ∨ x.gaps.any (overSlot k) then 2 else if 5 ≤ a.hot ∨ a.active ∨ nav then 1 else 0
  let y := { x with
    slots := (x.slots ++ [(k, v)]).drop (x.slots.length + 1 - 1024)
    acc := x.acc.filter (fun a => decide (k < a.slot))
    navs := x.navs.filter (fun w => decide (k * 9000 < w.2))
    gaps := x.gaps.filter (fun w => decide (k * 9000 < w.2)) }
  .next (let t := s.setStream n y
    if v = 0 then t else t.bump .SE_S_BUSY_SLOTS n)

/-! ## Listen before talk -/

/-- Slot `k` of a stream is idle: recorded IDLE. -/
def SeStream.idleSlot (x : SeStream) (k : Nat) : Bool := x.slots.any (fun e => e.1 == k && e.2 == 0)
def SeStream.idleRun (x : SeStream) (lo hi : Nat) : Bool := (List.range (hi - lo)).all (fun i => x.idleSlot (lo + i))

/-- The Type 1 loop of R274. -/
def lbtLoop (x : SeStream) (td kk : Nat) : Nat → Nat → Nat → Bool → Nat
  | 0, _, c, _ => c
  | fuel + 1, k, c, deferred =>
    if kk ≤ k ∨ c = 0 then c
    else if !deferred then
      if k + td ≤ kk ∧ x.idleRun k (k + td) then lbtLoop x td kk fuel (k + td) c true else lbtLoop x td kk fuel (k + 1) c false
    else if x.idleSlot k then lbtLoop x td kk fuel (k + 1) (c - 1) true
    else lbtLoop x td kk fuel (k + 1) c false

/-- channel_ok of R274. -/
def channelOk (x : SeStream) (type mp cnt kk k0 : Nat) : Bool :=
  let td := 2 + mp
  if type = 2 then x.idleRun (kk - 3) kk
  else if type = 3 then x.idleRun (kk - 2) kk
  else lbtLoop x td kk 1100 (max k0 (kk - 1024)) cnt false == 0 && x.idleRun (kk - td) kk

/-- A valid LBT descriptor (Table 10.5, R274). -/
def lbtOk (p : List Byte) : Bool :=
  u8 p 0 == 7 && decide (1 ≤ u8 p 1 ∧ u8 p 1 ≤ 3) && u8 p 2 ≤ 7 && u8 p 3 == 0 && u32 p 4 != 0 && u16 p 8 ≤ 1023 && u16 p 10 == 0
  && stampOk (u32 p 12) && stampOk (u32 p 16) && u32 p 20 == 0 && engAddrOk (u64 p 24) && allZero (slice p 32 32)

/-- LBT_JOB_END (R274, R275). -/
def execLbtJobEnd (s : State) : Host.Outcome State Fault Refusal :=
  .next (match (s.px 4).curd.bind s.curdAt with
    | none => s
    | some c =>
      let p := c.arg
      if !caveSpan c.args 64 then s.pxEnd 4 0x12      -- R88
      else if !s.rangeOk 0 c.args 64 then (s.readBad 0 c.args 64 4 452 c.handle).pxFail 4 2
      else if !lbtOk p then s.pxFail 4 1
      else
        let kk := s.stampNs c.startStamp / 9000
        let k0 := s.stampNs (u32 p 12) / 9000
        let gs := maskList (u32 p 4) 32
        let bad := gs.filter (fun n => !channelOk (s.stream n) (u8 p 1) (u8 p 2) (u16 p 8) kk k0)
        let ok := bad == []
        let out := u64 p 24
        if !s.dstOk c.handle (0, out) 16 then s.pxFail 4 3
        else
          let e := leBytes 1 (b2n ok) ++ leBytes 1 (u8 p 1) ++ zeros 2 ++ leBytes 4 (bad.foldl (fun m n => m + 2 ^ n) 0)
            ++ leBytes 4 c.startStamp ++ zeros 4
          let s1 := s.hubWrite c.handle out 452 e
          let s2 := if ok then
              gs.foldl (fun (t : State) n =>
                ({ t with gates := Sparse.set {} t.gates n ⟨t.reg .SE_G_WIN n, some s.tm.absGrain⟩ }).setReg .SE_G_WIN n (u32 p 16))
                (s1.bump .SE_J_GRANTS)
            else s1
          s2.pxEnd 4 0x10)

/-- T_AIR of gate `n` as egress sees it in this grain: an update of this grain is not yet seen (R273). DEDUCED, log entry 66. -/
def State.gateAir (s : State) (n : Nat) : Nat :=
  let g := Sparse.get {} s.gates n
  if g.stamp = some s.tm.absGrain then g.air else s.reg .SE_G_WIN n

/-- An enabled gate covers AxC `a`. -/
def State.gateCovers (s : State) (n a : Nat) : Bool :=
  s.fld Fld.SE_G_CFG_EN n == 1 && decide (s.fld Fld.SE_G_CFG_FIRST_AXC n ≤ a ∧ a < s.fld Fld.SE_G_CFG_FIRST_AXC n + s.fld Fld.SE_G_CFG_N_AXC n)

/-- The first gate that holds a frame of AxC `a` whose symbol starts on air at `air` ns (R273). DEDUCED, log entry 66. -/
def State.gateHolds (s : State) (a air : Nat) : Option Nat :=
  (List.range 32).find? (fun n => s.gateCovers n a && (
    s.gateAir n == 0 || !(let t := s.stampNs (s.gateAir n); decide (t ≤ air ∧ air < t + 1000 * s.fld Fld.SE_G_COT_COT_US n))))

/-- SE_LOG_HEAD_WRITE (R277): the consumer index moves within the occupancy, or the write is discarded. -/
def State.seLogHead (s : State) (v : Nat) (src : Source) : State :=
  let m := 2 ^ (s.fld Fld.SE_LOG_CFG_DEPTH_LOG2 + 1)
  let h := s.reg .SE_LOG_HEAD % m; let t := s.reg .SE_LOG_TAIL % m
  if v < m ∧ (v + m - h) % m ≤ (t + m - h) % m then s.setReg .SE_LOG_HEAD 0 v else s.werrReg .SE_LOG_HEAD 0 src
def execSeLogHeadWrite (value : Word) (src : Source) (s : State) : Host.Outcome State Fault Refusal := .next (s.busGate (RegId.offset .SE_LOG_HEAD 0) src (s.seLogHead value.toNat src))

end Sys2Proof.Machine
end

