-- ==== Sys2Proof/Machine/Lanes.lean ====
section
/-!
DEFINITION. The serial lanes (R338 to R349): lane groups, alignment, power states, margin tests and counters.
-/
namespace Sys2Proof.Machine

/-! ## Lane groups (Tables 11.1 and 13.1) -/

/-- Lanes of fronthaul port `p` in a mode. -/
def fhLanes (p mode : Nat) : List Nat :=
  if mode = 1 then [2 * p] else if mode = 2 then [2 * p, 2 * p + 1] else if mode = 3 then (List.range 4).map (2 * p + ·) else []
/-- Lanes of fabric link `n`. -/
def flLanes (n : Nat) : List Nat := (List.range 8).map (32 + 8 * n + ·)
/-- The fabric link a lane belongs to. -/
def laneLink (i : Nat) : Option Nat := if 32 ≤ i ∧ i < 128 then some ((i - 32) / 8) else none

def State.lane (s : State) (i : Nat) : LaneSt := Sparse.get {} s.lanes i
def State.setLane (s : State) (i : Nat) (x : LaneSt) : State := { s with lanes := Sparse.set {} s.lanes i x }

/-- The lane is in ON. -/
def State.laneUp (s : State) (i : Nat) : Bool := s.fld Fld.LN_STAT_PWR_STATE i == 0

/-- The port or link that owns a lane runs (R339). -/
def State.laneOwnerRuns (s : State) (i : Nat) : Bool :=
  if i < 32 then (List.range 16).any (fun p => s.fld Fld.FH_STAT_STATE p != 0 && (fhLanes p (s.fld Fld.FH_CFG_MODE p)).contains i)
  else match laneLink i with
    | some l => s.fld Fld.FL_STAT_STATE l != 0
    | none => i < 144 || s.fld Fld.MGMT_CFG_EN == 1

/-- Receivers of a group have signal and receive clock. -/
def State.lanesLocked (s : State) (ls : List Nat) : State :=
  ls.foldl (fun (t : State) i => (t.setFld Fld.LN_STAT_SIG_DET i 1).setFld Fld.LN_STAT_CDR_LOCK i 1) s

/-! ## Margin tests (R348) -/

/-- A running test ends ABORTED; ERRORS is then a free value. -/
def State.abortTest (s : State) (i : Nat) : State :=
  match (s.lane i).test with
  | none => s
  | some _ =>
    ((s.setLane i { s.lane i with test := none }).used.setFld Fld.LN_MARGIN_RES_ABORTED i 1).setFld Fld.LN_MARGIN_RES_ERRORS i
      (s.pick (2 ^ 24))

/-- Training of lanes starts: test modes end and their fields clear (R347), and margin tests abort (R348). -/
def State.endTestModes (s : State) (ls : List Nat) : State :=
  ls.foldl (fun (t : State) i =>
    (((((t.abortTest i).setFld Fld.LN_CTRL_LOOPBACK i 0).setFld Fld.LN_CTRL_PRBS_GEN i 0).setFld Fld.LN_CTRL_PRBS_SEL i 0).setFld
      Fld.LN_CTRL_PRBS_CHK i 0).setFld Fld.LN_STAT_PRBS_LOCK i 0) s

/-- A write of LN_MARGIN_CTRL with START 1; on a lane that is not ON the test ends at once. -/
def State.marginStart (s : State) (i v : Nat) : State :=
  let w := bits v 6 0 + bits v 14 8 * 2 ^ 8 + bits v 21 16 * 2 ^ 16
  let s1 := ((s.setReg .LN_MARGIN_CTRL i w).setReg .LN_MARGIN_RES i 0).setLane i { s.lane i with test := some s.tm.ns }
  if s.laneUp i then s1 else s1.abortTest i

/-- MARGIN_TEST_START (R348). -/
def execMarginTestStart (lane : Fin 145) (value : Word) (src : Source) (s : State) : Host.Outcome State Fault Refusal :=
  .next (s.busGate (RegId.offset .LN_MARGIN_CTRL lane.val) src (s.marginStart lane.val value.toNat))

/-- The end of the dwell: the bits counted as disagreeing, saturating; ABORTED when the lane is no longer ON. -/
def State.marginDone (s : State) (i errors : Nat) : State :=
  match (s.lane i).test with
  | none => s
  | some _ =>
    if !s.laneUp i then s.abortTest i
    else
      let n := min (min errors (2 ^ (20 + s.fld Fld.LN_MARGIN_CTRL_DWELL i))) 0xFFFFFF
      (s.setLane i { s.lane i with test := none }).setReg .LN_MARGIN_RES i (n * 256 + 1)

/-- MARGIN_TEST_DONE (R348). -/
def execMarginTestDone (lane : Fin 145) (errors : Nat) (s : State) : Host.Outcome State Fault Refusal :=
  .next (s.marginDone lane.val errors)

/-- PCIE_MARGINING_COMMAND (R348): the host's margining takes the sampler of a PCIe lane. -/
def execPcieMarginingCommand (lane : Fin 16) (s : State) : Host.Outcome State Fault Refusal := .next (s.abortTest (128 + lane.val))

/-! ## Alignment, lock and power -/

/-- Training of the link of lane `i` that is not over starts again from its first phase (R344); its lanes' margin tests abort
(R348). -/
def State.retrain (s : State) (i : Nat) : State :=
  match laneLink i with
  | some l =>
    if s.fld Fld.FL_STAT_STATE l = 1 then
      (flLanes l).foldl (fun (t : State) j => ((t.setFld Fld.LN_STAT_ALIGNED j 0).setFld Fld.LN_STAT_CDR_LOCK j 0).abortTest j) s
    else s
  | none => s

/-- LANE_ALIGN_LOSS (R341): four invalid code groups within 16. -/
def State.alignLoss (s : State) (i : Nat) : State :=
  if s.fld Fld.LN_STAT_ALIGNED i = 0 then s
  else ((((s.setFld Fld.LN_STAT_ALIGNED i 0).bump .LN_CNT_ERR i 4).bump .LN_CNT_ALIGN_LOSS i).setLane i
    { s.lane i with lostNs := some s.tm.ns }).retrain i

def execLaneAlignLoss (lane : Fin 145) (s : State) : Host.Outcome State Fault Refusal := .next (s.alignLoss lane.val)

/-- LANE_ALIGNED (R341): three K28.5 at one boundary; the lane has signal and receive clock by then (Table 13.2). -/
def State.laneAligned (s : State) (i : Nat) : State :=
  if s.laneUp i && ((laneLink i).isSome || i == 144) then
    (((s.setFld Fld.LN_STAT_SIG_DET i 1).setFld Fld.LN_STAT_CDR_LOCK i 1).setFld Fld.LN_STAT_ALIGNED i 1).setLane i
      { s.lane i with lostNs := none }
  else s

def execLaneAligned (lane : Fin 145) (s : State) : Host.Outcome State Fault Refusal := .next (s.laneAligned lane.val)

/-- CDR_LOCK_LOSS (R344, R348, R349): training that is not over starts again from its first phase. -/
def State.cdrLoss (s : State) (i : Nat) : State :=
  let since := if s.fld Fld.LN_STAT_ALIGNED i = 1 then some s.tm.ns else (s.lane i).lostNs
  let s1 := (((s.setFld Fld.LN_STAT_CDR_LOCK i 0).setFld Fld.LN_STAT_ALIGNED i 0).bump .LN_CNT_ALIGN_LOSS i).abortTest i
  (s1.setLane i { s1.lane i with lostNs := since }).retrain i

def execCdrLockLoss (lane : Fin 145) (s : State) : Host.Outcome State Fault Refusal := .next (s.cdrLoss lane.val)

/-- LANE_POWER_EXIT_DONE (R345). -/
def execLanePowerExitDone (lane : Fin 145) (s : State) : Host.Outcome State Fault Refusal :=
  .next (if s.fld Fld.LN_STAT_PWR_STATE lane.val = 3 then s.setFld Fld.LN_STAT_PWR_STATE lane.val 0 else s)

/-- What a lane's power state does as it leaves ON (R345, R348): receive status is lost, a margin test aborts. -/
def State.laneOffState (s : State) (i st : Nat) : State :=
  if s.fld Fld.LN_STAT_PWR_STATE i = st then s else (s.abortTest i).setReg .LN_STAT i st

/-- A write of LN_CTRL takes effect (R345, R347): the lane follows PWR, and a checker that its own generator feeds through the
loopback locks at once. DESIGN CHOICE, log entry 82. -/
def State.laneCtrl (s : State) (i v : Nat) : State :=
  let own := s.laneUp i && bits v 1 0 == 0 && bitAt v 2 && bitAt v 3 && bitAt v 6
  let s1 := (s.setReg .LN_CTRL i (bits v 6 0)).setFld Fld.LN_STAT_PRBS_LOCK i
    (if own then 1 else if bitAt v 6 then s.fld Fld.LN_STAT_PRBS_LOCK i else 0)
  let p := bits v 1 0
  if p = 0 then (if s1.fld Fld.LN_STAT_PWR_STATE i = 0 then s1 else s1.setFld Fld.LN_STAT_PWR_STATE i 3)
  else if p = 3 then s1
  else s1.laneOffState i p

/-- Lane counters at offsets 0x10 to 0x18. -/
def State.laneClr (s : State) (i : Nat) : State := s.clearRegs [.LN_CNT_ERR, .LN_CNT_PRBS, .LN_CNT_ALIGN_LOSS] i

/-- LANE_CLR_STATS (R349). -/
def execLaneClrStats (lane : Fin 145) (src : Source) (s : State) : Host.Outcome State Fault Refusal := .next (s.busGate (RegId.offset .LN_CTRL lane.val) src (s.laneClr lane.val))

/-- Lanes of a power domain that is removed enter OFF, and return as PWR names (R346). -/
def State.lanesOff (s : State) (ls : List Nat) : State := ls.foldl (fun (t : State) i => t.laneOffState i 2) s
def State.lanesBack (s : State) (ls : List Nat) : State :=
  ls.foldl (fun (t : State) i => if t.fld Fld.LN_CTRL_PWR i = 0 then t.setFld Fld.LN_STAT_PWR_STATE i 3 else t.laneOffState i (t.fld Fld.LN_CTRL_PWR i)) s

end Sys2Proof.Machine
end

