-- ==== Sys2Proof/Machine/Ports.lean ====
section
/-!
DEFINITION. Fronthaul ports as the rest of the module uses them: state, merged pairs (R279), the frames a port puts on its wire
(R282, R299), and what an FH_EGRESS job leaves behind (R296, R297).
-/
namespace Sys2Proof.Machine

def State.port (s : State) (n : Nat) : FhPort := Sparse.get {} s.fh n
def State.setPort (s : State) (n : Nat) (x : FhPort) : State := { s with fh := Sparse.set {} s.fh n x }
/-- FH_STAT.STATE: 0 OFF, 1 DOWN, 2 UP. -/
def State.fhState (s : State) (n : Nat) : Nat := s.fld Fld.FH_STAT_STATE n

/-- A merged pair's odd port (R279). -/
def State.fhShadowed (s : State) (p : Nat) : Bool := p % 2 == 1 && s.fld Fld.FH_CFG_MODE (p - 1) == 3

/-- A MAC address register pair, first octet in the high bits (PRESUMED, log entry 21). -/
def macOf (lo hi : Nat) : Nat := lo + hi % 2 ^ 16 * 2 ^ 32

/-- Line rate of a port in Gb/s. -/
def State.fhGbps (s : State) (p : Nat) : Nat :=
  let m := s.fld Fld.FH_CFG_MODE p
  if m = 1 then 100 else if m = 2 then 200 else 400

/-! ## Granules (R282) -/

/-- Receive granules of a port, and as many transmit granules: those of a merged pair stand on the even port. -/
def State.granules (s : State) (p : Nat) : Nat :=
  if s.fhShadowed p then 0 else if s.fld Fld.FH_CFG_MODE p = 3 then 16384 else 8192

/-- Every granule of a port is free. -/
def State.granReset (s : State) (p : Nat) : State :=
  ((s.setFld Fld.FH_GRAN_RX_FREE p (s.granules p)).setFld Fld.FH_GRAN_TX_FREE p (s.granules p)).setPort p
    { s.port p with held := [], txOut := [] }

/-- Transmit granules return once the last byte of their frame has been sent. -/
def State.txReturn (s : State) (p : Nat) : State :=
  let x := s.port p
  let back := ((x.txOut.filter (fun e => e.1 ≤ s.tm.ns)).map Prod.snd).sum
  if back = 0 then s
  else (s.setPort p { x with txOut := x.txOut.filter (fun e => s.tm.ns < e.1) }).setFld Fld.FH_GRAN_TX_FREE p
    (s.fld Fld.FH_GRAN_TX_FREE p + back)

/-! ## Frames on the wire -/

/-- Frames of a port are protected, and PTP and ESMC frames as well (R299). -/
def State.secOn (s : State) (p : Nat) : Bool := s.fld Fld.FH_CFG_SEC_EN p == 1
def State.secTime (s : State) (p : Nat) : Bool := s.secOn p && s.fld Fld.FH_CFG_SEC_BYPASS_TIME p == 0

/-- Length on the wire of a frame of `n` bytes: FCS, and the tag and integrity value of a protected one. -/
def wireLen (n : Nat) (sec : Bool) : Nat := n + 4 + (if sec then 24 else 0)

/-- The port can build a frame of `n` bytes: granules are free, and the transmit association has a packet number left, of 32 bits
without XPN. PRESUMED, log entry 48. -/
def State.canBuild (s : State) (p n : Nat) (sec : Bool) : Bool :=
  decide (ceilDiv (wireLen n sec) 256 ≤ s.fld Fld.FH_GRAN_TX_FREE p)
  && (!sec || s.fld Fld.FH_CFG_XPN p == 1 || decide (natAt (s.port p).txPn (s.fld Fld.FH_SEC_CFG_TX_AN p) < 2 ^ 32 - 1))

/-- A built frame departs at ns `ns` (R282, R289, R299): the next frame follows its last byte and the inter-packet gap. -/
def State.putFrame (s : State) (p ns : Nat) (frame : List Byte) (sec : Bool) : State :=
  let x := s.port p
  let an := s.fld Fld.FH_SEC_CFG_TX_AN p
  let pn := natAt x.txPn an + 1
  let len := wireLen frame.length sec
  let g := ceilDiv len 256
  let s1 := (s.setPort p { x with
    txPn := if sec then setAt x.txPn an pn else x.txPn
    freeNs := ns + (len + 20) * 8 / s.fhGbps p
    txOut := x.txOut ++ [(ns + len * 8 / s.fhGbps p, g)] }).setFld Fld.FH_GRAN_TX_FREE p (s.fld Fld.FH_GRAN_TX_FREE p - g)
  { (s1.bump .FH_TX_FRAMES p) with wire := s1.wire ++ [⟨p, ns, frame, if sec then some (an, pn) else none, []⟩] }

/-- A frame that the port itself makes departs once the port is free, when it can be built; no shorter than 60 bytes. -/
def State.sendFrame (s0 : State) (p : Nat) (b : List Byte) (sec : Bool) : State :=
  let s := s0.txReturn p
  let frame := b ++ zeros (60 - b.length)
  if s.canBuild p frame.length sec then s.putFrame p (max s.tm.ns (s.port p).freeNs) frame sec else s

/-! ## FH_EGRESS jobs (R296, R297) -/

/-- Tables 11.6 and R211: the descriptor is valid. -/
def egressDescOk (p : List Byte) : Bool :=
  u8 p 0 == 9 && u8 p 1 == 0 && decide (1 ≤ u16 p 2 ∧ u16 p 2 ≤ 4096) && stampOk (u32 p 4) && engAddrOk (u64 p 8)
    && engAddrOk (u64 p 16) && engAddrOk (u64 p 24) && allZero (slice p 36 28)

def orBit (m i : Nat) : Nat := putBit m i true

/-- A started job takes its place on its port: it reads its descriptor once. On a port that is not UP it sends nothing (R281). -/
def State.egressPlace (s : State) (c : Curd) : State :=
  let p := c.exec - 453
  let d := s.caveRead c.args 64
  let ok := caveSpan c.args 64 && s.rangeOk 0 c.args 64
  let t := if s.rangeOk 0 c.args 64 then s else s.readBad 0 c.args 64 4 c.exec c.handle
  t.setPort p { t.port p with job := (t.port p).job ++
    [{ curd := c.addr, desc := d, bad := !egressDescOk d || !ok, down := t.fhState p != 2 }] }

/-- The symbols of messages that the job has not finished: some of their frames were not sent. -/
def State.egressUnsent (s : State) (g : FhEgress) : Nat :=
  (List.range (u16 g.desc 2 - g.msg)).foldl (fun m i =>
    let l := u8 (s.caveRead (u64 g.desc 16 + 32 * (g.msg + i)) 2) 1
    if l ≤ 13 then orBit m l else m) 0

/-- Symbols of which a frame was not sent inside its window. -/
def FhEgress.lost (g : FhEgress) : Nat := g.missed ||| g.held ||| g.unsent

/-- Bits of `sent` that `lost` does not name, over the symbols of a slot. -/
def sentMask (sent lost : Nat) : Nat :=
  (List.range 14).foldl (fun m l => if bitAt sent l && !bitAt lost l then orBit m l else m) 0

/-- The status block of R297. A symbol's SENT bit asks that all its frames left inside their windows. -/
def egressStatus (g : FhEgress) : List Byte :=
  leBytes 2 (sentMask g.sent g.lost) ++ leBytes 2 g.held ++ leBytes 2 g.missed ++ zeros 2 ++ leBytes 4 g.frames ++ leBytes 4 g.bytes

/-- Jobs that are no longer running write their status blocks and leave their ports; their order keeps which symbols left. -/
def State.egressSweep (s : State) : State :=
  (List.range 16).foldl (fun (t : State) p =>
    let ended := fun (g : FhEgress) => match t.curdAt g.curd with | some c => c.st != .running | none => true
    let t1 := ((t.port p).job.filter ended).foldl (fun (u : State) g0 =>
      match u.curdAt g0.curd with
      | some c =>
        if !egressDescOk g0.desc then u
        else
          let g := { g0 with unsent := g0.unsent ||| u.egressUnsent g0 }
          let v := u.modOrder c.handle (fun o => { o with txSent := o.txSent ||| g.sent, txLost := o.txLost ||| g.lost })
          if v.dstOk c.handle (0, u64 g.desc 24) 16 then v.hubWrite c.handle (u64 g.desc 24) (453 + p) (egressStatus g) else v
      | none => u) t
    t1.setPort p { t1.port p with job := (t1.port p).job.filter (fun g => !ended g) }) s

/-- The jobs of a port whose link drops send nothing more (R281). -/
def State.jobsDown (s : State) (p : Nat) : State :=
  s.setPort p { s.port p with job := (s.port p).job.map (fun (g : FhEgress) => { g with down := true }) }

end Sys2Proof.Machine
end

