-- ==== Sys2Proof/Machine/Servo.lean ====
section
/-!
DEFINITION. The time counter, the time sources and the servo (R379 to R383, R387 to R394, R398): what a measurement, a
selection and a loss do, and the quality that the module advertises.
-/
namespace Sys2Proof.Machine

/-! ## The counter -/

/-- TIME_NS.TIME_FRAC as one number, in 2^-32 ns. -/
def State.timePair (s : State) : Nat := s.tm.ns * 2 ^ 32 + s.tm.frac
def State.setPair (s : State) (p : Nat) : State := { s with tm := { s.tm with ns := p / 2 ^ 32 % 2 ^ 64, frac := p % 2 ^ 32 } }

/-- TIME_INCR in 2^-32 ns (R379). -/
def State.incr (s : State) : Nat := s.reg2 .TIME_INCR_FRAC .TIME_INCR_NS

/-- The largest deviation of TIME_INCR from nominal (R381). -/
def State.slewMax (s : State) : Nat := s.fld Fld.TIME_SLEW_SLEW_PPB * 2 ^ 32 / 10 ^ 9

/-- `v` held within the slew limit. DEDUCED, log entry 58. -/
def State.clampIncr (s : State) (v : Int) : Nat :=
  (clampI ((2 ^ 32 : Nat) - (s.slewMax : Int)) ((2 ^ 32 : Nat) + (s.slewMax : Int)) v).toNat

/-- TIME_INCR set, with TIME_FREQ in parts per 10^12. -/
def State.setIncr (s : State) (v : Nat) : State :=
  ((s.setReg2 .TIME_INCR_FRAC .TIME_INCR_NS 0 v).setReg .TIME_FREQ 0
    (enc 32 (s.roundFree (((v : Int) - (2 ^ 32 : Nat)) * 10 ^ 12) (2 ^ 32)))).used

/-- One edge of the time clock (R379, R380). DESIGN CHOICE, log entry 2. -/
def State.edge (s : State) : State :=
  let st : Int := match s.tm.stepPending with | some x => x * ((2 ^ 32 : Nat) : Int) | none => 0
  let t := s.setPair ((((s.timePair + s.incr : Nat) : Int) + st) % ((2 ^ 96 : Nat) : Int)).toNat
  { t with tm := { t.tm with stepPending := none } }

/-- The first edge at which the pair is at or after `target`. -/
def State.advanceTo (s0 : State) (target : Nat) : State :=
  let s := if s0.tm.stepPending.isSome then s0.edge else s0
  if s.timePair < target then s.setPair (s.timePair + ceilDiv (target - s.timePair) s.incr * s.incr) else s

/-- The nominal start of an absolute grain, in 2^-32 ns: a grain is 15,625 / 128 ns (R384). -/
def State.grainPair (s : State) (g : Nat) : Nat := (s.frame0 * ((2 ^ 32 : Nat) : Int) + ((g * 15625 * 2 ^ 25 : Nat) : Int)).toNat

/-- The absolute beat of a TIME_NS (R384). -/
def State.beatOfNs (s : State) (ns : Nat) : Nat := (((ns : Int) - s.frame0) / 125000).toNat

/-! ## States of the servo (Table 15.3) -/

/-- The servo's own state; SERVO_STATE reads FREERUN while SERVO_AUTO is 0 (R392). -/
def State.servo (s : State) : Nat := s.fld Fld.TIME_STAT_SERVO_STATE
def State.servoAuto (s : State) : Bool := s.fld Fld.TIME_CTRL_SERVO_AUTO == 1
def State.servoRead (s : State) : Nat := if s.servoAuto then s.servo else 0
/-- The selected source. -/
def State.srcCur (s : State) : Option Nat :=
  if s.fld Fld.TIME_STAT_SRC < 18 then some (s.fld Fld.TIME_STAT_SRC) else none

/-- Enters a state of the servo, with its event (Table 16.6). -/
def State.setServo (s : State) (v : Nat) : State :=
  let t := s.setFld Fld.TIME_STAT_SERVO_STATE 0 v
  if s.servo = v then t else t.event 0x0002 0 0xFF v (s.fld Fld.TIME_STAT_SRC)

/-- Number of queued codes of a DAC, as DAC_STAT shows it. -/
def State.setDac (s : State) (n : Nat) (d : Dac) : State :=
  let t : State := { s with tm := { s.tm with dacs := setAt s.tm.dacs n d } }
  t.setFld Fld.DAC_STAT_FILL n d.queue.length
def State.dac (s : State) (n : Nat) : Dac := s.tm.dacs.getD n {}

/-- Entry to HOLDOVER (R392, R398, R399): STEER0's waiting codes are discarded, and a refresh of the holdover code falls due. DEDUCED, log entry 56. -/
def State.enterHoldover (s : State) : State :=
  if s.servo = 3 then s
  else
    let s1 := (s.setDac 0 { s.dac 0 with queue := [] }).bump .TIME_CNT_HOLDOVER
    let s2 : State := { s1 with tm := { s1.tm with
      hoSince := s.tm.ns, lockRun := 0
      hoDue := some (match s.tm.hoDue with | some m => min m 64 | none => 64) } }
    s2.setServo 3

/-- REFCLK_LOSS (R383): REFCLK_IN has been absent for 2 µs. No source stays selected, so that R390 can end the holdover. DEDUCED, log entry 56. -/
def execRefclkLoss (s : State) : Host.Outcome State Fault Refusal :=
  let s1 := (s.setFld Fld.TIME_STAT_REF_LOSS 0 1).event 0x0001 3
  .next ((s1.setFld Fld.TIME_STAT_SRC 0 0x1F).enterHoldover).closeRennet

/-- REFCLK_RESTORED (R522): REFCLK_IN has been present for 10 ms. -/
def execRefclkRestored (s : State) : Host.Outcome State Fault Refusal := .next (s.setFld Fld.TIME_STAT_REF_LOSS 0 0)

/-- HOLDOVER_OUT (R392): HO_SPEC seconds after entering HOLDOVER. -/
def execHoldoverOut (s : State) : Host.Outcome State Fault Refusal :=
  .next (if s.servo = 3 ∧ s.tm.hoSince + s.fld Fld.TIME_HO_SPEC_SECONDS * 10 ^ 9 ≤ s.tm.ns then s.setServo 4 else s)

/-! ## Sources -/

/-- A source and the fields of its quality; those of source 17 stand in TIME_PPS_Q (R388). -/
def State.source (s : State) (n : Nat) : TimeSource :=
  let x : TimeSource := s.tm.sources.getD n {}
  if n = 17 then ⟨x.qualified, s.fld Fld.TIME_PPS_Q_CLASS, s.fld Fld.TIME_PPS_Q_ACCURACY, s.fld Fld.TIME_PPS_Q_VARIANCE, 128, 0⟩
  else x

/-- A source's quality fields and its qualification, also as TIME_SRC_STAT shows them. -/
def State.setSource (s : State) (n : Nat) (q : TimeSource) : State :=
  let t : State := { s with tm := { s.tm with sources := setAt s.tm.sources n q } }
  ((t.setFld Fld.TIME_SRC_STAT_QUALIFIED n (b2n q.qualified)).setFld Fld.TIME_SRC_STAT_CLASS n q.cls).setFld Fld.TIME_SRC_STAT_STEPS n q.steps

/-- POWER_STAT.STATE 3 is M-HOLD. -/
def State.inHold (s : State) : Bool := s.fld Fld.POWER_STAT_STATE == 3

/-- This module is the fabric time source (R333). -/
def State.isTimeSource (s : State) : Bool :=
  s.fab.timeSrc.isSome && s.fld Fld.FAB_MODNUM_VALID == 1 && s.fab.timeSrc == some (s.fld Fld.FAB_MODNUM_NUMBER)

/-- A source may be qualified at all (R387, R391). -/
def State.sourceMay (s : State) (n : Nat) : Bool :=
  bitAt (s.fld Fld.TIME_SRC_EN_MASK) n && !(n == 16 && s.isTimeSource) && (!s.inHold || n == 17)

def State.sourceOk (s : State) (n : Nat) : Bool := s.sourceMay n && (s.source n).qualified

/-- Q(s) of R388. -/
def State.quality (s : State) (n : Nat) : List Nat :=
  let q := s.source n
  [q.cls, q.accuracy, q.variance, q.prio2, s.fld Fld.TIME_LPRIO_LPRIO n, q.steps, n]

/-- Smaller, field by field. -/
def lexLt : List Nat → List Nat → Bool
  | x :: a, y :: b => if x < y then true else if y < x then false else lexLt a b
  | _, _ => false

/-- `better` of R390: strict, ignoring STEPS and s. -/
def State.better (s : State) (x y : Nat) : Bool := lexLt ((s.quality x).take 5) ((s.quality y).take 5)

/-- The source of C with the smallest quality. -/
def State.bestSource (s : State) : Option Nat :=
  ((List.range 18).filter s.sourceOk).foldl (fun (b : Option Nat) n =>
    match b with | none => some n | some m => if lexLt (s.quality n) (s.quality m) then some n else some m) none

/-- The last Announce, Sync or other PTP message of a type that a port received. -/
def State.lastPtp (s : State) (p ty : Nat) : Option PtpRecord :=
  s.tm.ptpRx.reverse.find? (fun r => r.port == p && r.kind == 0 && u8 r.data 0 % 16 == ty)

/-- The quality fields of an Announce; they stand where IEEE 1588-2019 puts them (R388). -/
def announced (m : List Byte) : TimeSource := ⟨true, u8 m 48, u8 m 49, beAt m 50 2, u8 m 52, (beAt m 61 2 + 1) % 256⟩

/-- SOURCE_QUALIFIED (R387): the source meets the condition of Table 15.1. A PTP source has the fields of its last Announce, its port
being UP; the parent's came with its TIME payload. -/
def State.sourceQualified (s : State) (n : Nat) : State :=
  if !s.sourceMay n then s
  else if n < 16 then
    match s.lastPtp n 0xB with
    | some r => if s.fhState n = 2 ∧ s.fld Fld.FH_CFG_PTP_EN n = 1 then s.setSource n (announced r.data) else s
    | none => s
  else if n = 16 then (if 64 ≤ s.tm.parentFrames then s.setSource 16 { s.source 16 with qualified := true, prio2 := 128 } else s)
  else if 8 ≤ s.tm.ppsRun then s.setSource 17 { s.source 17 with qualified := true } else s

def execSourceQualified (src : Fin 18) (s : State) : Host.Outcome State Fault Refusal := .next (s.sourceQualified src.val)

/-- SOURCE_LOST (R391): a lost current source acts at once. DEDUCED, log entry 56. -/
def State.sourceLost (s : State) (n : Nat) : State :=
  let s0 := s.setSource n { s.source n with qualified := false }
  let s1 : State := { s0 with tm := { s0.tm with
    ppsRun := if n = 17 then 0 else s0.tm.ppsRun
    parentFrames := if n = 16 then 0 else s0.tm.parentFrames } }
  if s.srcCur ≠ some n then s1
  else
    let s2 := (s1.setFld Fld.TIME_STAT_SRC 0 0x1F).bump .TIME_CNT_LOSS
    if s.servo = 2 ∨ (s.servo = 1 ∧ s.tm.acqFrom = 3) then s2.enterHoldover
    else if s.servo = 1 then s2.setServo 0
    else s2

/-- What the state shows of a qualified source's loss (Table 15.1): its bit in TIME_SRC_EN is 0 or it may not be qualified here; a
port that is not UP, no Announce for 375 ms or no Sync for 250 ms; no pulse for 1.5 s. The fabric parent's link is watched where
links are. An Announce interval is 1/8 s (R396). -/
def State.sourceGone (s : State) (n : Nat) : Bool :=
  let old := fun (ty lim : Nat) => match s.lastPtp n ty with | some r => decide (r.ns + lim ≤ s.tm.ns) | none => true
  (s.tm.sources.getD n {}).qualified && (!s.sourceMay n
    || (decide (n < 16) && (s.fhState n != 2 || old 0xB 375000000 || old 0 250000000))
    || (n == 17 && (match s.tm.lastPps with | some t => decide (t + 1500000000 ≤ s.tm.ns) | none => false)))

/-- The losses that are detected in a grain (R391). -/
def State.sourceWatch (s : State) : State :=
  ((List.range 18).filter s.sourceGone).foldl (fun (t : State) n => t.sourceLost n) s

def execSourceLost (src : Fin 18) (s : State) : Host.Outcome State Fault Refusal := .next (s.sourceLost src.val)

/-- Entry to ACQUIRING: the loop may step once more (R394). DEDUCED, log entry 56. -/
def State.acquire (s : State) : State :=
  let s1 : State := { s with tm := { s.tm with
    acqFrom := if s.servo = 3 ∨ s.servo = 4 then s.servo else if s.servo = 1 then s.tm.acqFrom else 0
    lockRun := 0, stepped := false, lastE := 0, integ := (s.incr : Int) * ((2 ^ 32 : Nat) : Int) - ((2 ^ 64 : Nat) : Int) } }
  s1.setServo 1

/-- SOURCE_SELECT (R390): once at an epoch boundary; while the grid is stopped, once for each epoch that TIME_NS gives (R515). It
does not run while the steward restarts (R391). -/
def State.sourceSelect (s0 : State) : State :=
  let e := (if s0.gridRun then s0.absBeat else s0.beatOfNs s0.tm.ns) / 1280
  if s0.fld Fld.STEWARD_STAT_STATE ≠ 1 ∨ (s0.gridRun ∧ !(s0.grain = 0 ∧ s0.beat % 1280 = 0)) ∨ s0.tm.selAt = some e then s0
  else
    let s : State := { s0 with tm := { s0.tm with go := s0.tm.go.map (· + 1), selAt := some e } }
    match s.bestSource with
    | none => s
    | some b =>
      let keep := match s.srcCur with | some c => s.sourceOk c && !s.better b c | none => false
      if keep then s
      else ((s.setFld Fld.TIME_STAT_SRC 0 b).bump .TIME_CNT_SWITCH).acquire

def execSourceSelect (s : State) : Host.Outcome State Fault Refusal := .next s.sourceSelect

/-! ## The servo (R392 to R394) -/

/-- Takes phase errors, in 2^-32 ns, into the epoch's statistics. -/
def State.measured (s : State) (es : List Int) : State :=
  { s with tm := { s.tm with
      lastE := es.getLastD s.tm.lastE
      errSum := s.tm.errSum + (es.map Int.natAbs).sum
      errSigned := s.tm.errSigned + es.sum
      errN := s.tm.errN + es.length } }

/-- The loop writes TIME_INCR, or takes its one step while the grid is stopped (R394). -/
def State.servoLoop (s : State) : State :=
  let e := s.tm.lastE
  if !s.servoAuto || !(s.servo == 1 || s.servo == 2) then s
  else if !s.gridRun && !s.tm.stepped && decide (1000 * 2 ^ 32 < e.natAbs) then
    let t := s.setPair (((s.timePair : Int) + e) % ((2 ^ 96 : Nat) : Int)).toNat
    { t with tm := { t.tm with stepped := true, lastE := 0 } }
  else
    let bw := s.fld Fld.TIME_SERVO_BW
    let i := s.tm.integ + Config.servoKi bw * e
    let t := s.setIncr (s.clampIncr ((2 ^ 32 : Nat) + (Config.servoKp bw * e + i) / ((2 ^ 32 : Nat) : Int)))
    { t with tm := { t.tm with integ := i } }

/-- GRID_EN written 1 (R386). -/
def State.gridArm (s : State) : State :=
  let t := s.setFld Fld.TIME_CTRL_GRID_EN 0 1
  { t with tm := { t.tm with gridArm := !s.gridRun || s.tm.gridArm, gridStop := false, go := none } }

/-- SERVO_UPDATE (R394), with the phase errors measured in the beat: TIME_INCR is written once in a beat. After TIME_GO the steward then sets GRID_EN (R515). DEDUCED, log entry 56. -/
def State.servoUpdate (s : State) (es : List Int) : State :=
  let m := s.measured es
  let t : State := if s.gridRun ∧ s.tm.servoAt = some s.absBeat then m
    else { m.servoLoop with tm := { m.servoLoop.tm with servoAt := if s.gridRun then some s.absBeat else none } }
  if t.tm.go.isSome && !t.gridRun && t.srcCur.isSome && (t.tm.stepped || decide (t.tm.lastE.natAbs ≤ 1000 * 2 ^ 32)) then t.gridArm else t

def execServoUpdate (es : List Int) (s : State) : Host.Outcome State Fault Refusal := .next (s.servoUpdate es)

/-- At the end of an epoch (R393, R399, Table 15.4): lock, TIME_PHASE, and the codes of the epoch. DEDUCED, log entry 56. -/
def State.servoEpoch (s : State) : State :=
  let n := s.tm.errN
  let lim := s.fld Fld.TIME_SERVO_LOCK_NS * 2 ^ 32 * n
  let count := s.tm.epochCount + 1
  let s1 : State := { s with tm := { s.tm with
    errSum := 0, errSigned := 0, errN := 0, curSum := 0, curN := 0, epochCount := count
    epochs := (⟨s.servo == 2, s.tm.curSum, s.tm.curN⟩ :: s.tm.epochs).take 1024
    hoDue := if count % 1024 = 0 then some (match s.tm.hoDue with | some m => m | none => 512) else s.tm.hoDue } }
  if n = 0 then s1
  else
    let s2 := (s1.setReg .TIME_PHASE 0 (enc 32 (s1.roundFree (s.tm.errSigned * 1000) (n * 2 ^ 32)))).used
    if s.servo = 1 then
      let r := if s.tm.errSum ≤ lim then s.tm.lockRun + 1 else 0
      let s3 : State := { s2 with tm := { s2.tm with lockRun := r } }
      if 8 ≤ r then s3.setServo 2 else s3
    else if s.servo = 2 ∧ 4 * lim < s.tm.errSum then
      let s3 : State := { s2 with tm := { s2.tm with lockRun := 0, acqFrom := 0 } }
      s3.setServo 1
    else s2

/-! ## What the module advertises (Table 15.3) -/

/-- CLASS, ACCURACY, VARIANCE, PRIO2 and STEPS. DEDUCED, log entry 56. -/
def State.advertised (s : State) : List Nat :=
  let own := s.fld Fld.TIME_PTP_PRIORITY2
  match s.servoRead with
  | 2 => match s.srcCur with
    | some n => (let q := s.source n; [q.cls, q.accuracy, q.variance, q.prio2, q.steps])
    | none => [248, 0xFE, 0xFFFF, own, 0]
  | 1 => if s.tm.acqFrom = 0 then [248, 0xFE, 0xFFFF, own, 0] else [135, 0xFE, 0xFFFF, own, 0]
  | 3 => [135, 0xFE, 0xFFFF, own, 0]
  | 4 => [165, 0xFE, 0xFFFF, own, 0]
  | _ => [248, 0xFE, 0xFFFF, own, 0]

/-- Bytes 24 to 31 of a TIME frame's payload (Table 15.2). -/
def State.timeQuality (s : State) : List Byte :=
  let a := s.advertised
  leBytes 1 (natAt a 0) ++ leBytes 1 (natAt a 1) ++ leBytes 2 (natAt a 2) ++ leBytes 1 (natAt a 4) ++ zeros 3

/-- The rank of the quality that a TOPO frame reports: (CLASS, ACCURACY, VARIANCE, STEPS), lower is better (R388). -/
def State.topoQuality (s : State) : Nat :=
  let a := s.advertised
  ((natAt a 0 * 256 + natAt a 1) * 65536 + natAt a 2) * 256 + natAt a 4

/-! ## Messages passed to the time unit (R300, R301) -/

/-- An Announce of a qualified port renews the quality of its source. -/
def State.announce (s : State) (p : Nat) (m : List Byte) : State := if (s.source p).qualified then s.setSource p (announced m) else s

/-- A time corrected by FH_PTP_ASYM (R300). DEDUCED, log entry 56. -/
def State.asymNs (s : State) (p ns : Nat) : Nat := ((ns : Int) - sext 16 (s.fld Fld.FH_PTP_ASYM_ASYM p)).toNat

/-- An IEEE 1588-2019 timestamp of ten bytes. -/
def ptpStamp (ns : Nat) : List Byte := beBytes 6 (ns / 10 ^ 9) ++ beBytes 4 (ns % 10 ^ 9)

/-- A PTP message of type `ty` with its header (IEEE 1588-2019): version 2.1, the domain, the port identity of R396, and the next
sequence number of its kind; flags and message interval are free values. PRESUMED, log entry 31. -/
def State.ptpBytes (s : State) (p ty seq : Nat) (body : List Byte) : List Byte :=
  leBytes 1 ty ++ leBytes 1 0x12 ++ beBytes 2 (34 + body.length) ++ leBytes 1 (s.fld Fld.TIME_PTP_DOMAIN) ++ zeros 1
    ++ beBytes 2 (s.pick (2 ^ 16)) ++ zeros 8 ++ zeros 4 ++ beBytes 8 s.kp.serial ++ beBytes 2 (p + 1) ++ beBytes 2 seq ++ zeros 1
    ++ leBytes 1 (s.pick 256) ++ body

/-- A PTP message leaves a port, untagged, to one of the two addresses of R300; which, is a free value. It is recorded with the time
that its event timestamp is. PRESUMED, log entry 31. -/
def State.ptpOut (s : State) (p kind ty ns seq : Nat) (note body : List Byte) : State :=
  let dst := if s.pick 2 = 0 then 0x011B19000000 else 0x0180C200000E
  let frame := beBytes 6 dst ++ beBytes 6 (macOf (s.reg .FH_MAC_LO p) (s.reg .FH_MAC_HI p)) ++ beBytes 2 0x88F7 ++ s.ptpBytes p ty seq body
  (({ s with tm := { s.tm with ptpTx := s.tm.ptpTx ++ [⟨p, kind, ns, s.tm.frac, note⟩] } } : State).sendFrame p frame (s.secTime p)).used

/-- Messages of a kind that the port has sent. -/
def State.ptpSent (s : State) (p kind : Nat) : Nat := (s.tm.ptpTx.filter (fun r => r.port == p && r.kind == kind)).length % 2 ^ 16

/-- A PTP message on a port, timestamped at `ns` and `frac`; a Delay_Req to a MASTER port is answered. Type 0xB is Announce,
1 Delay_Req. PRESUMED, log entry 31. -/
def State.ptpMessage (s : State) (p ns frac : Nat) (m : List Byte) : State :=
  let t := s.asymNs p ns
  let ty := u8 m 0 % 16
  let r : PtpRecord := ⟨p, 0, if ty < 4 then t else ns, frac, m⟩
  let s1 : State := { s with tm := { s.tm with ptpRx := s.tm.ptpRx ++ [r] } }
  let s2 := if ty = 0xB then s1.announce p m else s1
  if ty = 1 ∧ s.fld Fld.TIME_PTP_PORT_STATE p = 6 then
    s2.ptpOut p 9 9 t (beAt m 30 2) (slice m 20 10) (ptpStamp t ++ slice m 20 10)
  else s2

/-- An ESMC PDU, from its subtype byte on: its SSM code is the last received QL (R301, R397). PRESUMED, log entry 31. -/
def State.esmcPdu (s : State) (p ns : Nat) (m : List Byte) : State :=
  let t : State := { s with tm := { s.tm with ptpRx := s.tm.ptpRx ++ [⟨p, 1, ns, 0, m⟩] } }
  t.setFld Fld.TIME_SRC_STAT_RX_QL p (u8 m 13 % 16)

end Sys2Proof.Machine
end

