-- ==== Sys2Proof/Machine/CoreCtl.lean ====
section
/-!
DEFINITION. What a core does bundle by bundle, and how its curd ends (R127 to R129, R147, R150, R158 to R164, R170 to R174).
-/
namespace Sys2Proof.Machine

/-- Records an exception of Table 6.10 with the bundle at `pc` (R161, R150). -/
def State.excRecord (s : State) (n cause slot pc h : Nat) : State :=
  let s1 := ((((s.setReg .CORE_EXC n (cause + 256 * slot)).setReg .CORE_EXC_PC n pc).setReg .CORE_EXC_HANDLE n h).setReg
    .CORE_EXC_STAMP n s.stamp).bump .CORE_CNT_EXC n
  if cause = 5 then s1.bump .CORE_CNT_COLL n else s1

/-- An exception stops the curd; the `k` bundles from its own on that are in flight are squashed (R161, R171). In the cycle
of a stop of a higher row it is recorded only (R162). -/
def State.coreExc (s : State) (n cause slot k cyc : Nat) : State :=
  let c := s.core n
  let s1 := s.excRecord n cause slot c.pc (match s.coreCurd n with | some cu => cu.handle | none => 0)
  match c.wait with
  | .stop _ => s1.setCore n { s1.core n with tied := true }
  | _ => (s1.squash n k cyc).coreHalt n 0x12

/-- The status GIVE reports: DONE or FAILED_ON_TIME; any other value is recorded as FAILED_ON_TIME (R128). -/
def giveStatus (v : Nat) : Nat := if v = 0x10 then 0x10 else 0x12

/-- TAKE (R127, R129): without a curd the core waits; with one, that curd ends FAILED_ON_TIME. -/
def State.coreTake (s : State) (n next : Nat) : State :=
  let c := s.core n
  match c.curd with
  | none => (s.setCore n { c with pc := next }).setFld Fld.CORE_STAT_STATE n 1
  | some _ => (s.bump .DISP_STRAY (coreDie n)).coreStop n 0x12

/-- GIVE (R128, R129): starts its wait, or has no effect without a curd. -/
def State.coreGive (s : State) (n next v : Nat) : State :=
  let c := s.core n
  match c.curd with
  | none => (s.setCore n { c with pc := next }).bump .DISP_STRAY (coreDie n)
  | some _ =>
    let s1 := (s.setCore n { c with pc := next, wait := .give (giveStatus v) }).setFld Fld.CORE_STAT_STATE n 3
    if v = 0x10 ∨ v = 0x12 then s1 else s1.bump .DISP_STRAY (coreDie n)

/-- A word's action beyond registers, at commit. DEDUCED, log entry 65. -/
def State.coreAct (s : State) (n pc next : Nat) (a : CoreAct) : State :=
  let c := s.core n
  match a with
  | .none => s
  | .jump a => s.setCore n { c with pc := a }
  | .take => s.coreTake n next
  | .give v => s.coreGive n next v
  | .fence k => s.setCore n { c with wait := .fence k }
  | .cmu op => s.setCmu n (c.cmu ++ [op]) (if op.long then some op.cycle else c.longAt)
  | .store b => s.setCore n { c with lbuf := c.lbuf ++ b }
  | .window a v => s.windowWrite n a v
  | .cst a d => s.setCore n { c with csts := c.csts ++ [⟨a, d, pc, c.curd⟩] }

/-- The Cave address a core fetches its bundle from. -/
def State.fetchAddr (s : State) (c : Core) : Nat := s.imgAddr c.slot (u32 (s.image c.slot).bytes 32 + c.pc)

/-- An error in a line of the instruction cache (`err` 2) or of the scalar data cache (`err` 3) is recorded as corrected, and the
line is fetched again (R460): its ADDR is that of the Cave line. DEDUCED, log entry 65. -/
def State.cacheErr (s : State) (n err : Nat) (ws : List Nat) : State :=
  let c := s.core n
  let rec' := fun (mem a : Nat) => s.errRecord (coreDie n) 0x65 mem (a / 64 * 64) 0 n 0x7F 0
  if err = 2 then rec' 5 (s.fetchAddr c)
  else if err = 3 then
    match ws.find? (fun w => wMaj w == 0x28) with
    | some w => (match (lsOp s n c w).rd with | r :: _ => rec' 4 r.2.1 | [] => s)
    | none => s
  else s

/-- The fetch finds its Cave line uncorrectable (R470, IFETCH_UE). -/
def State.fetchBad (s : State) (n h : Nat) : State :=
  let w := codeWord 0 (s.fetchAddr (s.core n))
  let t : State := if s.wordBad w then s else { s.wordClean w with bad := (s.wordClean w).bad ++ [{ mem := w.1, word := w.2, err := .ue }] }
  t.readWord w (coreDie n) 0 n h

/-- The exception of a bundle's words (R161): the cause listed first, among equal causes the lowest slot. -/
def firstExc (outs : List (WordOut × Nat)) : Option (Nat × Nat) :=
  (outs.filter (fun o => o.1.exc != 0)).foldl (fun (b : Option (Nat × Nat)) o =>
    match b with
    | none => some (o.1.exc, o.2)
    | some e => if o.1.exc < e.1 then some (o.1.exc, o.2) else some e) none

/-- A core takes part in a BUNDLE_ISSUE: it runs and waits for nothing, or a bundle is in flight in the cycle of its stop, whose
exception is still to be recorded (R162). -/
def State.mayIssue (s : State) (n : Nat) : Bool :=
  let c := s.core n
  match c.wait with
  | .none => s.fld Fld.CORE_STAT_STATE n == 2
  | .stop _ => !c.tied
  | _ => false

/-- One bundle (R151, R152, R160, R161). `cyc` is the core cycle of its issue, counted from the curd's start; `err` says what
its fetch meets: 0 nothing, 1 an uncorrectable error of its Cave line, 2 an error in its instruction cache line, 3 one in the data
cache line of its CLD; `younger` counts the bundles in flight behind it, which an exception squashes with it. The SLOT of a
fetch cause, which no word raises, is 0. DEDUCED, log entry 65; DESIGN CHOICE, log entry 75. -/
def State.issue (s0 : State) (n cyc err : Nat) (younger : Nat) : State :=
  if !s0.mayIssue n then s0
  else
  let c := s0.core n
  let s := s0.cacheErr n err (takeBundle 6 (s0.codeWords c))
  let h := match s.coreCurd n with | some cu => cu.handle | none => 0
  if c.pc % 4 ≠ 0 ∨ u32 (s.image c.slot).bytes 36 ≤ c.pc then s.coreExc n 0x02 0 0 cyc
  else if err = 1 then (s.fetchBad n h).coreExc n 0x01 0 0 cyc
  else
    let ws := takeBundle 6 (s.codeWords c)
    if !bundleOk c.pc ws then
      s.coreExc n (if (ws.getLast?.map wEnd).getD false || ws.length == 6 then 0x03 else 0x02) 0 0 cyc
    else if c.stalls ws cyc then s
    else
      let outs := s.bundleOuts n c ws cyc
      match firstExc outs with
      | some e =>
        let s1 := if e.1 = 8 then
            (outs.flatMap (fun o => if o.1.exc = 8 then o.1.rd else [])).foldl (fun t r => t.readBad r.1 r.2.1 r.2.2 (coreDie n) n h) s
          else s
        s1.coreExc n e.1 e.2 (1 + younger) cyc
      | none =>
        match c.wait with
        | .stop _ => s         -- squashed with the others (R162)
        | _ =>
          let next := c.pc + 4 * ws.length
          let c1 := outs.foldl (fun c o => o.1.wr.foldl Core.apply c) c
          let sr := (outs.flatMap (fun o => o.1.rd)).foldl (fun t r =>
            (t.readRange r.1 r.2.1 r.2.2 (coreDie n) 0 n h).noteStaged c.curd r.1 r.2.1) s
          let s1 := { sr.setCore n { c1 with pc := next, cyc := cyc } with freeCtr := sr.freeCtr + 32 }
          outs.foldl (fun t o => t.coreAct n c.pc next o.1.act) s1

/-- BUNDLE_ISSUE (R160). DEDUCED, log entry 65. -/
def execBundleIssue (core : Fin 256) (cycle : Nat) (err : Fin 4) (younger : Fin 3) (s : State) :
    Host.Outcome State Fault Refusal := .next (s.issue core.val cycle err.val younger.val)

/-- The curd a core holds ends, and the core holds none. -/
def State.coreFinish (s : State) (n st wait : Nat) : State :=
  let c := s.core n
  let s1 := match c.curd with | some a => s.endCurd a st | none => s
  ((s1.setCore n { c with curd := none, wait := .none, wprot := false, lateErr := false }).setFld Fld.CORE_STAT_STATE n wait).setReg
    .CORE_CUR n 0

/-- What GIVE waits for (R128, Table 6.8): the core's Cave stores, its curd's tile transfers and the CMU. -/
def State.coreQuiet (s : State) (n : Nat) : Bool :=
  (s.core n).csts.all (fun t => t.curd != (s.core n).curd) && (s.core n).cmu.isEmpty && !s.tileBusy (coreTile n) (s.core n).curd

/-- GIVE_END (R128, R150, R173): the curd ends with the reported status. -/
def execGiveEnd (core : Fin 256) (s : State) : Host.Outcome State Fault Refusal :=
  let n := core.val
  .next (match (s.core n).wait with
    | .give st =>
      if s.coreQuiet n then
        let t := ((s.flushLocal n).drainAll (fun m => m.req == n || m.req == 0x400 + n)).2
        t.coreFinish n (if (t.core n).wprot ∨ (t.core n).lateErr then 0x12 else st) 2
      else s
    | _ => s)

/-- Whether the condition of a fence holds (R158); FENCE.L makes the local stores visible itself. -/
def State.fenceMet (s : State) (n k : Nat) : Bool :=
  let c := s.core n
  match k with
  | 3 => true
  | 4 => c.csts.isEmpty
  | 5 => !s.tileBusy (coreTile n) c.curd
  | _ => c.csts.isEmpty && c.cmu.isEmpty && !s.tileBusy (coreTile n) c.curd

/-- FENCE_COMPLETE (R158): issue resumes. -/
def execFenceComplete (core : Fin 256) (s : State) : Host.Outcome State Fault Refusal :=
  let n := core.val
  .next (match (s.core n).wait with
    | .fence k =>
      if s.fenceMet n k then
        let t := if k = 3 ∨ k = 6 then s.flushLocal n else s
        t.setCore n { t.core n with wait := .none }
      else s
    | _ => s)

/-- STORE_PERFORMED (R147): the hub acknowledges the core's oldest outstanding Cave store. -/
def execStorePerformed (core : Fin 256) (s : State) : Host.Outcome State Fault Refusal :=
  let n := core.val; let c := s.core n
  .next (match c.csts with
    | [] => s
    | t :: r =>
      if s.blockProtected t.addr then s
      else
        -- the store is accepted whether or not its word is intact; a drain that finds it bad fails the curd (R463)
        (((s.setCore n { c with csts := r }).writeWords 0 t.addr t.data.length 4 n
          (match t.curd.bind s.curdAt with | some cu => cu.handle | none => 0)).caveWrite t.addr t.data).flip 0 t.addr n)

/-- CST_REFUSED (R150): the refusal of a store to an IMAGE or SYSTEM block arrives. -/
def execCstRefused (core : Fin 256) (s : State) : Host.Outcome State Fault Refusal :=
  let n := core.val; let c := s.core n
  .next (match c.csts with
    | [] => s
    | t :: r =>
      if s.blockProtected t.addr then
        let h := match t.curd.bind s.curdAt with | some cu => cu.handle | none => 0
        (s.setCore n { c with csts := r, wprot := c.wprot || t.curd == c.curd }).excRecord n 0x09 0 t.pc h
      else s)

/-- CMU_LATE (R172, R173): recorded, and it stops the curd or decides the status of a waiting GIVE. -/
def State.cmuLate (s : State) (n kind pc : Nat) : State :=
  let c := s.core n
  let s1 := ((s.setReg .CORE_LATE n (kind + 256 * (c.cmucsr / 256 % 32))).setReg .CORE_LATE_PC n pc).bump .CORE_CNT_LATE n
  match c.wait with
  | .give _ => s1.setCore n { c with lateErr := true }
  | .stop _ => s1
  | _ => s1.coreStop n 0x12

/-- An error of the CMU's table ROM is recorded with MEM 6 (R470, R472): 1 a corrected one, 2 an uncorrectable one, which hits the
order `h`. The ADDR of a ROM word has no layout in the spec and is free. -/
def State.romError (s : State) (n rom h : Nat) : State :=
  let a := Config.freeValue (s.freeCtr + 1) % 2 ^ 64
  if rom = 1 then (s.errRecord (coreDie n) 0x65 6 a 0 n (s.pick 72) 0).used.used
  else if rom = 2 then (s.errRecord (coreDie n) 0x62 6 a 0 n 0x7F h).used.used
  else s

/-- The operation whose result comes next, of those in flight: the least cycle, then the earlier issued (R170). -/
def nextCmu : List CmuOp → Option CmuOp
  | [] => none
  | o :: r =>
    match nextCmu r with
    | some x => if x.due < o.due then some x else some o
    | none => some o

/-- The lanes of a result over the old ones of its register. -/
def CmuOp.over (o : CmuOp) (old : List Nat) : List Nat :=
  (List.range 32).map (fun i => if o.first ≤ i ∧ i < o.first + o.lanes.length then natAt o.lanes (i - o.first) else natAt old i)

/-- CMU_OP_COMPLETE (R170 to R172): of the operations in flight the one whose result comes next completes and writes it; one
that was squashed drains, its result discarded. `rom` is 1 for a corrected and 2 for an uncorrectable table-ROM error. -/
def execCmuOpComplete (core : Fin 256) (rom : Fin 3) (s : State) : Host.Outcome State Fault Refusal :=
  let n := core.val; let c := s.core n
  .next (match nextCmu c.cmu with
    | none => s
    | some o =>
      let s0 := s.setCmu n (c.cmu.erase o) c.longAt
      if o.squashed then s0.romError n rom.val 0
      else
        let c1 := s0.core n
        let s1 := s0.setCore n { c1 with
          v := if o.toV then modAt c1.v o.dest o.over else c1.v
          c := if o.toV then c1.c else modAt c1.c o.dest o.over
          cmucsr := c1.cmucsr ||| (o.flags * 256) }
        let s2 := (if rom.val = 1 then s1.bump .CORE_CNT_ROMCE n else s1).romError n rom.val
          (match c.wait, s.coreCurd n with | .stop _, _ => 0 | _, some cu => cu.handle | _, none => 0)
        if rom.val = 2 then s2.cmuLate n 1 o.pc
        else if o.flags ≠ 0 ∧ bitAt c.cmucsr 0 then s2.cmuLate n 2 o.pc else s2)

/-- CURD_STOP_END (R164): stores passed on, CMU drained of every operation, the squashed ones too, transfers stopped; the curd ends and the core waits in TAKE. -/
def execCurdStopEnd (core : Fin 256) (s : State) : Host.Outcome State Fault Refusal :=
  let n := core.val
  .next (match (s.core n).wait with
    | .stop st =>
      if (s.core n).cmu.isEmpty ∧ !s.tileBusy (coreTile n) (s.core n).curd then
        let t := s.flushLocal n
        t.coreFinish n st 1
      else s
    | _ => s)

/-- CORE_CLR (R174): clears the counters at offsets 0x20 to 0x34. -/
def State.coreClr (s : State) (n : Nat) : State :=
  s.clearRegs [.CORE_CNT_EXC, .CORE_CNT_COLL, .CORE_CNT_LATE, .CORE_CNT_ROMCE, .CORE_CNT_SQUASH, .CORE_CNT_CURDS] n

/-- A core starts a curd (R127, Table 5.3). -/
def State.coreStart (s : State) (n : Nat) (cu : Curd) (slot entry staged : Nat) : State :=
  let b := cu.bytes
  let sr := List.replicate 20 0 ++ [s.stamp, staged, cu.args % 2 ^ 32, cu.args / 2 ^ 32 % 256]
    ++ (List.range 8).map (fun i => u32 b (4 * i))
  let s1 := s.setCore n { s := sr, pc := entry, slot := slot, curd := some cu.addr, csts := (s.core n).csts }
  ((s1.setFld Fld.CORE_STAT_STATE n 2).setReg .CORE_CUR n cu.handle).bump .CORE_CNT_CURDS n

end Sys2Proof.Machine
end

