-- ==== Sys2Proof/Machine/Station.lean ====
section
/-!
DEFINITION. The dispatch stations (chapter 5): release, selection and start, the flow gate, completions, traps,
cancellation, pre-staging and hub jobs without a budget.
-/
namespace Sys2Proof.Machine

/-! ## Executors -/

/-- A D2 session, or its closing fill, holds tile `t` (R504). -/
def State.sessHolds (s : State) (t : Nat) : Bool :=
  s.kp.fills.contains t || (List.range 4).any (fun n =>
    s.fld Fld.DBG_SESS_LEVEL n == 2 && s.fld Fld.DBG_SESS_TILE n == t && ((s.kp.sess.getD n {}).filling || s.fld Fld.DBG_SESS_STATE n == 2))

/-- The cores and the BMU of tile `t` may take work (R120, R504). -/
def State.tileServes (s : State) (t : Nat) : Bool := s.tileOn t && !s.sessHolds t

/-- A curd of the executor is running, or its completion is still to be processed (R121). -/
def State.execHeld (s : State) (e : Nat) : Bool :=
  s.curds.any (fun c => c.exec == e && !c.freed && (c.st == .running || c.st == .ended)) || s.gone.any (fun c => c.exec == e)

/-- A unit that a fence of R228 or R262 bars from beat `f` on takes a job now. -/
def State.unfenced (s : State) (f : Option Nat) : Bool := match f with | none => true | some b => s.absBeat < b

/-- Executors of a class at a station, ascending (Tables 4.7 and 5.1). -/
def execsOf (st cls : Nat) : List Nat :=
  let run := fun a n => (List.range n).map (fun i => a + i)
  if cls = 0 then run (64 * st) 64
  else if cls = 1 then run (256 + 16 * st) 16
  else if cls = 2 then run (320 + 8 * st) 8
  else if cls = 3 then run (352 + 4 * st) 4
  else if cls = 4 then run (368 + 2 * st) 2
  else if cls = 5 then run (376 + 2 * st) 2
  else if cls = 6 then run 448 4
  else [452]

/-- PRACH and sensing executors 448 to 452 as the index of their engine. -/
def pxOfExec (e : Nat) : Option Nat := if 448 ≤ e ∧ e ≤ 452 then some (e - 448) else none

/-- Executor `e` can start a curd in this grain. -/
def State.execFree (s : State) (e : Nat) : Bool :=
  !s.execHeld e &&
  (if e < 256 then s.fld Fld.CORE_STAT_STATE e == 1 && s.tileServes (e / 4)
   else if e < 320 then s.fld Fld.BMU_STAT_STATE (e - 256) == 1 && s.tileServes (e - 256)
   else match engOfExec e with
     | some n => (s.eng n).curd.isNone && !(s.eng n).resetting && s.unfenced (s.eng n).fenceFrom && (s.eng n).freeFrom ≤ s.tm.absGrain
     | none =>
       match pxOfExec e with
       | some n => (s.px n).curd.isNone && !(s.px n).resetting && s.unfenced (s.px n).fenceFrom && (s.px n).freeFrom ≤ s.tm.absGrain
       | none => false)

/-! ## Release (R118) -/

/-- HEAP_RELEASE (R118): in grains 1,008 to 1,023, the station releases the curds of the next beat. The outcomes take
effect at the tick. -/
def State.release (s : State) (st : Nat) : State :=
  if s.gridRun ∧ 1008 ≤ s.grain ∧ s.stationOn st then
    (sortKey (s.curds.filter (fun c => c.station == st && c.st == .held && c.beat == beatAdd s.beat 1))).foldl
      (fun (t : State) (c : Curd) =>
        (t.modCurd c.addr (fun x => { x with st := .released, relFault := !x.skip && x.dep != 0 })).trace st 1 0 0x3FF false c) s
  else s

def execHeapRelease (station : Fin 5) (s : State) : Host.Outcome State Fault Refusal := .next (s.release station.val)

/-! ## Starting a curd -/

/-- The order and the task note that curd `c` starts now. -/
def State.noteStart (s : State) (c : Curd) : State :=
  s.modOrder c.handle (fun o =>
    { o with
      started := some (o.started.getD s.stamp)
      tasks := modAt o.tasks c.task (fun x => { x with floorRan := x.floorRan || c.floor }) })

/-- s21 at the start of a curd on tile `t` (Table 5.3). -/
def stagedWord (c : Curd) (t : Nat) : Nat :=
  match c.staged with
  | some (tile, b) => if tile = t then 1 + 2 * ((0x1C0000 + b * 0x10000) / 64) else 0
  | none => 0

/-- start(c, e, g) of R120: the curd runs on executor `e`. -/
def State.startOn (s : State) (c : Curd) (e : Nat) : State :=
  let s1 := ((s.modCurd c.addr (fun x => { x with st := .running, exec := e, startStamp := s.stamp, token := c.hasFlow })).noteStart c).trace
    c.station 2 0 e false c
  let x := (s1.curdAt c.addr).getD c
  let slot := match s.orderOf c.handle with | some o => o.slot | none => 0
  if e < 256 then s1.coreStart e x slot c.entryOff (stagedWord c (e / 4))
  else if e < 320 then s1.bmuStart (e - 256) x
  else match engOfExec e with
    | some n => s1.engStart n x
    | none => match pxOfExec e with | some n => s1.pxStart n x | none => s1

/-- A curd refused its flow's token (R120, R123). -/
def State.gateCurd (s : State) (c : Curd) : State :=
  let f := s.flow c.flow
  ((s.modCurd c.addr (fun x => { x with st := .gated })).setFlow c.flow { f with gateWaits := (f.gateWaits + 1) % 2 ^ 32 }).trace
    c.station 4 0 f.holder false c

/-! ## Hub jobs without a budget (R126) -/

/-- The egress port of an FH_EGRESS task (R296), or 0. -/
def State.egressPort (s : State) (c : Curd) : Nat :=
  match s.orderOf c.handle with
  | none => 0
  | some o =>
    let img := (s.image o.slot).bytes
    match (costEntries img (imgTaskAt img c.task).costOff).find? (fun e => e.pool == 0xE) with
    | some e => entryIndex e o.params 0 % 16
    | none => 0

/-- Executor a hub job starts under: none yet for HUB_DMA (R368), the port's engine for FH_EGRESS (R296). -/
def State.hubExec (s : State) (c : Curd) : Nat := if c.cls = 9 then 453 + s.egressPort c else 0x3FF

/-- A hub job runs from this grain on. A HUB_DMA job's DISPATCH record is written at its first service (R368); an FH_EGRESS job
reads its descriptor (R296). -/
def State.runHub (s : State) (c : Curd) (e : Nat) : State :=
  let s1 := (s.modCurd c.addr (fun x => { x with st := .running, exec := e, startStamp := s.stamp, token := c.hasFlow })).noteStart c
  if c.cls = 8 then s1
  else
    let s2 := s1.trace 4 2 0 e false c
    if c.cls = 9 then s2.egressPlace { c with exec := e } else s2

/-- start_job (R126): a FLOW_GATED job takes its flow's token first. -/
def State.startHub (s : State) (c : Curd) (e : Nat) : State :=
  if c.hasFlow then
    let r := s.takeToken c.flow e
    if r.1 then r.2.runHub c e else s.gateCurd c
  else s.runHub c e

/-- HUB_DMA and FH_EGRESS jobs without a flow start at the tick; those that are FLOW_GATED ask for their token with the
selections of the grain (R123, R126). -/
def State.startReadyHub (s : State) : State :=
  (sortKey (s.curds.filter (fun c => (c.cls == 8 || c.cls == 9) && c.st == .ready && !c.hasFlow))).foldl
    (fun (t : State) (c : Curd) => t.startHub c (t.hubExec c)) s

/-! ## Selection (R120, R123, R124) -/

/-- One ready curd at its turn: a hub job asks for its token; any other curd takes the lowest free executor of its class, or waits;
`r.1` are the executors still free. -/
def pickStep (st : Nat) (r : List Nat × State) (c : Curd) : List Nat × State :=
  if hubJobClass c.cls then (r.1, r.2.startHub c (r.2.hubExec c))
  else match (execsOf st c.cls).find? (fun e => r.1.contains e) with
    | none => r
    | some e =>
      if c.hasFlow then
        let t := r.2.takeToken c.flow e
        if t.1 then (r.1.erase e, t.2.startOn c e) else (r.1, r.2.gateCurd c)
      else (r.1.erase e, r.2.startOn c e)

/-- Classes that a station serves with executors (Table 5.1). -/
def classesOf (st : Nat) : List Nat := if st = 4 then [6, 7] else [0, 1, 2, 3, 4, 5]

/-- The curds that a station may start in this grain: from grain 1,000 on, hub jobs alone (R120, R126). -/
def State.selectable (s : State) (st : Nat) : List Curd :=
  s.curds.filter (fun c => c.station == st && c.st == .ready && (c.cls == 8 || c.cls == 9 || (s.grain ≤ 999 && !hubJobClass c.cls)))

/-- select of R120 for every class of a station at once: the station looks at its ready curds in ascending key, whatever their
class, so that the smallest key of a flow takes its token (R124). Within a class this is the order of the procedure; the order
between classes is the model's. DEDUCED, log entry 35. -/
def State.select (s : State) (st : Nat) : State :=
  ((sortKey (s.selectable st)).foldl (pickStep st) (((classesOf st).flatMap (execsOf st)).filter s.execFree, s)).2

/-- DISPATCH_SELECT (R120, R123): the queue manager serves the stations in order 0 to 4. -/
def State.selectAll (s : State) : State :=
  if s.gridRun then (List.range 5).foldl (fun t st => if t.stationOn st then t.select st else t) s else s

def execDispatchSelect (s : State) : Host.Outcome State Fault Refusal := .next s.selectAll

/-- HUB_JOB_OVERRUN (R126, R248): at the tick that ends their beat, jobs still running or GATED end with OVERRUN; egress jobs write
their status blocks as they end. -/
def State.hubOverrun (s : State) : State :=
  ((s.curds.filter (fun c => hubJobClass c.cls && beatBefore c.beat s.beat)).foldl (fun (t : State) (c : Curd) =>
    if c.st = .running then t.endCurd c.addr 0x15
    else if c.st = .gated ∨ c.st = .ready then (t.endCurd c.addr 0x15).bump .DISP_UNSTARTED 4
    else t) s).egressSweep

/-! ## Completions (R130) -/

/-- COMPLETION_PROCESS: the completions due at a station. -/
def State.processDue (s : State) (st : Nat) : State :=
  (s.dueCompletions st).foldl (fun (t : State) (c : Bool × Curd) =>
    if c.1 then t.completeGone c.2
    else match t.curdAt c.2.addr with | some x => t.complete x true | none => t) s

/-! ## Traps and cancellation -/

/-- The executor of a running curd stops with status `st`: a core by the procedure of R164, other units at once. -/
def State.stopCurd (s : State) (c : Curd) (st : Nat) : State :=
  if c.st ≠ .running then s
  else if c.exec < 256 then s.coreStop c.exec st
  else if c.exec < 320 then s.bmuEnd (c.exec - 256) st
  else match engOfExec c.exec with
    | some n => s.engStop n st
    | none => match pxOfExec c.exec with | some n => s.pxStop n st | none => (s.endCurd c.addr st).egressSweep

/-- BUDGET_TRAP (R54, R163): the curd on the executor has reached its budget. -/
def State.budgetTrap (s : State) (e : Nat) : State :=
  match s.curds.find? (fun c => c.exec == e && c.st == .running && c.cls ≤ 7) with
  | none => s
  | some c => if stampGrain c.startStamp + c.budget ≤ s.grain then s.stopCurd c 0x15 else s

def execBudgetTrap (exec : Fin 481) (s : State) : Host.Outcome State Fault Refusal := .next (s.budgetTrap exec.val)

/-- BEAT_END_TRAP (R54, R122): at grain 1,000, running curds and jobs with a budget stop with OVERRUN, and those still
READY or GATED end unstarted. -/
def State.beatEnd (s : State) : State :=
  if s.gridRun ∧ s.grain = 1000 then
    (s.curds.filter (fun c => c.cls ≤ 7)).foldl (fun (t : State) (c : Curd) =>
      if c.st = .running then t.stopCurd c 0x15
      else if c.st = .ready ∨ c.st = .gated then (t.endCurd c.addr 0x15).bump .DISP_UNSTARTED c.station
      else t) s
  else s

def execBeatEndTrap (s : State) : Host.Outcome State Fault Refusal := .next s.beatEnd

/-- R136: every curd of an order that has not ended is removed or stopped with CANCELLED, each with its CANCEL record. -/
def State.cancelCurds (s : State) (h : Nat) : State :=
  (s.curds.filter (fun c => c.handle == h && c.st != .ended)).foldl (fun (t : State) (c : Curd) =>
    if c.st = .running then (t.stopCurd c 0x16).trace c.station 6 0x16 c.exec false c
    else (t.endCurd c.addr 0x16).trace c.station 6 0x16 0x3FF true c) s

/-! ## Pre-staging (R132 to R135) -/

/-- The extents of a staging header, or none when it is not one that is staged (R133, Table 5.4). DEDUCED, log entry 50. -/
def stageExtents (b : List Byte) : Option (List (Nat × Nat × Nat)) :=
  let n := u16 b 0
  let xs := (List.range n).map (fun i => (u64 b (16 + 16 * i), u16 b (24 + 16 * i), u16 b (26 + 16 * i)))
  if n = 0 ∨ 4 < n ∨ !allZero (slice b 2 14) ∨ !(List.range n).all (fun i => allZero (slice b (28 + 16 * i) 4)) then none
  else if xs.all (fun x => x.1 < 2 ^ 40 && x.1 % 64 == 0 && decide (1 ≤ x.2.1 ∧ x.2.1 ≤ 1024)
      && (x.2.2 < 1024 || decide (0x8000 ≤ x.2.2 ∧ x.2.2 ≤ 0x800F)))
      && decide (xs.foldl (fun a x => a + x.2.1) 0 ≤ 1024) then some xs
  else none

/-- An extent is eligible (R133): its producer is a predecessor task and DEP is 0, or its input has arrived and DEP is at
most 1. DEDUCED, log entry 50. -/
def State.stageEligible (s : State) (c : Curd) (producer : Nat) : Bool :=
  match s.orderOf c.handle with
  | none => false
  | some o =>
    if producer < 0x8000 then
      let img := (s.image o.slot).bytes
      decide (producer < imgNTask img) && (imgSuccs img (imgTaskAt img producer)).any (fun x => x.1 == c.task) && c.dep == 0
    else o.inputs.any (fun i => i.port == producer - 0x8000 && i.arrived) && c.dep ≤ 1

/-- A tile turns off with a power entry in progress (R488). -/
def State.tileLeaving (s : State) (t : Nat) : Bool :=
  match s.pw.entry with | some e => bitAt e.tiles t || bitAt e.dies (t / 16) | none => false

/-- Staging buffers of a tile that a curd holds. -/
def State.stageUsed (s : State) (t : Nat) : List Nat :=
  s.curds.filterMap (fun c => match c.staged with | some x => if x.1 = t ∧ !c.freed then some x.2 else none | none => none)

/-- Staged curds of a tile that have not started. -/
def State.stageWaiting (s : State) (t : Nat) : Nat :=
  (s.curds.filter (fun c => (match c.staged with | some x => x.1 == t | none => false) && (c.st == .held || c.st == .released || c.st == .ready || c.st == .gated))).length

/-- The tile of a die that a curd is staged into (R134): of those with a free buffer, the fewest waiting, then the lowest. DEDUCED, log entry 50. -/
def State.stageTile (s : State) (d : Nat) : Option Nat :=
  (((List.range 16).map (fun i => 16 * d + i)).filter (fun t => s.tileServes t && !s.tileLeaving t && decide ((s.stageUsed t).length < 4))).foldl
    (fun (b : Option Nat) t => match b with | none => some t | some x => if s.stageWaiting t < s.stageWaiting x then some t else some x) none

/-- Copies an extent into tile memory, from TSM key `k`. -/
def State.stageCopy (s : State) (k : Nat) (x : Nat × Nat × Nat) : State :=
  { (s.cleanRange 1 k (64 * x.2.1)) with tsm := writeBytes s.tsm k (s.caveRead x.1 (64 * x.2.1)) }

/-- PRESTAGE (R133, R134): the station of a die stages the curd whose descriptor stands at `a`. DEDUCED, log entry 50. -/
def State.prestage (s : State) (d a : Nat) : State :=
  match s.curdAt a with
  | none => s
  | some c =>
    let b := s.caveRead c.args 80
    let soon := c.beat == beatAdd s.beat 1 || c.beat == s.beat
    if s.fld Fld.DISP_CTRL_PRESTAGE d = 1 ∧ c.station = d ∧ c.cls ≤ 1 ∧ s.stationOn d ∧ c.staged = none ∧ soon ∧ !c.skip
        ∧ (c.st = .held ∨ c.st = .released ∨ c.st = .ready ∨ c.st = .gated) then
      match stageExtents b, s.stageTile d with
      | some xs, some t =>
        if xs.all (fun x => s.stageEligible c x.2.2) then
          match xs.find? (fun x => !s.rangeOk 0 x.1 (64 * x.2.1)) with
          | some x => s.readBad 0 x.1 (64 * x.2.1) d 0x3FF 0      -- the buffer is freed again; no order is hit (R470, R471)
          | none =>
            let free := (List.range 4).filter (fun i => !(s.stageUsed t).contains i)
            let n := natAt free (s.pick free.length)
            let base := t * 2 ^ 21 + 0x1C0000 + n * 0x10000
            let r := xs.foldl (fun (r : Nat × State) x => (r.1 + 64 * x.2.1, (r.2.readRange 0 x.1 (64 * x.2.1) d 0 0x3FF 0).stageCopy r.1 x)) (base, s.used)
            (r.2.modCurd a (fun y => { y with staged := some (t, n), stagedRead := false })).bump .DISP_STAGED d
        else s
      | _, _ => s
    else s

def execPrestage (die : Fin 4) (curd : Nat) (s : State) : Host.Outcome State Fault Refusal := .next (s.prestage die.val curd)

/-! ## The tick and the counters -/

/-- Released curds take their outcome at the tick (R118): a failure, or READY. Curds of this beat that are still held
came too late and end in the same way. -/
def State.tickRelease (s : State) : State :=
  (sortKey (s.curds.filter (fun c => c.st == .released || (c.st == .held && atOrAfter s.beat c.beat)))).foldl
    (fun (t : State) (c : Curd) =>
      if c.skip then t.endCurd c.addr 0x12 true
      else if c.relFault || c.st == .held then (t.endCurd c.addr 0x12 true).bump .DISP_RELEASE_FLT c.station
      else t.modCurd c.addr (fun x => { x with st := .ready })) s

/-- A station's trace writer at the tick: the half-filled descriptor is completed with a PAD where the queue takes records
(R138, R139), and the beat's count restarts. The station of a die that does not run writes nothing (R136). -/
def State.tickTrace (s : State) (st : Nat) : State :=
  let t := s.traceAt st
  let s1 :=
    if t.half = [] then s
    else if !s.stationOn st then s.setTrace st { t with half := [] }
    else if s.traceOn st then s.traceWrite st (traceRec s.stamp 0 0 0 false 0 0) 0 0
    else (s.setTrace st { t with half := [] }).traceLost st t.halfRecs t.halfLost
  s1.setTrace st { s1.traceAt st with written := 0 }

/-- Entries in use at a station, and its high-water mark (R141). -/
def State.storeUsed (s : State) (st : Nat) : Nat := (s.curds.filter (fun c => c.station == st && !c.freed)).length
def State.noteStore (s : State) (st : Nat) : State :=
  s.setReg .DISP_STORE_MAX st (max (s.reg .DISP_STORE_MAX st) (s.storeUsed st))

/-- DISP_CLR_STATS (R141): the counters clear, and the largest USED since the clear is what is in use. -/
def State.dispClr (s : State) (st : Nat) : State :=
  (s.clearRegs [.DISP_TRACE_DROPS, .DISP_STORE_MAX, .DISP_UNSTARTED, .DISP_RELEASE_FLT, .DISP_STRAY, .DISP_STAGED,
    .DISP_STAGE_UNUSED] st).noteStore st

/-- R25 (R174, R207, R229): a write to a core, BMU or engine register of a die that is not RUN is discarded. -/
def State.ifDie (s : State) (d : Nat) (r : RegId) (i : Nat) (src : Source) (t : State) : State :=
  if s.dieStat d = 1 then t else s.werrReg r i src

def execDispClrStats (station : Fin 5) (src : Source) (s : State) : Host.Outcome State Fault Refusal := .next (s.busGate (RegId.offset .DISP_CTRL station.val) src (s.dispClr station.val))

/-- CORE_CLR (R174). -/
def execCoreClr (core : Fin 256) (src : Source) (s : State) : Host.Outcome State Fault Refusal :=
  .next (s.busGate (RegId.offset .CORE_CLR core.val) src (s.ifDie (core.val / 64) .CORE_CLR core.val src (s.coreClr core.val)))

/-- BMU_CLR (R207). -/
def execBmuClr (tile : Fin 64) (src : Source) (s : State) : Host.Outcome State Fault Refusal :=
  .next (s.busGate (RegId.offset .BMU_CLR tile.val) src (s.ifDie (tile.val / 16) .BMU_CLR tile.val src (s.bmuClr tile.val)))

/-- ENG_CLR (R229). -/
def execEngClr (eng : Fin 64) (src : Source) (s : State) : Host.Outcome State Fault Refusal :=
  .next (s.busGate (RegId.offset .ENG_CLR eng.val) src (s.ifDie (eng.val / 16) .ENG_CLR eng.val src (s.engClr eng.val)))

/-- ENGINE_FENCE (R228). -/
def execEngineFence (die : Fin 4) (value : Word) (src : Source) (s : State) : Host.Outcome State Fault Refusal :=
  .next (s.busGate (RegId.offset .ENG_FENCE die.val) src (s.ifDie die.val .ENG_FENCE die.val src (s.engFence die.val value.toNat)))

/-- ENGINE_FAULT (R227, R262): units 0 to 63 are coding engines (die × 16 + n), 64 to 67 PX0 to PX3, 68 SE0. -/
def execEngineFault (unit : Fin 69) (s : State) : Host.Outcome State Fault Refusal :=
  .next (if unit.val < 64 then s.engFault unit.val else s.pxFault (unit.val - 64))

/-- ENGINE_SELF_RESET (R227): the engine is free again. -/
def execEngineSelfReset (unit : Fin 69) (s : State) : Host.Outcome State Fault Refusal :=
  .next (if unit.val < 64 then s.setEng unit.val { s.eng unit.val with resetting := false }
    else s.setPx (unit.val - 64) { s.px (unit.val - 64) with resetting := false })

end Sys2Proof.Machine
end

