-- ==== Sys2Proof/Machine/Front.lean ====
section
/-!
DEFINITION. Fronthaul ingress (R278 to R295): air time and binding, the checks of a received frame, the discard counters
and samples, and the writing of sections into an input's grid.
-/
namespace Sys2Proof.Machine

/-! ## Air time (R288), in units of 1/384 ns: one Ts of TS 38.211 is 12,500 of them -/

/-- Slots of a subframe for a numerology; 4 is LTE. -/
def slotsPerSub (mu : Nat) : Nat := if mu = 4 then 1 else 2 ^ mu

/-- Start of symbol `l` within a subframe (normal cyclic prefix), in Ts. LTE follows the grid of numerology 0. -/
def symTs (mu l : Nat) : Nat :=
  let m := if mu = 4 then 0 else mu
  l * (2192 / 2 ^ m) + (if 1 ≤ l then 16 else 0) + (if 7 * 2 ^ m + 1 ≤ l then 16 else 0)

/-- Air start of symbol `sym` of slot `slot`, counted from frame 0. -/
def State.airUnits (s : State) (mu slot sym : Nat) : Int :=
  let k := slotsPerSub mu
  384 * s.frame0 + ((slot / k * 384000000 + symTs mu (slot % k * 14 + sym) * 12500 : Nat) : Int)

/-- The start of an absolute grain. -/
def State.grainUnits (s : State) (g : Nat) : Int := 384 * s.frame0 + ((g * 46875 : Nat) : Int)

/-- The slot an FH_UPLANE input is bound to (R288), from its last symbol's end and its READY stamp: the latest whose end lies at
most a slot length before. Slots are not all equally long, so that no slot may hold a stamp. DEDUCED, log entry 67. -/
def State.bindSlot (s : State) (mu lastSym ready : Nat) : Option Nat :=
  let g := s.absOfStamp ready
  let len := 384000000 / slotsPerSub mu
  let t := s.grainUnits g
  let k := g * 46875 / len
  [k + 1, k, k - 1, k - 2].find? (fun x =>
    let e := s.airUnits mu x (lastSym + 1)
    decide (e ≤ t ∧ t < e + (len : Int)))

/-- The frame, counted from frame 0, whose SFN mod 256 is `fid` and which lies nearest to ns `now` (R288). DEDUCED, log entry 67. -/
def State.nearFrame (s : State) (fid now : Nat) : Nat :=
  let cur := (((now : Int) - s.frame0) / 10000000).toNat
  let d := (fid + 256 - cur % 256) % 256
  if d < 128 then cur + d else cur - (256 - d)

/-! ## Carriers and streams -/

def carIdx (p c : Nat) : Nat := p * 32 + c
/-- The stream entry (port × 128 + i) that maps AxC `a` (R283); the entries of a merged odd port are ignored (R279). -/
def State.axcEntry (s : State) (a : Nat) : Option Nat :=
  (List.range 2048).find? (fun e => s.fld Fld.FH_AXC_VALID e == 1 && s.fld Fld.FH_AXC_AXC e == a && !s.fhShadowed (e / 128))
/-- The carrier index (port × 32 + c) of a stream entry. -/
def State.entryCar (s : State) (e : Nat) : Nat := carIdx (e / 128) (s.fld Fld.FH_AXC_CAR e)
def State.axcCar (s : State) (a : Nat) : Nat := match s.axcEntry a with | some e => s.entryCar e | none => 0
/-- The stream entry of a port whose eAxC ID is `pc`. -/
def State.pcEntry (s : State) (p pc : Nat) : Option Nat :=
  ((List.range 128).map (fun i => p * 128 + i)).find? (fun e => s.fld Fld.FH_AXC_VALID e == 1 && s.fld Fld.FH_AXC_EAXC e == pc)
/-- The enabled sensing stream that a PC_ID of a port names (R263). -/
def State.pcSense (s : State) (p pc : Nat) : Option Nat :=
  (List.range 32).find? (fun n => s.fld Fld.SE_S_CFG_EN n == 1 && s.fld Fld.SE_S_CFG_PORT n == p && s.fld Fld.SE_S_CFG_PCID n == pc)

/-! ## Inputs -/

def fhFirst (i : InputSt) : Nat := bits i.ref 9 0
def fhN (i : InputSt) : Nat := bits i.ref 25 16
def fhSym (i : InputSt) : Nat := bits i.ref 35 32
def fhNSym (i : InputSt) : Nat := bits i.ref 43 40

/-- L_RA of the PRACH occasion that reads an input, from the order's allocations (R256). -/
def Order.prachLen (o : Order) (port : Nat) : Option Nat :=
  (o.allocs.find? (fun a => a.kind == 4 && u8 a.body 9 % 16 == port)).map (fun a =>
    let e := zeros 8 ++ a.body
    let p := prachOf e
    p.lra)

/-- Subcarriers or samples from one (l, a) of the grid to the next: a multiple of 16 (R177, R256). -/
def State.gridStride (s : State) (o : Order) (i : InputSt) : Nat :=
  let car := s.axcCar (fhFirst i)
  let n := match s.axcEntry (fhFirst i) with
    | some e => if s.fld Fld.FH_AXC_PRACH e = 1 then (o.prachLen i.port).getD (12 * s.fld Fld.FH_C_CFG_NPRB car) else 12 * s.fld Fld.FH_C_CFG_NPRB car
    | none => 12 * s.fld Fld.FH_C_CFG_NPRB car
  ceilDiv n 16 * 16

/-- Bytes of an input's grid, and of its grid with the erasure map (R177, R178). -/
def State.gridBytes (s : State) (o : Order) (i : InputSt) : Nat := fhNSym i * fhN i * s.gridStride o i * 4
def mapOffset (grid : Nat) : Nat := ceilDiv grid 64 * 64

def Order.input (o : Order) (port : Nat) : Option InputSt := o.inputs.find? (fun i => i.port == port)
def Order.modInput (o : Order) (port : Nat) (f : InputSt → InputSt) : Order :=
  { o with inputs := o.inputs.map (fun i => if i.port = port then f i else i) }

/-- The order and input that a frame of AxC `a`, symbol `sym`, slot `slot` matches (R288). -/
def State.matchInput (s : State) (a sym slot : Nat) : Option (Order × InputSt) :=
  s.orders.findSome? (fun o =>
    (o.inputs.find? (fun i => i.kind == 0 && i.bound == some slot
      && decide (fhFirst i ≤ a ∧ a < fhFirst i + fhN i ∧ fhSym i ≤ sym ∧ sym < fhSym i + fhNSym i))).map (fun i => (o, i)))

/-! ## Dropped frames (R294, R295) -/

/-- Counter of a check of Table 11.4. -/
def wheyReg (check : Nat) : RegId :=
  match check with
  | 1 => .FH_WHEY_NOBUF | 2 => .FH_WHEY_MAC | 3 => .FH_WHEY_SEC | 4 => .FH_WHEY_DMAC | 5 => .FH_WHEY_SMAC | 6 => .FH_WHEY_VLAN
  | 7 => .FH_WHEY_ETYPE | 8 => .FH_WHEY_ECPRI | 9 => .FH_WHEY_EAXC | 10 => .FH_WHEY_SEQ | 11 => .FH_WHEY_HDR
  | 13 => .FH_WHEY_NOORDER | 14 => .FH_WHEY_CLOSED | 15 => .FH_WHEY_SECTION | 16 => .FH_WHEY_INQ
  | _ => .FH_WHEY_MAC

/-- A pointer descriptor (Table 4.4). -/
def ptrDesc (addr len aux stamp flags : Nat) (user : List Byte) : List Byte :=
  leBytes 8 addr ++ leBytes 4 len ++ leBytes 4 aux ++ leBytes 4 stamp ++ leBytes 1 0 ++ leBytes 1 flags ++ zeros 2
    ++ (user ++ zeros 8).take 8

/-- Samples a dropped frame into the whey queue (R294). DEDUCED, log entry 49. -/
def State.wheySample (s : State) (p check : Nat) (bytes : List Byte) : State :=
  if s.fld Fld.FH_WHEYQ_ENABLE p = 0 then s
  else
    let n := (s.port p).drops + 1
    if n < 2 ^ s.fld Fld.FH_WHEYQ_SAMPLE p then s.setPort p { s.port p with drops := n }
    else
      let s1 := s.setPort p { s.port p with drops := 0 }
      if s1.genAvail = 0 then s1
      else
        let q := s.fld Fld.FH_WHEYQ_QUEUE p
        let r := s1.takeGen (.queue q)
        let d := bytes.take 128
        let u := leBytes 7 (r.2.pick (2 ^ 56))
        (r.2.used.caveWrite (r.1 * 4096) d).enqueue q
          (ptrDesc (r.1 * 4096) d.length (0x7FFFFF + p * 2 ^ 24) s.stamp 2 (leBytes 1 check ++ u)) (.whey p)

/-- A frame dropped by a check: counted, and sampled. DEDUCED, log entry 49. -/
def State.whey (s : State) (p check : Nat) (r : RegId) (bytes : List Byte) : State := (s.bump r p).wheySample p check bytes

/-! ## The checks of Table 11.4 -/

/-- The Ethernet header of a frame: tag VID, EtherType and the offset of what follows it. -/
structure EthHdr where
  vid : Option Nat
  etype : Nat
  off : Nat
  deriving DecidableEq, Repr

def ethHdr (b : List Byte) : EthHdr :=
  if beAt b 12 2 = 0x8100 then ⟨some (beAt b 14 2 % 4096), beAt b 16 2, 18⟩ else ⟨none, beAt b 12 2, 14⟩

def ptpAddr (d : Nat) : Bool := d == 0x011B19000000 || d == 0x0180C200000E

/-- The packet number of a received frame (R299): with XPN its upper half follows the highest one received. PRESUMED, log entry 48. -/
def State.rxNumber (s : State) (p an pn : Nat) : Nat :=
  let hi := natAt (s.port p).rxPn an
  if s.fld Fld.FH_CFG_XPN p = 0 then pn
  else (hi / 2 ^ 32 + (if pn % 2 ^ 32 + 2 ^ 31 ≤ hi % 2 ^ 32 then 1 else 0)) * 2 ^ 32 + pn % 2 ^ 32

/-- Check 3 (R299). -/
def State.secOk (s : State) (p : Nat) (f : RxFrame) (h : EthHdr) : Bool :=
  if s.fld Fld.FH_CFG_SEC_EN p = 0 then true
  else match f.sec with
    | none => s.fld Fld.FH_CFG_SEC_BYPASS_TIME p == 1 && (h.etype == 0x88F7 || h.etype == 0x8809)
    | some (an, pn, ok) =>
      ok && an < 4 && bitAt (s.fld Fld.FH_SEC_CFG_RX_AN_VALID p) an && pn != 0
        && natAt (s.port p).rxPn an ≤ s.rxNumber p an pn + s.fld Fld.FH_SEC_CFG_REPLAY_WIN p

/-- Checks 2 to 7 before policing: the number of the first that fails, 0 for none. -/
def State.linkCheck (s : State) (p : Nat) (f : RxFrame) (h : EthHdr) : Nat :=
  let dst := beAt f.bytes 0 6; let src := beAt f.bytes 6 6
  if !f.fcsOk || f.len < 64 || s.fld Fld.FH_CFG_MTU p < f.len then 2
  else if !s.secOk p f h then 3
  else if !(dst == macOf (s.reg .FH_MAC_LO p) (s.reg .FH_MAC_HI p) || (ptpAddr dst && s.fld Fld.FH_CFG_PTP_EN p == 1) || dst == 0x0180C2000002) then 4
  else if !((List.range 8).any (fun i => s.fld Fld.FH_SMAC_HI_VALID (p * 8 + i) == 1
      && macOf (s.reg .FH_SMAC_LO (p * 8 + i)) (s.fld Fld.FH_SMAC_HI_MAC (p * 8 + i)) == src)) then 5
  else if !(match h.vid with
      | some v => (List.range 4).any (fun i =>
          (s.fld Fld.FH_VLAN_VALID_A (p * 4 + i) == 1 && s.fld Fld.FH_VLAN_VID_A (p * 4 + i) == v)
            || (s.fld Fld.FH_VLAN_VALID_B (p * 4 + i) == 1 && s.fld Fld.FH_VLAN_VID_B (p * 4 + i) == v))
      | none => s.fld Fld.FH_CFG_TAG_REQ p == 0 || h.etype == 0x88F7 || h.etype == 0x8809) then 6
  else if !(h.etype == 0xAEFE || (h.etype == 0x88F7 && s.fld Fld.FH_CFG_PTP_EN p == 1)
      || (h.etype == 0x8809 && u8 f.bytes h.off == 0x0A)
      || (h.etype != 0 && (h.etype == s.fld Fld.FH_HOST_ETYPE_ETYPE0 p || h.etype == s.fld Fld.FH_HOST_ETYPE_ETYPE1 p))) then 7
  else 0

/-- Fills the buckets of a port up to ns `now` (R293). -/
def State.fillBuckets (s : State) (p now : Nat) : FhPort :=
  let x := s.port p
  let dt := now - x.fillNs
  { x with
    data := min (x.data + s.fld Fld.FH_POLICE_DATA_RATE p * 100 * dt) (s.fld Fld.FH_POLICE_DATA_BURST p * 32768000)
    ctrl := min (x.ctrl + s.fld Fld.FH_POLICE_CTRL_CTRL_RATE p * dt) (s.fld Fld.FH_POLICE_CTRL_CTRL_BURST p * 8192000)
    fillNs := max now x.fillNs }

/-- Policing (R293): whether the frame passes, and the port after it. -/
def State.police (s : State) (p : Nat) (ecpri : Bool) (len now : Nat) : Bool × FhPort :=
  let x := s.fillBuckets p now
  let need := len * 8000
  if ecpri then
    if s.fld Fld.FH_POLICE_DATA_RATE p = 0 then (true, x)
    else if need ≤ x.data then (true, { x with data := x.data - need }) else (false, x)
  else
    if s.fld Fld.FH_POLICE_CTRL_CTRL_RATE p = 0 then (true, x)
    else if need ≤ x.ctrl then (true, { x with ctrl := x.ctrl - need }) else (false, x)

/-- Check 8: the eCPRI header at offset `o`. PRESUMED, log entry 48. -/
def ecpriOk (b : List Byte) (o : Nat) : Bool :=
  let sz := beAt b (o + 2) 2
  u8 b o == 0x10 && (u8 b (o + 1) == 0 || u8 b (o + 1) == 5)
    && (b.length == o + 4 + sz || (b.length == 60 && decide (o + 4 + sz ≤ 60)))

/-- The sequence check of R292 on stream key `k`: passes, and the count of the gap. PRESUMED, log entry 48. -/
def FhPort.seqStep (x : FhPort) (k q ns : Nat) : Bool × Nat × FhPort :=
  match Sparse.get none x.seq k with
  | none => (true, 0, { x with seq := Sparse.set none x.seq k (some ⟨q, ns⟩) })
  | some l =>
    let d := (q + 256 - l.last) % 256
    if d = 0 ∨ 129 ≤ d then (false, 0, { x with seq := Sparse.set none x.seq k (some { l with ns := ns }) })
    else (true, d - 1, { x with seq := Sparse.set none x.seq k (some ⟨q, ns⟩) })

/-! ## Sections -/

/-- Bytes of one received PRB of a carrier, its parameter byte included; none for a method that does not exist (R439) or a width
that the engines do not support (Table 11.2). PRESUMED, log entry 48. -/
def State.prbBytes (s : State) (method width : Nat) : Option Nat :=
  if method = 0 then (if width = 16 then some 48 else none)
  else if method = 1 then (if [8, 9, 12, 14].contains width then some (1 + 3 * width) else none)
  else if 8 ≤ method ∧ s.fld Fld.LR_STAT_STATE = 3 ∧ bitAt (s.fld Fld.LR_CAP_CAP) (method - 8) then
    some (1 + natAt (s.lr.regions.getD 0 {}).prbLen (method - 8))
  else none

/-- The sections of a U-plane payload: (first PRB, PRBs, data), or none where check 15 fails. PRESUMED, log entry 48. -/
def sectionsOf (nprb plen : Nat) (static : Bool) (comp : Nat) : Nat → List Byte → Option (List (Nat × Nat × List Byte))
  | 0, _ => none
  | fuel + 1, b =>
    if b = [] then some []
    else
      let w := beAt b 0 3
      let rb := bitAt w 11; let inc := bitAt w 10; let st := w % 1024
      let n0 := u8 b 3
      let n := if n0 = 0 then nprb else n0
      let st := if n0 = 0 then 0 else st
      let h := if static then 4 else 6
      if b.length < h + n * plen || rb || inc || nprb < st + n || (!static && u8 b 4 != comp) then none
      else (sectionsOf nprb plen static comp fuel (b.drop (h + n * plen))).map (fun r => (st, n, slice b h (n * plen)) :: r)

/-- Bit string fields of `w` bits, first bit first. -/
def bitFields (w n : Nat) (b : List Byte) : List Nat :=
  let v := beNat b
  (List.range n).map (fun i => v / 2 ^ (8 * b.length - w * (i + 1)) % 2 ^ w)

/-- The 24 components of one received PRB (R286). -/
def State.expandPrb (s : State) (method width : Nat) (b : List Byte) : List Int :=
  if method = 0 then (bitFields width 24 b).map (sext width)
  else if method = 1 then
    (bitFields width 24 (b.drop 1)).map (fun m => sat16 (sext width m * (2 ^ (u8 b 0 % 16) : Nat)))
  else
    let r := Config.lrExpand (s.reg .LR_ID) (s.reg .LR_VER) method (u8 b 0) (b.drop 1)
    (List.range 24).map (fun i => sat16 (r.getD i 0))

/-- Components as C16 lanes (R12). -/
def laneBytes (x : List Int) : List Byte :=
  (List.range (x.length / 2)).flatMap (fun i => leBytes 2 (enc 16 (x.getD (2 * i) 0)) ++ leBytes 2 (enc 16 (x.getD (2 * i + 1) 0)))

/-- The sections of a held frame. -/
def State.heldSections (s : State) (p : Nat) (h : FhHeld) : List (Nat × Nat × List Byte) :=
  let c := carIdx p h.car
  let m := s.fld Fld.FH_C_CFG_METHOD c; let w := s.fld Fld.FH_C_CFG_WIDTH c
  match s.prbBytes m w with
  | none => []
  | some n => (sectionsOf (s.fld Fld.FH_C_CFG_NPRB c) n (s.fld Fld.FH_C_CFG_STATIC c == 1) (w % 16 * 16 + m) (h.payload.length + 1) h.payload).getD []

/-- An (l, a) of an input is complete (R290), by the carrier and kind of its own stream. -/
def State.unitComplete (s : State) (i : InputSt) (unit : Nat) (cov : List (Nat × Nat × Nat)) : Bool :=
  let a := fhFirst i + unit % fhN i
  let c := s.axcCar a
  let prach := match s.axcEntry a with | some e => s.fld Fld.FH_AXC_PRACH e == 1 | none => false
  let mine := cov.filter (fun x => x.1 == unit)
  if s.fld Fld.FH_C_CFG_FULL c == 0 || prach then mine != []
  else (List.range (s.fld Fld.FH_C_CFG_NPRB c)).all (fun b => mine.any (fun x => decide (x.2.1 ≤ b ∧ b < x.2.1 + x.2.2)))

/-- FH_SECTION_WRITTEN (R290): the oldest accepted frame of a port is written into its input's grid; the input arrives in
the grain in which its last (l, a) becomes complete (R53), and in grain 1,016 still arrives before its close. -/
def State.sectionWritten (s : State) (p : Nat) : State :=
  match (s.port p).held with
  | [] => s
  | h :: r =>
    let s1 := (s.setPort p { s.port p with held := r }).setFld Fld.FH_GRAN_RX_FREE p (s.fld Fld.FH_GRAN_RX_FREE p + h.granules)
    match s.orderOf h.handle with
    | none => s1
    | some o =>
      match o.input h.inPort with
      | none => s1
      | some i =>
        let c := carIdx p h.car
        let m := s.fld Fld.FH_C_CFG_METHOD c; let w := s.fld Fld.FH_C_CFG_WIDTH c
        let plen := (s.prbBytes m w).getD 1
        let stride := s.gridStride o i
        let secs := s.heldSections p h
        let s2 := secs.foldl (fun (t : State) x =>
          let lanes := (List.range x.2.1).flatMap (fun k => laneBytes (t.expandPrb m w (slice x.2.2 (k * plen) plen)))
          -- elements past the row's end are not part of the grid
          let room := (if h.prach then (o.prachLen h.inPort).getD stride else stride) - 12 * x.1
          t.hubWrite h.handle (i.buf + (h.unit * stride + 12 * x.1) * 4) (453 + p) (lanes.take (4 * room))) s1
        let cov := i.cov ++ secs.map (fun x => (h.unit, x.1, x.2.1))
        let done := (List.range (fhNSym i * fhN i)).all (fun u => s.unitComplete i u cov)
          && (!i.closed || (s.grain == 1016 && s.beat == beatSub i.firstBeat 1))
        let late := !stampAtOrAfter i.ready s.stamp
        s2.modOrder h.handle (fun o => o.modInput h.inPort (fun i =>
          { i with cov := cov, arrived := i.arrived || done, missing := i.missing && !done
                   late := i.late || (done && !i.arrived && late) }))

/-- Frames whose write is due: it ends within 4 grains of their last byte (R290). -/
def State.writesDue (s : State) : State :=
  (List.range 16).foldl (fun (t : State) p =>
    (List.range ((t.port p).held.filter (fun h => h.grain + 4 < s.tm.absGrain)).length).foldl (fun (u : State) _ => u.sectionWritten p) t) s

def execFhSectionWritten (port : Fin 16) (s : State) : Host.Outcome State Fault Refusal := .next (s.sectionWritten port.val)

/-- (l, a) of an input whose accepted frames are still to be written. -/
def State.pendingUnits (s : State) (h : Nat) (i : InputSt) : List Nat :=
  s.fh.flatMap (fun e => (e.2.held.filter (fun x => x.handle == h && x.inPort == i.port)).map FhHeld.unit)

/-- The erasure map of an input (R178): a bit is 1 where nothing of its (l, a) arrived; writes that are `pending` count. -/
def erasureMap (i : InputSt) (pending : List Nat) : List Byte :=
  let n := fhNSym i * fhN i
  leBytes (ceilDiv n 8) ((List.range n).foldl (fun m u =>
    if i.cov.any (fun x => x.1 == u) || pending.contains u then m else m + 2 ^ u) 0)

/-! ## Receiving -/

/-- The answer to an eCPRI one-way delay request, with or without a follow-up (R285), received at `ns`: the responder's receive
time. PRESUMED, log entry 48. -/
def State.delayAnswer (s : State) (p : Nat) (f : RxFrame) (h : EthHdr) : State :=
  let o := h.off
  if 2 ≤ u8 f.bytes (o + 5) then s
  else
    let pay := slice f.bytes (o + 4) (beAt f.bytes (o + 2) 2)
    let body := slice f.bytes (o + 4) 1 ++ leBytes 1 2 ++ beBytes 6 (f.ns / 10 ^ 9) ++ beBytes 4 (f.ns % 10 ^ 9) ++ zeros 8 ++ pay.drop 20
    let out := slice f.bytes 6 6 ++ beBytes 6 (macOf (s.reg .FH_MAC_LO p) (s.reg .FH_MAC_HI p)) ++ slice f.bytes 12 (o - 12)
      ++ slice f.bytes o 4 ++ body
    s.sendFrame p out (s.secOn p)

/-- A host frame goes to FH_INQ (R291, check 16). -/
def State.hostFrame (s : State) (p : Nat) (f : RxFrame) : State :=
  let q := s.fld Fld.FH_INQ_QUEUE p
  let n := ceilDiv f.bytes.length 4096
  if s.fld Fld.FH_INQ_ENABLE p = 0 then s.whey p 16 .FH_WHEY_INQ f.bytes
  else match s.pickRun genLo genN n with
    | none => s.used.whey p 16 .FH_WHEY_INQ f.bytes
    | some b =>
      let s1 := (s.takeGenRun q b n).caveWrite (b * 4096) f.bytes
      s1.used.enqueue q (ptrDesc (b * 4096) (n * 4096) (0x7FFFFF + p * 2 ^ 24) s.stamp 2 (leBytes 8 (s1.pick (2 ^ 64)))) (.fhPort p f.bytes.length)

/-- Checks 11 to 15 on a U-plane frame of stream entry `e`, then its acceptance. PRESUMED, log entry 48. -/
def State.uplane (s : State) (p : Nat) (f : RxFrame) (o e sz : Nat) : State :=
  let b := f.bytes
  let c := s.entryCar e
  let mu := s.fld Fld.FH_C_CFG_MU c
  let prach := s.fld Fld.FH_AXC_PRACH e == 1
  let w := beAt b (o + 10) 2
  let sub := w / 4096; let slot := w / 64 % 64; let sym := w % 64
  let fi := u8 b (o + 8) % 16
  let a := s.fld Fld.FH_AXC_AXC e
  if sz < 8 || !(u8 b (o + 8) / 128 == 0 && u8 b (o + 8) / 16 % 8 == 1 && (if prach then decide (1 ≤ fi ∧ fi ≤ 4) else fi == 0)
      && sub ≤ 9 && slot < slotsPerSub mu && sym ≤ 13) then s.whey p 11 .FH_WHEY_HDR b
  else
    let abs := (s.nearFrame (u8 b (o + 9)) f.ns * 10 + sub) * slotsPerSub mu + slot
    let t := s.airUnits mu abs sym
    let at' := ((384 * f.ns : Nat) : Int)
    if at' < t + (s.fld Fld.FH_C_ULU_MIN c * 6144 : Nat) then s.whey p 12 .FH_WHEY_EARLY b
    else if t + (s.fld Fld.FH_C_ULU_MAX c * 6144 : Nat) < at' then s.whey p 12 .FH_WHEY_LATE b
    else match s.matchInput a sym abs with
      | none => s.whey p 13 .FH_WHEY_NOORDER b
      | some (od, i) =>
        if i.closed then s.whey p 14 .FH_WHEY_CLOSED b
        else
          let pay := slice b (o + 12) (sz - 8)
          let m := s.fld Fld.FH_C_CFG_METHOD c; let wd := s.fld Fld.FH_C_CFG_WIDTH c
          match (s.prbBytes m wd).bind (fun n =>
            sectionsOf (s.fld Fld.FH_C_CFG_NPRB c) n (s.fld Fld.FH_C_CFG_STATIC c == 1) (wd % 16 * 16 + m) (pay.length + 1) pay) with
          | none => s.whey p 15 .FH_WHEY_SECTION b
          | some _ =>
            let g := ceilDiv f.len 256
            let u := (sym - fhSym i) * fhN i + (a - fhFirst i)
            (s.setPort p { s.port p with held := (s.port p).held ++ [⟨g, od.handle, i.port, u, s.fld Fld.FH_AXC_CAR e, prach, pay, s.tm.absGrain⟩] }).setFld
              Fld.FH_GRAN_RX_FREE p (s.fld Fld.FH_GRAN_RX_FREE p - g)

/-- Checks 8 to 16 on an eCPRI frame. PRESUMED, log entry 48. -/
def State.ecpri (s : State) (p : Nat) (f : RxFrame) (h : EthHdr) : State :=
  let o := h.off
  let b := f.bytes
  let sz := beAt b (o + 2) 2
  if !ecpriOk b o || (u8 b (o + 1) == 0 && sz < 4) then s.whey p 8 .FH_WHEY_ECPRI b
  else if u8 b (o + 1) = 5 then s.delayAnswer p f h
  else
    let pc := beAt b (o + 4) 2; let q := u8 b (o + 6); let eb := u8 b (o + 7)
    match s.pcEntry p pc, s.pcSense p pc with
    | none, none => s.whey p 9 .FH_WHEY_EAXC b
    | e, n =>
      let k := match e, n with | some x, _ => x % 128 | none, some n => 128 + n | none, none => 0
      let r := (s.port p).seqStep k q f.ns
      -- a fragmented message has E bit 0 or a subsequence; the engine supports neither (R285)
      if eb ≠ 0x80 then s.whey p 10 .FH_WHEY_SEQ b
      else if !r.1 then (s.setPort p r.2.2).whey p 10 .FH_WHEY_SEQ b
      else
        let s1 := (s.setPort p r.2.2).bump .FH_SEQ_GAP p r.2.1
        match e, n with
        | some x, _ => s1.uplane p f o x sz
        | none, some n =>
          s1.seSamples n f.ns r.2.1 (slice b (o + 8) (sz - 4))
        | none, none => s1

/-- FH_FRAME_RECEIVE (R282, R291): a frame passes through the checks of Table 11.4 in order. -/
def State.fhReceive (s0 : State) (p : Nat) (f : RxFrame) : State :=
  if s0.fhState p ≠ 2 then s0
  else
    let s := s0.bump .FH_RX_FRAMES p
    let h := if f.sec.isSome ∧ s.fld Fld.FH_CFG_SEC_EN p = 0 then ⟨none, 0x88E5, 14⟩ else ethHdr f.bytes
    if s.fld Fld.FH_GRAN_RX_FREE p < ceilDiv f.len 256 then s.whey p 1 .FH_WHEY_NOBUF f.bytes
    else
      let k := s.linkCheck p f h
      -- a frame that passes check 3 moves the highest packet number
      let sA := match f.sec with
        | some (an, pn, _) =>
          if s.fld Fld.FH_CFG_SEC_EN p = 1 ∧ k ≠ 2 ∧ k ≠ 3 then
            s.setPort p { s.port p with rxPn := setAt (s.port p).rxPn an (max (natAt (s.port p).rxPn an) (s.rxNumber p an pn)) } else s
        | none => s
      if k ≠ 0 then sA.whey p k (wheyReg k) f.bytes
      else
        let r := sA.police p (h.etype == 0xAEFE) f.len f.ns
        let s1 := sA.setPort p r.2
        if !r.1 then s1.whey p 7 .FH_WHEY_POLICE f.bytes
        else if h.etype = 0xAEFE then s1.ecpri p f h
        else if h.etype = 0x88F7 ∧ s.fld Fld.FH_CFG_PTP_EN p = 1 then s1.ptpMessage p f.ns 0 (f.bytes.drop h.off)
        else if h.etype = 0x8809 ∧ u8 f.bytes h.off = 0x0A then s1.esmcPdu p f.ns (f.bytes.drop h.off)
        else s1.hostFrame p f

def execFhFrameReceive (port : Fin 16) (f : RxFrame) (s : State) : Host.Outcome State Fault Refusal :=
  .next (s.fhReceive port.val f)

/-- SEQ_FRESH_TIMEOUT (R292): 1 ms without a frame makes the stream FRESH. Keys 0 to 127 are stream entries, 128 to 159
sensing streams. -/
def execSeqFreshTimeout (port : Fin 16) (stream : Fin 160) (s : State) : Host.Outcome State Fault Refusal :=
  .next (match Sparse.get none (s.port port.val).seq stream.val with
    | none => s
    | some l => if l.ns + 1000000 ≤ s.tm.ns then
        s.setPort port.val { s.port port.val with seq := Sparse.set none (s.port port.val).seq stream.val none } else s)

/-! ## Enable, disable and the link (R279 to R281) -/

/-- Training starts: the port is DOWN, its streams FRESH; test modes on its lanes end (R347). -/
def State.fhTrain (s0 : State) (p : Nat) : State :=
  let s := s0.endTestModes (fhLanes p (s0.fld Fld.FH_CFG_MODE p))
  let t := ((s.setFld Fld.FH_CTRL_EN p 1).setFld Fld.FH_STAT_STATE p 1).granReset p
  t.setPort p { t.port p with disAt := none, pendEn := false, linked := false, seq := [] }

/-- FH_ENABLE (R280). DEDUCED, log entry 67. -/
def State.fhEnable (s0 : State) (p : Nat) (src : Source) : State :=
  let s := s0.setFld Fld.FH_STAT_DIS_REFUSED p 0
  if s.fhShadowed p then s0
  else if s.fld Fld.FH_CFG_MODE p = 0 then s.werrReg .FH_CTRL p src
  else if (s.port p).disAt.isSome then (s.setFld Fld.FH_CTRL_EN p 1).setPort p { s.port p with pendEn := true }
  else if s.fhState p = 0 then s.fhTrain p
  else s

def execFhEnable (port : Fin 16) (src : Source) (s : State) : Host.Outcome State Fault Refusal := .next (s.busGate (RegId.offset .FH_CTRL port.val) src (s.fhEnable port.val src))

/-- FH_DISABLE (R280, Table 2.6). DEDUCED, log entry 67. -/
def State.fhDisable (s0 : State) (p : Nat) : State :=
  let s := s0.setFld Fld.FH_STAT_DIS_REFUSED p 0
  if s.fhShadowed p then s0
  else if s.fhState p = 0 then s.setFld Fld.FH_CTRL_EN p 0
  else if (s.port p).disAt.isSome then (s.setFld Fld.FH_CTRL_EN p 0).setPort p { s.port p with pendEn := false }
  else
    let mine := fun (x : PoolCell) => x.pool == 0xE && x.index == p
    if s.noReservation mine then
      let s1 := (s.setFld Fld.FH_CTRL_EN p 0).zeroFrom mine
      { s1.setPort p { s.port p with disAt := some s.absFirst } with cap := { s1.cap with egress := setAt s1.cap.egress p 0 } }
    else s.setFld Fld.FH_STAT_DIS_REFUSED p 1

def execFhDisable (port : Fin 16) (src : Source) (s : State) : Host.Outcome State Fault Refusal := .next (s.busGate (RegId.offset .FH_CTRL port.val) src (s.fhDisable port.val))

/-- Disables that take effect at this tick (R280). DEDUCED, log entry 67. -/
def State.fhTick (s : State) : State :=
  (List.range 16).foldl (fun (t : State) p =>
    match (t.port p).disAt with
    | some b =>
      if b ≤ t.absBeat then
        let t0 := ((t.setFld Fld.FH_STAT_STATE p 0).granReset p).jobsDown p
        let t1 := t0.setPort p { t0.port p with disAt := none, linked := false, seq := [] }
        if (t.port p).pendEn then t1.fhTrain p else t1
      else t
    | none => t) s

/-- At an epoch boundary the streams whose entry has changed since `old` are FRESH (R292). -/
def State.seqEpoch (s old : State) : State :=
  (List.range 16).foldl (fun (t : State) p =>
    t.setPort p { t.port p with
      seq := (t.port p).seq.filter (fun e => 128 ≤ e.1 || s.reg .FH_AXC (p * 128 + e.1) == old.reg .FH_AXC (p * 128 + e.1)) }) s

/-- Bytes per beat of a port mode (Table 2.4). -/
def modeBytes (m : Nat) : Nat := if m = 1 then 1562500 else if m = 2 then 3125000 else if m = 3 then 6250000 else 0

/-- FH_LINK_UP (R280, R281, R345, R493): its lanes are in ON, and its pads are not latched. DEDUCED, log entry 67. -/
def State.fhLinkUp (s : State) (p : Nat) : State :=
  let ls := fhLanes p (s.fld Fld.FH_CFG_MODE p)
  if s.fhState p ≠ 1 ∨ bitAt (s.reg .POWER_PADS) 7 ∨ !ls.all s.laneUp then s
  else
    let s1 := ((s.lanesLocked ls).setFld Fld.FH_STAT_STATE p 2).setPort p { s.port p with linked := true, seq := [] }
    -- capacity comes with the first link-up after the enable; a port being disabled gets none
    if (s.port p).linked ∨ (s.port p).disAt.isSome then s1
    else { s1 with cap := { s1.cap with egress := setAt s1.cap.egress p (modeBytes (s.fld Fld.FH_CFG_MODE p)) } }

def execFhLinkUp (port : Fin 16) (s : State) : Host.Outcome State Fault Refusal := .next (s.fhLinkUp port.val)

/-- The link of a port is gone (R281): its granules return, and its jobs send nothing more. -/
def State.fhDrop (s : State) (p : Nat) : State := ((s.setFld Fld.FH_STAT_STATE p 1).granReset p).jobsDown p

/-- FH_LINK_DOWN (R281), with its WARN event. -/
def State.fhLinkDown (s : State) (p : Nat) : State := if s.fhState p ≠ 2 then s else (s.fhDrop p).event 0x0020 1 p

def execFhLinkDown (port : Fin 16) (s : State) : Host.Outcome State Fault Refusal := .next (s.fhLinkDown port.val)

/-- FH_CLR_STATS (R302): the counters at offsets 0x200 to 0x260. -/
def State.fhClr (s : State) (p : Nat) : State :=
  s.clearRegs [.FH_WHEY_NOBUF, .FH_WHEY_MAC, .FH_WHEY_SEC, .FH_WHEY_DMAC, .FH_WHEY_SMAC, .FH_WHEY_VLAN, .FH_WHEY_ETYPE,
    .FH_WHEY_POLICE, .FH_WHEY_ECPRI, .FH_WHEY_EAXC, .FH_WHEY_SEQ, .FH_WHEY_HDR, .FH_WHEY_EARLY, .FH_WHEY_LATE,
    .FH_WHEY_NOORDER, .FH_WHEY_CLOSED, .FH_WHEY_SECTION, .FH_WHEY_INQ, .FH_SEQ_GAP, .FH_RX_FRAMES, .FH_TX_FRAMES,
    .FH_TX_MISSED, .FH_TX_HOST] p

/-- FH_CLR_STATS (R302). A write to FH_CTRL also clears DIS_REFUSED. -/
def execFhClrStats (port : Fin 16) (src : Source) (s : State) : Host.Outcome State Fault Refusal :=
  .next (s.busGate (RegId.offset .FH_CTRL port.val) src ((s.setFld Fld.FH_STAT_DIS_REFUSED port.val 0).fhClr port.val))

/-- A SAK word is written (R299): the association counts its packets anew. PRESUMED, log entry 48. -/
def State.sakWrite (s : State) (i v : Nat) : State :=
  let p := i / 32; let an := i / 8 % 4
  (s.setReg .FH_SEC_SAK i v).setPort p { s.port p with txPn := setAt (s.port p).txPn an 0, rxPn := setAt (s.port p).rxPn an 0 }

/-- FH_SAK_WRITE (R299): word `j` of association `an`. -/
def execFhSakWrite (port : Fin 16) (an : Fin 4) (j : Fin 8) (value : Word) (src : Source) (s : State) : Host.Outcome State Fault Refusal :=
  .next (s.busGate (RegId.offset .FH_SEC_SAK ((port.val * 4 + an.val) * 8 + j.val)) src (s.sakWrite ((port.val * 4 + an.val) * 8 + j.val) value.toNat))

end Sys2Proof.Machine
end

