-- ==== Sys2Proof/Machine/Egress.lean ====
section
/-!
DEFINITION. Fronthaul egress (R287, R296 to R298): the descriptor and messages of an FH_EGRESS job, the frames it builds,
their windows and gates, its status block, and frames that host software sends.
-/
namespace Sys2Proof.Machine

/-! ## Compression of sent PRBs (R287) -/

def satW (w : Nat) (x : Int) : Int := clampI (-(2 ^ (w - 1) : Nat)) ((2 ^ (w - 1) : Nat) - 1) x

/-- The exponent of R287. -/
def bfpExp (x : List Int) (w : Nat) : Nat :=
  ((List.range (17 - w)).find? (fun s => x.all (fun v => rndI v s == satW w (rndI v s)))).getD (16 - w)

/-- Fields of `w` bits, first field in the high bits, as bytes. -/
def packBits (w : Nat) (l : List Nat) : List Byte :=
  let v := l.foldl (fun a x => a * 2 ^ w + x % 2 ^ w) 0
  let n := ceilDiv (w * l.length) 8
  beBytes n (v * 2 ^ (8 * n - w * l.length))

/-- modcomp of R287. -/
def modcomp (x : Int) (w sc : Nat) : Int :=
  clampI 0 ((2 ^ w : Nat) - 1) ((x * (2 ^ (w - 1) : Nat) + ((2 ^ (w - 1) * sc : Nat) : Int)) / (sc : Int))

/-- Bytes of one sent PRB, its parameter byte included. -/
def State.txPrbBytes (s : State) (method width : Nat) : Option Nat :=
  if method = 4 then some (3 * width) else if method = 1 then some (1 + 3 * width) else s.prbBytes method width

/-- One sent PRB of 24 components. -/
def State.compressPrb (s : State) (method width sc : Nat) (x : List Int) : List Byte :=
  if method = 0 then packBits width (x.map (enc width))
  else if method = 1 then
    let e := if width = 16 then 0 else bfpExp x width
    leBytes 1 e ++ packBits width (x.map (fun v => enc width (if width = 16 then v else satW width (rndI v e))))
  else if method = 4 then packBits width (x.map (fun v => enc width (modcomp v width sc)))
  else
    let r := Config.lrCompress (s.reg .LR_ID) (s.reg .LR_VER) method x
    leBytes 1 r.1 ++ (r.2 ++ zeros 64).take (natAt (s.lr.regions.getD 0 {}).prbLen (method - 8))

/-! ## Descriptors and messages -/

/-- A message entry of Table 11.7. -/
structure TxMsg where
  type : Nat
  sym : Nat
  axc : Nat
  prb : Nat
  n : Nat
  method : Nat
  width : Nat
  static : Bool
  sect : Nat
  scaler : Nat
  bodyLen : Nat
  body : Nat
  rsvd : Bool
  deriving DecidableEq, Repr

def txMsg (p : List Byte) : TxMsg :=
  let w := u8 p 8 / 16
  ⟨u8 p 0, u8 p 1, u16 p 2, u16 p 4, u16 p 6, u8 p 8 % 16, if w = 0 then 16 else w, bitAt (u8 p 9) 0, u16 p 10 % 4096, u16 p 12 % 32768,
    u16 p 14, u64 p 16, u8 p 9 / 2 == 0 && u16 p 10 < 4096 && u16 p 12 < 32768 && allZero (slice p 24 8)⟩

/-- A method and width the engine can send (R285, R286, Table 11.7). -/
def State.txCompOk (s : State) (m w : Nat) : Bool :=
  if m = 0 then w == 16
  else if m = 1 then [8, 9, 12, 14, 16].contains w
  else if m = 4 then decide (1 ≤ w ∧ w ≤ 4)
  else (s.prbBytes m w).isSome

/-- A message entry is valid on port `p` (R296). -/
def State.msgOk (s : State) (p : Nat) (g : FhEgress) (m : TxMsg) : Bool :=
  let first := u16 g.desc 32; let n := u16 g.desc 34
  m.rsvd && m.type ≤ 2 && m.sym ≤ 13
  && (match s.axcEntry m.axc with | some e => e / 128 == p | none => false)
  && (if m.type = 0 then
        decide (1 ≤ m.n ∧ m.n ≤ 275) && m.prb + m.n ≤ s.fld Fld.FH_C_CFG_NPRB (s.axcCar m.axc) && s.txCompOk m.method m.width
        && decide (first ≤ m.axc ∧ m.axc < first + n) && (m.method != 4 || m.scaler != 0)
      else decide (4 ≤ m.bodyLen ∧ m.bodyLen ≤ 8192) && m.body < 2 ^ 40)

/-- The slot whose air start lies in the grain AIR (Table 11.6). -/
def State.airSlot (s : State) (mu air : Nat) : Nat :=
  let g := s.absOfStamp air
  let k := g * 46875 / (384000000 / slotsPerSub mu)
  if s.grainUnits g ≤ s.airUnits mu k 0 then k else k + 1

/-- Opening and closing of a message's window (Table 11.3), in 1/384 ns. DEDUCED, log entry 49. -/
def State.txWindow (s : State) (m : TxMsg) (air : Nat) : Int × Int :=
  let c := s.axcCar m.axc
  let mu := s.fld Fld.FH_C_CFG_MU c
  let t := s.airUnits mu (s.airSlot mu air) m.sym
  let f := if m.type = 0 then (s.fld Fld.FH_C_DLU_MIN c, s.fld Fld.FH_C_DLU_MAX c)
    else if m.type = 1 then (s.fld Fld.FH_C_DLC_MIN c, s.fld Fld.FH_C_DLC_MAX c)
    else (s.fld Fld.FH_C_ULC_MIN c, s.fld Fld.FH_C_ULC_MAX c)
  (t - (f.2 * 6144 : Nat), t - (f.1 * 6144 : Nat))

/-! ## Frames -/

/-- The Ethernet header of a carrier's frames (R297). PRESUMED, log entry 48. -/
def State.txEth (s : State) (p c : Nat) : List Byte :=
  let v := s.fld Fld.FH_C_MAC_HI_VID c
  beBytes 6 (macOf (s.reg .FH_C_MAC_LO c) (s.fld Fld.FH_C_MAC_HI_RU_MAC c)) ++ beBytes 6 (macOf (s.reg .FH_MAC_LO p) (s.reg .FH_MAC_HI p))
    ++ (if v = 0 then [] else beBytes 2 0x8100 ++ beBytes 2 (s.fld Fld.FH_C_MAC_HI_PCP c * 8192 + v)) ++ beBytes 2 0xAEFE

/-- Largest number of PRBs in one frame of a U-plane message. -/
def State.txRoom (s : State) (p : Nat) (m : TxMsg) (plen : Nat) : Nat :=
  let head := (s.txEth p (s.axcCar m.axc)).length + 4 + 4 + 4 + (if m.static then 4 else 6)
  max 1 ((s.fld Fld.FH_CFG_MTU p - wireLen head (s.secOn p)) / plen)

/-- Grid bytes of `n` PRBs of a message from PRB `k`. -/
def State.gridAddr (s : State) (g : FhEgress) (m : TxMsg) (k : Nat) : Nat :=
  let nsc := ceilDiv (12 * s.fld Fld.FH_C_CFG_NPRB (s.axcCar m.axc)) 16 * 16
  u64 g.desc 8 + ((m.sym * u16 g.desc 34 + (m.axc - u16 g.desc 32)) * nsc + 12 * k) * 4

/-- The components of one grid PRB. -/
def State.gridPrb (s : State) (a : Nat) : List Int :=
  let b := s.caveRead a 48
  (List.range 24).map (fun i => sext 16 (u16 b (2 * i)))

/-- The application header (R297), dataDirection 1 for downlink; a PRACH stream's filterIndex is 1 to 4. PRESUMED, log entry 48. -/
def State.appHdr (s : State) (m : TxMsg) (air : Nat) : List Byte :=
  let c := s.axcCar m.axc
  let mu := s.fld Fld.FH_C_CFG_MU c
  let k := s.airSlot mu air
  let n := slotsPerSub mu
  let pr := match s.axcEntry m.axc with | some e => s.fld Fld.FH_AXC_PRACH e == 1 | none => false
  leBytes 1 ((if m.type ≤ 1 then 128 else 0) + 16 + (if pr then 1 + s.pick 4 else 0)) ++ leBytes 1 (k / (10 * n) % 256)
    ++ beBytes 2 (k / n % 10 * 4096 + k % n * 64 + m.sym)

/-- The eCPRI payload of the next frame of a message, from PRB offset `k`, and the PRBs it carries. -/
def State.txPayload (s : State) (p : Nat) (g : FhEgress) (m : TxMsg) (seq : Nat) : List Byte × Nat :=
  let ea := match s.axcEntry m.axc with | some e => s.fld Fld.FH_AXC_EAXC e | none => 0
  let ids := beBytes 2 ea ++ leBytes 1 (seq % 256) ++ leBytes 1 0x80
  let app := s.appHdr m (u32 g.desc 4)
  if m.type = 0 then
    let plen := (s.txPrbBytes m.method m.width).getD 1
    let all := s.fld Fld.FH_C_CFG_NPRB (s.axcCar m.axc)
    -- numPrbu has 8 bits, and 0 names the whole carrier (R285)
    let n0 := min (m.n - g.prb) (s.txRoom p m plen)
    let n := if n0 = all then n0 else min n0 255
    let st := m.prb + g.prb
    let nf := if n = all then 0 else n
    let hdr := beBytes 3 (m.sect * 4096 + st) ++ leBytes 1 nf
      ++ (if m.static then [] else leBytes 1 (m.width % 16 * 16 + m.method) ++ zeros 1)
    let d := (List.range n).flatMap (fun i => s.compressPrb m.method m.width m.scaler (s.gridPrb (s.gridAddr g m (st + i))))
    (ids ++ app ++ hdr ++ d, n)
  else (ids ++ app ++ s.caveRead m.body m.bodyLen, 1)

/-- The jobs of a port that run in their beat; after it they send nothing more (R248). -/
def State.egressJobs (s : State) (p : Nat) : List (FhEgress × Curd) :=
  (s.port p).job.filterMap (fun g => (s.curdAt g.curd).bind (fun c => if c.st = .running ∧ c.beat = s.beat then some (g, c) else none))

def State.setEgress (s : State) (p : Nat) (g : FhEgress) : State :=
  s.setPort p { s.port p with job := (s.port p).job.map (fun x => if x.curd = g.curd then g else x) }

/-- The job's list is done. -/
def FhEgress.done (g : FhEgress) : Bool := decide (u16 g.desc 2 ≤ g.msg)

/-- The message that a job sends next. -/
def State.nextMsg (s : State) (g : FhEgress) : TxMsg := txMsg (s.caveRead (u64 g.desc 16 + 32 * g.msg) 32)

/-- When the next frame of a job may depart, in 1/384 ns: at the opening of its window, and after the previous frame (R297). -/
def State.frameRelease (s : State) (p : Nat) (g : FhEgress) : Int :=
  max (s.txWindow (s.nextMsg g) (u32 g.desc 4)).1 (384 * (s.port p).freeNs : Nat)

/-- The job that the port serves next: of those with frames to send, the one whose frame may depart first. DEDUCED, log entry 49. -/
def State.egressNext (s : State) (p : Nat) : Option (FhEgress × Curd) :=
  ((s.egressJobs p).filter (fun x => egressDescOk x.1.desc && !x.1.down && !x.1.done)).foldl (fun (b : Option (FhEgress × Curd)) x =>
    match b with
    | none => some x
    | some y => if s.frameRelease p x.1 < s.frameRelease p y.1 then some x else some y) none

/-- The job leaves a message whose symbol is marked. -/
def FhEgress.next (g : FhEgress) : FhEgress := { g with msg := g.msg + 1, prb := 0 }

/-- The job goes on behind a frame of `n` PRBs: to the next frame of the message, or to the next message. -/
def FhEgress.past (g : FhEgress) (m : TxMsg) (n : Nat) : FhEgress :=
  if m.type ≠ 0 ∨ m.n ≤ g.prb + n then g.next else { g with prb := g.prb + n }

/-- EGRESS_FRAME_SEND (R273, R289, R297): the next frame of the port's jobs departs at the later of its window's opening, the end
of the previous frame, and now; one that cannot end by the closing is missed with the rest of its message, and one that a gate
holds is left alone. DEDUCED, log entry 49. -/
def State.egressSend (s0 : State) (p : Nat) : State :=
  let s := s0.txReturn p
  match s.egressNext p with
  | none => s
  | some (g, c) =>
    let at' := u64 g.desc 16 + 32 * g.msg
    if s.fhState p ≠ 2 then s
    else if !s.rangeOk 0 at' 32 then (s.readBad 0 at' 32 4 c.exec c.handle).setEgress p { g.next with bad := true }
    else
      let m := s.nextMsg g
      let miss := fun (g : FhEgress) => { g.next with missed := if m.sym ≤ 13 then orBit g.missed m.sym else g.missed }
      if !s.msgOk p g m then s.setEgress p (miss g)
      else
        let car := s.axcCar m.axc
        let w := s.txWindow m (u32 g.desc 4)
        let ea := match s.axcEntry m.axc with | some e => s.fld Fld.FH_AXC_EAXC e | none => 0
        let seq := Sparse.get 0 (s.port p).txSeq ea
        let pay := s.txPayload p g m seq
        let body := s.txEth p car ++ leBytes 1 0x10 ++ leBytes 1 (if m.type = 0 then 0 else 2) ++ beBytes 2 pay.1.length ++ pay.1
        let frame := body ++ zeros (60 - body.length)
        let sec := s.secOn p
        let dep := max (s.frameRelease p g) (384 * s.tm.ns : Nat)
        let dur : Int := ((wireLen frame.length sec * 8 * 384 / s.fhGbps p : Nat) : Int)
        if ((384 * (s.tm.ns + 153) : Nat) : Int) < dep then s      -- not yet open
        else if w.2 < dep + dur then (s.bump .FH_TX_MISSED p).setEgress p (miss g)
        else
          let mu := s.fld Fld.FH_C_CFG_MU car
          let air := (s.airUnits mu (s.airSlot mu (u32 g.desc 4)) m.sym / 384).toNat
          match s.gateHolds m.axc air with
          | some n => (s.bump .SE_G_HELD n).setEgress p { (g.past m pay.2) with held := orBit g.held m.sym }
          | none =>
            let bad := if m.type = 0 then
                (List.range pay.2).any (fun i => !s.rangeOk 0 (s.gridAddr g m (m.prb + g.prb + i)) 48)
              else !s.rangeOk 0 m.body m.bodyLen
            if bad then
              let a := if m.type = 0 then s.gridAddr g m (m.prb + g.prb) else m.body
              (s.readBad 0 a (if m.type = 0 then 48 * pay.2 else m.bodyLen) 4 c.exec c.handle).setEgress p { (miss g) with bad := true }
            else if !s.canBuild p frame.length sec then s
            else
              let g1 := { (g.past m pay.2) with sent := orBit g.sent m.sym, frames := g.frames + 1, bytes := g.bytes + frame.length + 4 }
              let s1 := s.setPort p { s.port p with txSeq := Sparse.set 0 (s.port p).txSeq ea ((seq + 1) % 256) }
              ((s1.putFrame p (dep / 384).toNat frame sec).setEgress p g1).used

def execEgressFrameSend (port : Fin 16) (s : State) : Host.Outcome State Fault Refusal := .next (s.egressSend port.val)

/-- EGRESS_JOB_END (R281, R296, R297): a job of the port ends when its list is done, when its descriptor is invalid, or when the
port was not UP while it ran. -/
def State.egressEnd (s : State) (p : Nat) : State :=
  match (s.egressJobs p).find? (fun x => !egressDescOk x.1.desc || x.1.down || x.1.done) with
  | none => s
  | some (g, c) => (s.endCurd c.addr (if g.bad || g.down then 0x12 else 0x10)).egressSweep

def execEgressJobEnd (port : Fin 16) (s : State) : Host.Outcome State Fault Refusal := .next (s.egressEnd port.val)

/-- HUB_JOB_OVERRUN (R126, R248). -/
def execHubJobOverrun (s : State) : Host.Outcome State Fault Refusal := .next (if s.gridRun then s.hubOverrun else s)

/-! ## Host frames (R298) -/

/-- The oldest descriptor of a queue leaves it. -/
def State.qTake (s : State) (q : Nat) : Option (List Byte × State) :=
  if s.qState q = 0 ∨ s.qOcc q = 0 then none
  else some (readBytes s.cave (s.slotAddr q (s.reg .Q_HEAD q)) 32, s.setReg .Q_HEAD q ((s.reg .Q_HEAD q + 1) % (2 * s.qDepth q)))

/-- HOST_FRAME_SEND (R298): the oldest frame of FH_OUTQ, unless it could delay a job frame of the current beat. `host` holds the
bytes where the descriptor names host memory. DEDUCED, log entry 49. -/
def State.hostSend (s0 : State) (p : Nat) (host : List Byte) : State :=
  let s := s0.txReturn p
  let q := s.fld Fld.FH_OUTQ_QUEUE p
  if s.fld Fld.FH_OUTQ_ENABLE p = 0 ∨ s.fhState p ≠ 2 then s
  else match s.qTake q with
    | none => s
    | some (d, t) =>
      -- a descriptor of another form than Table 4.4 is refused (R6)
      if !ptrOk d then { t with cave := writeBytes t.cave (s.slotAddr q (s.reg .Q_HEAD q) + 20) [0x21] } else
      let n := u32 d 8
      let b := if bitAt (u8 d 21) 0 then host.take n else s.caveRead (bits (u64 d 0) 39 0) n
      let start := max s.tm.ns (s.port p).freeNs
      let fin := start + (wireLen b.length (s.secOn p) + 20) * 8 / s.fhGbps p + 64
      let fits := match s.egressNext p with
        | none => true
        | some x => decide (((384 * fin : Nat) : Int) ≤ (s.txWindow (s.nextMsg x.1) (u32 x.1.desc 4)).1)
      if fits = true ∧ s.canBuild p b.length (s.secOn p) then
        (((t.returnBlocks (t.queueBlocks q d)).bump .FH_TX_HOST p).putFrame p start b (s.secOn p))
      else s

def execHostFrameSend (port : Fin 16) (host : List Byte) (s : State) : Host.Outcome State Fault Refusal :=
  .next (s.hostSend port.val host)

end Sys2Proof.Machine
end

