-- ==== Sys2Proof/Machine/Noc.lean ====
section
/-!
DEFINITION. The on-die networks (R350 to R356): the way of a packet over the routers of a die, the virtual channel it uses on
each link, and the credit that each link takes. Tiles of a die are numbered row × 4 + column. Packets take no time in the
model, so a step leaves every credit at its sender.
-/
namespace Sys2Proof.Machine

/-- Output ports of a router: the torus directions as R354 numbers them, the tile, and the die-link gateway. -/
inductive NocPort where
  | east | west | north | south | tile | gateway
  deriving DecidableEq, Repr

def NocPort.dir : NocPort → Nat
  | .east => 0 | .west => 1 | .north => 2 | .south => 3 | .tile => 4 | .gateway => 5

/-- Steps forward from `a` to `b` around a ring of four: forward where they are at most the steps back (R352). -/
def ringSteps (a b : Nat) : Nat := (b + 4 - a) % 4

/-- The port that a packet for tile `b` takes at tile `a`: along the row first, then along the column, each time the shorter
way, and east or south where both are equal (R352). -/
def nocPort (a b : Nat) : NocPort :=
  let dc := ringSteps (a % 4) (b % 4)
  let dr := ringSteps (a / 4) (b / 4)
  if dc ≠ 0 then (if dc ≤ 2 then .east else .west)
  else if dr ≠ 0 then (if dr ≤ 2 then .south else .north)
  else .tile

/-- The neighbour of tile `a` at a port. -/
def nocNext (a : Nat) : NocPort → Nat
  | .east => a / 4 * 4 + (a % 4 + 1) % 4
  | .west => a / 4 * 4 + (a % 4 + 3) % 4
  | .south => (a / 4 + 1) % 4 * 4 + a % 4
  | .north => (a / 4 + 3) % 4 * 4 + a % 4
  | .tile | .gateway => a

/-- The link at a port is the wrap link of its ring: between column 3 and column 0, or row 3 and row 0. -/
def nocWraps (a : Nat) : NocPort → Bool
  | .east => a % 4 == 3
  | .west => a % 4 == 0
  | .south => a / 4 == 3
  | .north => a / 4 == 0
  | .tile | .gateway => false

/-- The inter-router links of a packet's way from `a` to `b`: the router, the port, and the virtual channel, which goes from 0
to 1 with the wrap link (R352). -/
def nocPath : Nat → Nat → Nat → Nat → List (Nat × NocPort × Nat)
  | 0, _, _, _ => []
  | n + 1, a, b, vc =>
    match nocPort a b with
    | .tile => []
    | p => let v := if nocWraps a p then 1 else vc; (a, p, v) :: nocPath n (nocNext a p) b v

/-- Links between two tiles. -/
def nocHops (a b : Nat) : Nat := (nocPath 4 a b 0).length

/-- The gateway router of a tile's die-link traffic: the nearest of those of tiles 5, 6, 9 and 10, the lowest on ties (R351, R352). -/
def gatewayOf (t : Nat) : Nat := [6, 9, 10].foldl (fun b g => if nocHops t g < nocHops t b then g else b) 5

/-- Networks of Table 14.1: a packet of `n` bytes of write data goes on REQ up to 64 bytes, on BULK above. -/
def nocWriteNet (n : Nat) : Nat := if n ≤ 64 then 0 else 3

/-- The instance of ledger quantity 0x03 for a link of a die's network (R354). -/
def nocInst (die net router : Nat) (p : NocPort) : Nat := p.dir + 4 * net + 16 * die + 64 * router

/-- The credit instances that a packet takes, one after another, on a network of a die. -/
def nocCredits (die net a b : Nat) : List Nat := (nocPath 4 a b 0).map (fun x => nocInst die net x.1 x.2.1)

end Sys2Proof.Machine
end

