-- ==== Sys2Proof/Machine/Dma.lean ====
section
/-!
DEFINITION. DMA (R363 to R378) and the region port (R440): descriptors, overlap and swapping, transfers that complete,
halt or are aborted, the hub channels and what each grain gives them, and the tile channels.
-/
namespace Sys2Proof.Machine

/-! ## Descriptors (Table 14.3) -/

structure DmaDesc where
  srcSp : Nat
  dstSp : Nat
  func : Nat
  swap : Nat
  len : Nat
  src : Nat
  dst : Nat
  next : Nat
  stat : Nat
  deriving DecidableEq, Repr

def dmaDesc (p : List Byte) : DmaDesc :=
  ⟨u8 p 2 % 4, u8 p 2 / 4 % 4, u8 p 2 / 16, u8 p 3, u32 p 4, u64 p 8, u64 p 16, u64 p 24, u64 p 32⟩

/-- A transfer: its descriptor, whether a hub channel runs it, the tile and executor, the order's handle (0 for none), the
curd of the core that gave it to a tile channel, the function it must name, the descriptors its chain has had, and whether
its descriptor could not be read. -/
structure Xfer where
  desc : List Byte
  hub : Bool
  tile : Nat := 0
  exec : Nat
  handle : Nat := 0
  curd : Option Nat := none
  func : Option Nat := none
  n : Nat := 1
  ue : Bool := false
  deriving DecidableEq, Repr

def Xfer.d (x : Xfer) : DmaDesc := dmaDesc x.desc
/-- The die of the channel, which records the errors of its reads (chapter 18). -/
def Xfer.die (x : Xfer) : Nat := if x.hub then 4 else x.tile / 16

/-- Element sizes of Table 14.5. -/
def elemSize (m : Nat) : Nat := if m = 0 then 1 else if m = 1 then 2 else 4

/-- An address has the form its space gives it (Table 14.4). -/
def spaceOk (hub : Bool) (sp a : Nat) : Bool :=
  if sp = 0 then a < 2 ^ 40
  else if sp = 1 then hub
  else if sp = 2 then !hub && bits a 21 21 == 0 && a < 2 ^ 26
  else !hub && bits a 19 19 == 0 && a < 2 ^ 22

/-- The descriptor is valid (R365). -/
def Xfer.valid (x : Xfer) : Bool :=
  let d := x.d
  u8 x.desc 0 == 8 && u8 x.desc 1 ≤ 1 && u8 x.desc 3 ≤ 3 && decide (1 ≤ d.len ∧ d.len ≤ 67108864) && spaceOk x.hub d.srcSp d.src
    && spaceOk x.hub d.dstSp d.dst && !(d.srcSp == 1 && d.dstSp == 1) && (match x.func with | some f => d.func == f | none => true)
    && d.len % elemSize d.swap == 0 && x.n ≤ 256 && allZero (slice x.desc 40 24)
    && (if x.hub then engAddrOk d.next && engAddrOk d.stat else d.next == 0 && d.stat == 0)

/-! ## Memory sides -/

/-- The store and the first key of a side: memory 0 Cave, 1 TSM, 2 VM, 3 host memory. -/
def Xfer.side (x : Xfer) (sp a : Nat) : Nat × Nat :=
  if sp = 0 then (0, a)
  else if sp = 1 then (3, a)
  else if sp = 2 then (1, (x.tile / 16 * 16 + bits a 25 22) * 2 ^ 21 + bits a 20 0)
  else (2, (x.tile * 4 + bits a 21 20) * 2 ^ 19 + bits a 18 0)

/-- The tile whose memory a side names, for a side within a die. -/
def sideTile (m : Nat × Nat) : Option Nat := if m.1 = 1 then some (m.2 / 2 ^ 21) else if m.1 = 2 then some (m.2 / 2 ^ 21) else none

/-- The staging buffer bound to the curd of a transfer: its tile and its number (R132). -/
def State.xferBuffer (s : State) (x : Xfer) : Option (Nat × Nat) := (x.curd.bind s.curdAt).bind Curd.staged

/-- Byte `i` of a side is mapped (R88); in the staging region of a die with pre-staging on, only the buffer bound to the
curd is (R132). -/
def State.sideMapped (s : State) (x : Xfer) (sp a i : Nat) : Bool :=
  if sp = 0 then caveMapped (a + i)
  else if sp = 1 then true
  else if sp = 2 then
    let o := bits a 20 0 + i
    o < 0x200000 && (s.fld Fld.DISP_CTRL_PRESTAGE (x.tile / 16) != 1 || decide (o < 0x1C0000)
      || s.xferBuffer x == some (x.tile / 16 * 16 + bits a 25 22, (o - 0x1C0000) / 0x10000))
  else bits a 18 0 + i < 0x80000

def State.sideByte (s : State) (m : Nat × Nat) (host : List Byte) (i : Nat) : Byte :=
  if m.1 = 0 then s.caveByte (m.2 + i)
  else if m.1 = 1 then Sparse.get 0 s.tsm (m.2 + i)
  else if m.1 = 2 then Sparse.get 0 s.vm (m.2 + i)
  else host.getD i 0

/-- Writes `p` at byte `i` of a side. -/
def State.sideWrite (s : State) (x : Xfer) (m : Nat × Nat) (i : Nat) (p : List Byte) : State :=
  if p = [] then s
  else if m.1 = 0 then s.hubWrite x.handle (m.2 + i) x.exec p
  else if m.1 = 1 then ((s.writeWords 1 (m.2 + i) p.length (x.tile / 16) x.exec x.handle).locWrite x.handle (1, m.2 + i) p).flip 1 (m.2 + i) x.exec
  else if m.1 = 2 then (let t := s.writeWords 2 (m.2 + i) p.length (x.tile / 16) x.exec x.handle
    ({ t with vm := writeBytes t.vm (m.2 + i) p }).flip 2 (m.2 + i) x.exec)
  else s.hostWrite x.d.func (m.2 + i) p

/-! ## Swapping and overlap (R366, R367) -/

def swapElem (mode : Nat) (e : List Byte) : List Byte := if mode = 3 then e.drop 2 ++ e.take 2 else if mode = 0 then e else e.reverse
def swapBytes (mode : Nat) (b : List Byte) : List Byte :=
  (List.range (b.length / elemSize mode)).flatMap (fun i => swapElem mode (slice b (i * elemSize mode) (elemSize mode)))

/-- order_of: some true for DESCENDING, some false for ASCENDING, none for a refusal. -/
def Xfer.order (x : Xfer) : Option Bool :=
  let d := x.d
  let a := x.side d.srcSp d.src; let b := x.side d.dstSp d.dst
  if a.1 ≠ b.1 ∨ sideTile a ≠ sideTile b ∨ a.2 + d.len ≤ b.2 ∨ b.2 + d.len ≤ a.2 then some false
  else if d.swap = 0 then some (decide (a.2 < b.2))
  else if a.2 = b.2 then some false
  else if (max a.2 b.2 - min a.2 b.2) % elemSize d.swap = 0 then some (decide (a.2 < b.2))
  else none

/-! ## Why a transfer cannot complete (Table 14.6) -/

/-- The state of the proxy port that leads to a side: another tile's memory is behind the L port of its router (R358). -/
def State.portOf (s : State) (x : Xfer) (m : Nat × Nat) : Nat :=
  match sideTile m with
  | some t => if t = x.tile then 0 else s.fld Fld.NOC_PORT_STATE t
  | none => 0

/-- A byte of the transfer that cannot be moved, and its status: 0 for none. DEDUCED, log entry 55. -/
def State.byteFault (s : State) (x : Xfer) (i : Nat) : Nat :=
  let d := x.d
  let a := x.side d.srcSp d.src; let b := x.side d.dstSp d.dst
  let port := s.portOf x
  if !s.sideMapped x d.srcSp d.src i || !s.sideMapped x d.dstSp d.dst i then 0x21
  else if b.1 = 0 ∧ s.blockProtected (b.2 + i) then 0x24
  else if port a ≠ 0 ∨ port b ≠ 0 then 0x31
  else if a.1 ≠ 3 ∧ s.badAt a.1 (a.2 + i) then 0x62
  else 0

/-- The k-th byte in the order of the transfer. -/
def Xfer.nth (x : Xfer) (desc : Bool) (k : Nat) : Nat :=
  let e := elemSize x.d.swap
  if desc then x.d.len - e - k / e * e + k % e else k

/-- The first byte in the transfer's order that cannot be moved, and the status; none when all can. -/
def State.firstFault (s : State) (x : Xfer) (desc : Bool) : Option (Nat × Nat) :=
  ((List.range x.d.len).find? (fun k => s.byteFault x (x.nth desc k) != 0)).map (fun k => (k, s.byteFault x (x.nth desc k)))

/-- A status block that cannot be written ends a transfer whose bytes are all moved. DEDUCED, log entry 55. -/
def State.statFault (s : State) (x : Xfer) : Option (Nat × Nat) :=
  if !x.hub ∨ x.d.stat = 0 then none
  else if !caveMapped x.d.stat then some (0x21, x.d.len)
  else if s.blockProtected x.d.stat then some (0x24, x.d.len)
  else none

/-- The status with which the transfer must end, and how many bytes it can move before; none when it can complete. -/
def State.xferFault (s : State) (x : Xfer) : Option (Nat × Nat) :=
  if x.ue then some (0x62, 0)
  else if !x.valid then some (0x21, 0)
  else match x.order with
    | none => some (0x33, 0)
    | some desc => match s.firstFault x desc with
      | some f => some (f.2, f.1)
      | none => s.statFault x

/-- The transfer begins to move bytes. -/
def Xfer.starts (x : Xfer) : Bool := !x.ue && x.valid && x.order.isSome
/-- Elements move whole (R367): the bytes moved of `k`. -/
def Xfer.moved (x : Xfer) (k : Nat) : Nat := k / elemSize x.d.swap * elemSize x.d.swap

/-- An error that the transfer's read finds is recorded (R470); a proxy port's answer is counted (R359). -/
def State.xferNote (s : State) (x : Xfer) (st : Nat) : State :=
  let a := x.side x.d.srcSp x.d.src
  if st = 0x62 ∧ a.1 ≠ 3 then s.readBad a.1 a.2 x.d.len x.die x.exec x.handle
  else if st = 0x31 then
    -- the proxy port of the tile that is off answers (R359)
    match [a, x.side x.d.dstSp x.d.dst].find? (fun m => s.portOf x m != 0) with
    | some m => match sideTile m with | some t => s.bump .NOC_CNT_PROXY t | none => s
    | none => s
  else s

/-! ## Moving data -/

/-- All bytes of the destination, as a copy through a temporary buffer gives them (R367). -/
def State.xferData (s : State) (x : Xfer) (host : List Byte) : List Byte :=
  let a := x.side x.d.srcSp x.d.src
  swapBytes x.d.swap ((List.range x.d.len).map (s.sideByte a host))

/-- The whole transfer (R374); correctable errors of the read are recorded. -/
def State.xferAll (s : State) (x : Xfer) (host : List Byte) : State :=
  let a := x.side x.d.srcSp x.d.src
  let s1 := if a.1 = 3 then s else s.readRange a.1 a.2 x.d.len x.die 0 x.exec x.handle
  s1.sideWrite x (x.side x.d.dstSp x.d.dst) 0 (s.xferData x host)

/-- A prefix of `k` bytes in the transfer's order; the residue that can be written holds free values (R376). DEDUCED, log entry 55. -/
def State.xferPart (s : State) (x : Xfer) (host : List Byte) (k : Nat) : State :=
  let b := x.side x.d.dstSp x.d.dst
  let desc := x.order == some true
  let out := s.xferData x host
  let n := x.d.len
  let ok := fun i => s.sideMapped x x.d.dstSp x.d.dst i && !(b.1 == 0 && s.blockProtected (b.2 + i)) && b.1 != 3
  let res := (List.range (n - k)).map (fun j => x.nth desc (k + j))
  let s1 := s.sideWrite x b (if desc then n - k else 0) (if desc then out.drop (n - k) else out.take k)
  (res.filter ok).foldl (fun (t : State) i => t.used.sideWrite x b i [BitVec.ofNat 8 (t.pick 256)]) s1

/-- The 16-byte status block (R374). DEDUCED, log entry 55. -/
def State.statusBlock (s : State) (x : Xfer) (st done : Nat) : State :=
  if x.d.stat = 0 then s
  else s.hubWrite x.handle x.d.stat x.exec (leBytes 1 st ++ zeros 3 ++ leBytes 4 done ++ leBytes 4 s.stamp ++ zeros 4)

/-! ## Channels -/

def State.dma (s : State) (c : Nat) : DmaChan := Sparse.get {} s.dmas c
def State.setDma (s : State) (c : Nat) (x : DmaChan) : State := { s with dmas := Sparse.set {} s.dmas c x }

/-- DMA_CH_STAT.STATE: IDLE, BUSY, ABORTING or HALTED. -/
def State.dmaState (s : State) (c : Nat) : Nat :=
  let x := s.dma c
  if x.aborting then 2 else if x.halted then 3 else if x.active.isSome then 1 else 0

/-- The queue of a channel. -/
def State.dmaQueue (s : State) (c : Nat) : Nat := s.fld Fld.DMA_CH_CFG_QUEUE c

/-- The function that a channel's work must name: for a queue, its owner when that is a PCIe function (R365). -/
def State.workFunc (s : State) (c : Nat) (w : DmaWork) : Option Nat :=
  if w.kind = 2 ∧ s.qOwner (s.dmaQueue c) ≤ 15 then some (s.qOwner (s.dmaQueue c)) else none

/-- The transfer a unit runs. -/
def State.xferOf (s : State) (u : DmaUnit) : Option Xfer :=
  match u with
  | .hub c =>
    if (s.dma c.val).aborting then none
    else (s.dma c.val).active.map (fun w => { desc := w.desc, hub := true, exec := 384 + c.val, func := s.workFunc c.val w, n := w.n, ue := w.ue })
  | .job a =>
    match s.dmaJobs.find? (fun j => j.curd == a), s.curdAt a with
    | some j, some c =>
      if c.st = .running ∧ j.chan.isSome ∧ j.desc ≠ [] then
        some { desc := j.desc, hub := true, exec := c.exec, handle := c.handle, func := (s.orderOf c.handle).map Order.func, n := j.n, ue := j.ue }
      else none
    | _, _ => none
  | .tile t n =>
    (s.tchan (t.val * 8 + n.val)).active.map (fun j =>
      { desc := j.desc, hub := false, tile := t.val, exec := 0x400 + j.core, curd := j.curd
        handle := ((j.curd.bind s.curdAt).map Curd.handle).getD 0 })

/-! ## Ends -/

/-- A descriptor read by executor `exec`: its bytes, whether the read found an uncorrectable word, and the state after it. -/
def State.fetchDesc (s : State) (a exec h : Nat) : List Byte × Bool × State :=
  let ok := s.rangeOk 0 a 64
  (s.caveRead a 64, !ok, if ok then s else s.readBad 0 a 64 4 exec h)

/-- A queue descriptor's STATUS is written and it passes to the consumer side; owned blocks return (R371). DEDUCED, log entry 55. -/
def State.queueDone (s : State) (c : Nat) (w : DmaWork) (st : Nat) : State :=
  let q := s.dmaQueue c
  let h := s.reg .Q_HEAD q
  let s1 := { s with cave := writeBytes s.cave (s.slotAddr q h + 20) (leBytes 1 st) }
  (s1.setReg .Q_HEAD q ((h + 1) % (2 * s.qDepth q))).returnBlocks (s.queueBlocks q w.ptr)

/-- A channel's chain ends with a status. DEDUCED, log entry 55. -/
def State.chainEnd (s : State) (c : Nat) (w : DmaWork) (st : Nat) : State :=
  let s1 := if w.kind = 2 then s.queueDone c w st else s
  (s1.setFld Fld.DMA_CH_STAT_LAST_STATUS c st).setDma c { s1.dma c with active := none }

/-- DONE_BYTES and RESIDUE of a channel's last transfer. -/
def State.doneBytes (s : State) (c done len : Nat) : State :=
  (s.setReg .DMA_CH_DONE c done).setReg .DMA_CH_RESIDUE c (len - done)

/-- The tile channel goes on to its armed set. -/
def State.tileNext (s : State) (k st done : Nat) (good : Bool) : State :=
  let t := s.tchan k
  (s.setTchan k { t with active := t.armed, armed := none, lastStatus := st, done := done }).bump
    (if good then .TDMA_CNT_XFER else .TDMA_CNT_ABORT) (k / 8 * 4 + k % 8)

/-- Another HUB_DMA job of a sink task of the order is still to end. -/
def State.otherSink (s : State) (c : Curd) : Bool :=
  match s.orderOf c.handle with
  | none => true
  | some o =>
    let img := (s.image o.slot).bytes
    s.curds.any (fun x => x.handle == c.handle && x.addr != c.addr && x.cls == 8 && x.st != .ended && (imgTaskAt img x.task).nSucc == 0)

/-- A job's chain is over: it ends DONE, unless it is the job that still has to deliver its order (R71). -/
def State.jobChainEnd (s : State) (a : Nat) : State :=
  match s.curdAt a with
  | none => s
  | some c =>
    let sink := match s.orderOf c.handle with
      | some o => (imgTaskAt (s.image o.slot).bytes c.task).nSucc == 0 && !s.otherSink c
      | none => false
    if sink then { s with dmaJobs := s.dmaJobs.map (fun (j : DmaJob) => if j.curd = a then { j with desc := [] } else j) }
    else ({ s with dmaJobs := s.dmaJobs.filter (fun j => j.curd != a) }).endCurd a 0x10

/-- DMA_TRANSFER_COMPLETE (R374): every destination byte is written, then the status block; the chain goes on or ends.
`host` holds what a host source reads. -/
def State.xferComplete (s : State) (u : DmaUnit) (host : List Byte) : State :=
  match s.xferOf u with
  | none => s
  | some x =>
    if (s.xferFault x).isSome then s
    else
      let dr := (s.xferAll x host).drainAll (fun m => x.hub && m.req == x.exec)   -- R463: a hub channel ends with DATA_UE
      let s1 := dr.2.statusBlock x 0x10 x.d.len
      if !dr.1 then
        match u with
        | .hub c =>
          match (s.dma c.val).active with
          | none => s
          | some w =>
            let s2 := ((dr.2.doneBytes c.val x.d.len x.d.len).bump .DMA_CH_CNT_HALT c.val).chainEnd c.val w 0x62
            s2.setDma c.val { s2.dma c.val with halted := true }
        | .job a => ({ dr.2 with dmaJobs := dr.2.dmaJobs.filter (fun j => j.curd != a) }).endCurd a 0x12
        | .tile _ _ => s
      else
      let nx := s1.fetchDesc x.d.next x.exec x.handle
      match u with
      | .hub c =>
        match (s.dma c.val).active with
        | none => s
        | some w =>
          let s2 := fun (t : State) => (t.doneBytes c.val x.d.len x.d.len).bump .DMA_CH_CNT_XFER c.val
          if x.d.next = 0 then (s2 s1).chainEnd c.val w 0x10
          else
            let t := s2 nx.2.2
            t.setDma c.val { t.dma c.val with active := some { w with desc := nx.1, n := w.n + 1, ue := nx.2.1 } }
      | .job a =>
        if x.d.next = 0 then s1.jobChainEnd a
        else
          let t := nx.2.2
          { t with dmaJobs := t.dmaJobs.map (fun (j : DmaJob) => if j.curd = a then { j with desc := nx.1, n := j.n + 1, ue := nx.2.1 } else j) }
      | .tile t n =>
        match (s.tchan (t.val * 8 + n.val)).active with
        | some j => if j.aborted then s else s1.tileNext (t.val * 8 + n.val) 0x10 x.d.len true
        | none => s

def execDmaTransferComplete (unit : DmaUnit) (host : List Byte) (s : State) : Host.Outcome State Fault Refusal :=
  .next (s.xferComplete unit host)

/-- The end of a transfer with status `st` after `k` bytes. DEDUCED, log entry 55. -/
def State.xferStop (s : State) (u : DmaUnit) (x : Xfer) (st k : Nat) (host : List Byte) : State :=
  let s1 := if x.starts then (s.xferNote x st).xferPart x host k else s
  match u with
  | .hub c =>
    match (s.dma c.val).active with
    | none => s
    | some w =>
      let s2 := ((s1.doneBytes c.val k x.d.len).bump .DMA_CH_CNT_HALT c.val).chainEnd c.val w st
      s2.setDma c.val { s2.dma c.val with halted := true }
  | .job a => ({ s1 with dmaJobs := s1.dmaJobs.filter (fun j => j.curd != a) }).endCurd a 0x12
  | .tile t n => s1.tileNext (t.val * 8 + n.val) st k false

/-- DMA_TRANSFER_HALT (R373, R375, R376, Table 14.6): a transfer that cannot complete ends after `done` bytes, of those
that its cause lets it write. `hostErr`: a host read failed; an aborted tile transfer ends with CANCELLED. -/
def State.xferHalt (s : State) (u : DmaUnit) (done : Nat) (hostErr : Bool) (host : List Byte) : State :=
  match s.xferOf u with
  | none => s
  | some x =>
    let aborted := match u with | .tile t n => (match (s.tchan (t.val * 8 + n.val)).active with | some j => j.aborted | none => false) | _ => false
    match s.xferFault x with
    | some (st, k) => s.xferStop u x (if aborted then 0x16 else st) (x.moved (min done k)) host
    | none =>
      if aborted then s.xferStop u x 0x16 (x.moved (min done x.d.len)) host
      else if hostErr ∧ x.d.srcSp = 1 then s.xferStop u x 0x63 (x.moved (min done (x.d.len - 1))) host
      else s

def execDmaTransferHalt (unit : DmaUnit) (done : Nat) (hostErr : Bool) (host : List Byte) (s : State) : Host.Outcome State Fault Refusal :=
  .next (s.xferHalt unit done hostErr host)

/-! ## Hub channels (R368 to R371) -/

/-- Descriptor words of a register set. -/
def State.setWords (s : State) (c k : Nat) : List Byte :=
  (List.range 16).flatMap (fun j => leBytes 4 (s.reg (if k = 0 then .DMA_CH_SET0 else .DMA_CH_SET1) (c * 16 + j)))

/-- A set is armed or active. -/
def DmaChan.setBusy (x : DmaChan) (k : Nat) : Bool := x.armed.contains k || (match x.active with | some w => w.kind == k | none => false)

/-- DMA_ARM (R370). -/
def State.dmaArm (s : State) (c k : Nat) (src : Source) : State :=
  if (s.dma c).setBusy k then s.werrReg .DMA_CH_CTRL c src else s.setDma c { s.dma c with armed := (s.dma c).armed ++ [k] }

def execDmaArm (chan : Fin 64) (set : Fin 2) (src : Source) (s : State) : Host.Outcome State Fault Refusal :=
  .next (s.busGate (RegId.offset .DMA_CH_CTRL chan.val) src (s.dmaArm chan.val set.val src))

/-- DMA_ABORT (R375): set and queue work is aborted; jobs are unaffected. -/
def State.dmaAbort (s : State) (c : Nat) : State :=
  let x := s.dma c
  if x.active.isSome ∨ x.armed ≠ [] then s.setDma c { x with aborting := true } else s

def execDmaAbort (chan : Fin 64) (src : Source) (s : State) : Host.Outcome State Fault Refusal := .next (s.busGate (RegId.offset .DMA_CH_CTRL chan.val) src (s.dmaAbort chan.val))

/-- DMA_ABORT_COMPLETE (R375, R376): `done` bytes of the active transfer were written; the descriptors return. DEDUCED, log entry 55. -/
def State.dmaAborted (s : State) (c done : Nat) (host : List Byte) : State :=
  let x := s.dma c
  if !x.aborting then s
  else
    let s1 := match x.active with
      | none => s.setFld Fld.DMA_CH_STAT_LAST_STATUS c 0x16
      | some w =>
        let y : Xfer := { desc := w.desc, hub := true, exec := 384 + c, func := s.workFunc c w, n := w.n, ue := w.ue }
        let k := y.moved (min done (match s.xferFault y with | some f => f.2 | none => y.d.len))
        ((if y.starts then s.xferPart y host k else s).doneBytes c k y.d.len).chainEnd c w 0x16
    (s1.bump .DMA_CH_CNT_HALT c).setDma c { halted := true }

def execDmaAbortComplete (chan : Fin 64) (done : Nat) (host : List Byte) (s : State) : Host.Outcome State Fault Refusal :=
  .next (s.dmaAborted chan.val done host)

/-- DMA_RESUME (R375). -/
def execDmaResume (chan : Fin 64) (src : Source) (s : State) : Host.Outcome State Fault Refusal :=
  .next (s.busGate (RegId.offset .DMA_CH_CTRL chan.val) src (s.setDma chan.val { s.dma chan.val with halted := false }))

/-- DMA_CLR_STATS (R378). -/
def State.dmaClr (s : State) (c : Nat) : State := s.clearRegs [.DMA_CH_CNT_XFER, .DMA_CH_CNT_HALT, .DMA_CH_CNT_JOBGR] c

def execDmaClrStats (chan : Fin 64) (src : Source) (s : State) : Host.Outcome State Fault Refusal := .next (s.busGate (RegId.offset .DMA_CH_CTRL chan.val) src (s.dmaClr chan.val))

/-- DMA cost of a job's task, in channel-grains. -/
def State.dmaCost (s : State) (c : Curd) : Nat :=
  match s.orderOf c.handle with
  | none => 0
  | some o => (((o.tasks.getD c.task default).costs.filter (fun x => x.1 == 9)).map (fun x => x.2.2)).sum

/-- The started HUB_DMA jobs that have not ended: newly started ones read their argument block (R363, R371). DEDUCED, log entry 34. -/
def State.dmaJobsNow (s : State) : State :=
  let live := s.curds.filter (fun c => c.cls == 8 && c.st == .running)
  let kept := s.dmaJobs.filter (fun j => live.any (fun c => c.addr == j.curd))
  let new := live.filter (fun c => !(kept.any (fun j => j.curd == c.addr)))
  let t := new.foldl (fun (t : State) c => (t.fetchDesc c.args 0x3FF c.handle).2.2) s
  { t with dmaJobs := kept ++ new.map (fun c => { curd := c.addr, remaining := s.dmaCost c, desc := s.caveRead c.args 64, ue := !s.rangeOk 0 c.args 64 }) }

/-- Order of service: remaining descending, then selection key (R119). -/
def State.jobBefore (s : State) (a b : DmaJob) : Bool :=
  if a.remaining = b.remaining then
    match s.curdAt a.curd, s.curdAt b.curd with
    | some x, some y => keyBefore x y
    | _, _ => true
  else b.remaining < a.remaining

def State.insertJob (s : State) (j : DmaJob) : List DmaJob → List DmaJob
  | [] => [j]
  | x :: r => if s.jobBefore j x then j :: x :: r else x :: s.insertJob j r

/-- A job's first service: its channel becomes its executor, its DISPATCH record is written (R368). -/
def State.firstService (s : State) (a c : Nat) : State :=
  match s.curdAt a with
  | none => s
  | some cu =>
    if cu.exec ≠ 0x3FF then s
    else
      let s1 := (s.modCurd a (fun x => { x with exec := 384 + c })).trace 4 2 0 (384 + c) false cu
      if cu.token then s1.setFlow cu.flow { s1.flow cu.flow with holder := 384 + c } else s1

/-- Channels for the served jobs, in order: the one held before, or the highest free one; sentinel writes have taken those below
`first`. -/
def assignChans (first : Nat) (kept : List Nat) : List DmaJob → List Nat → List (DmaJob × Nat)
  | [], _ => []
  | j :: r, used =>
    match j.chan.filter (fun c => first ≤ c) with
    | some c => (j, c) :: assignChans first kept r used
    | none =>
      match ((List.range 64).reverse).find? (fun c => first ≤ c && !used.contains c && !kept.contains c) with
      | some c => (j, c) :: assignChans first kept r (c :: used)
      | none => []

/-- A channel without a job takes its armed set, then its queue (R368 to R371). -/
def State.chanTake (s : State) (c : Nat) : State :=
  let x := s.dma c
  if x.active.isSome ∨ x.halted ∨ x.aborting then s
  else match x.armed with
    | k :: r => s.setDma c { x with armed := r, active := some { kind := k, desc := s.setWords c k } }
    | [] =>
      let q := s.dmaQueue c
      if s.fld Fld.DMA_CH_CFG_QEN c = 1 ∧ s.qType q = 7 ∧ s.qState q ≠ 0 ∧ 0 < s.qOcc q
          ∧ !((List.range 64).any (fun e => e != c && s.dmaQueue e == q && (match (s.dma e).active with | some w => w.kind == 2 | none => false))) then
        let p := readBytes s.cave (s.slotAddr q (s.reg .Q_HEAD q)) 32
        -- a descriptor of another form than Table 4.4 names no DMA descriptor: the work ends with BAD_PARAM (R6)
        if !ptrOk p ∨ bitAt (u8 p 21) 0 then s.setDma c { x with active := some { kind := 2, desc := zeros 64, ptr := p } }
        else
        let f := s.fetchDesc (bits (u64 p 0) 39 0) (384 + c) 0
        f.2.2.setDma c { x with active := some { kind := 2, desc := f.1, ptr := p, ue := f.2.1 } }
      else s

/-- DMA_GRAIN (R368): the result writes of sentinels that fired since the last one have the channels from DC0 upward, one each; jobs
take channels from DC63 downward, those with cost left first; the channels left serve sets and queues. DEDUCED, log entry 55. -/
def State.dmaGrain (s0 : State) : State :=
  if !s0.gridRun then (List.range 64).foldl (fun (t : State) c => t.chanTake c) s0
  else
    let first := min 64 s0.sentWrites
    let s : State := { s0.dmaJobsNow with sentWrites := 0 }
    let srt := s.dmaJobs.foldr s.insertJob []
    let js := ((srt.filter (fun j => j.remaining != 0)) ++ srt.filter (fun j => j.remaining == 0)).take (64 - first)
    let kept := js.filterMap DmaJob.chan
    let asg := assignChans first kept js []
    let s1 := { s with dmaJobs := s.dmaJobs.map (fun j =>
      match asg.find? (fun (a : DmaJob × Nat) => a.1.curd == j.curd) with
      | some a => { j with chan := some a.2, remaining := j.remaining - 1 }
      | none => { j with chan := none }) }
    let s2 := asg.foldl (fun (t : State) a => (t.firstService a.1.curd a.2).bump .DMA_CH_CNT_JOBGR a.2) s1
    (List.range 64).foldl (fun (t : State) c => if c < first || asg.any (fun a => a.2 == c) then t else t.chanTake c) s2

def execDmaGrain (s : State) : Host.Outcome State Fault Refusal := .next s.dmaGrain

/-! ## Tile channels and the region port (R372, R440) -/

/-- TILE_DMA_GO (R372): a core's store of 1 to GO of a channel of its tile. -/
def execTileDmaGo (core : Fin 256) (chan : Fin 4) (s : State) : Host.Outcome State Fault Refusal :=
  .next (s.tileGo core.val (coreTile core.val * 8 + chan.val))

/-- REGION_COMMAND_GO (R440): the same at the region port. -/
def execRegionCommandGo (core : Fin 256) (s : State) : Host.Outcome State Fault Refusal :=
  .next (s.tileGo core.val (coreTile core.val * 8 + 4))

/-- A region command's descriptor is valid: OP 0x0C, a declared FUNCTION, spaces of the die, ranges apart. -/
def Xfer.regionOk (x : Xfer) (nFunc : Nat) : Bool :=
  let d := x.d
  let a := x.side d.srcSp d.src; let b := x.side d.dstSp d.dst
  u8 x.desc 0 == 0x0C && u8 x.desc 1 ≤ 1 && u8 x.desc 3 < nFunc && decide (1 ≤ d.len ∧ d.len ≤ 67108864)
    && spaceOk false d.srcSp d.src && spaceOk false d.dstSp d.dst && d.srcSp != 1 && d.dstSp != 1 && d.next == 0 && d.stat == 0
    && allZero (slice x.desc 40 24) && !(a.1 == b.1 && a.2 < b.2 + d.len && b.2 < a.2 + d.len)

/-- REGION_COMMAND_END (R440, R441): a command ends with its output written, or with the status of what stopped it. -/
def State.regionEnd (s : State) (tile : Nat) : State :=
  let k := tile * 8 + 4
  let rg := 1 + tile / 16
  match (s.tchan k).active with
  | none => s
  | some j =>
    let x : Xfer := { desc := j.desc, hub := false, tile := tile, exec := 0x400 + j.core, curd := j.curd, handle := ((j.curd.bind s.curdAt).map Curd.handle).getD 0 }
    let fin := fun (t : State) (st done : Nat) (good : Bool) =>
      let c := t.tchan k
      let t1 := t.setTchan k { c with active := c.armed, armed := none, lastStatus := st, done := done }
      if good then t1.bump .LR_CNT_CMD rg else t1
    if j.aborted then fin s 0x16 0 false
    else if j.lost ∨ s.fld Fld.LR_STAT_STATE rg ≠ 3 then fin s 0x30 0 false
    else if !x.regionOk (s.fld Fld.LR_CAP_CAP rg) then fin s 0x21 0 false
    else match s.firstFault x false with
      | some (_, st) => fin (s.xferNote x st) st 0 false
      | none =>
        let a := x.side x.d.srcSp x.d.src
        let src := (List.range x.d.len).map (s.sideByte a [])
        let out := (List.range x.d.len).map (Config.lrFunction (s.reg .LR_ID rg) (s.reg .LR_VER rg) (u8 j.desc 3) src)
        fin ((s.readRange a.1 a.2 x.d.len x.die 0 x.exec x.handle).sideWrite x (x.side x.d.dstSp x.d.dst) 0 out) 0x10 x.d.len true

def execRegionCommandEnd (tile : Fin 64) (s : State) : Host.Outcome State Fault Refusal := .next (s.regionEnd tile.val)

end Sys2Proof.Machine
end

