-- ==== Sys2Proof/Machine/BusMap.lean ====
section
/-!
DEFINITION. The BAR0 map: which register a BAR0 offset names (R22, R24), which blocks run (R7, R277, R280), which written
values a register refuses, and what answers for a die or a tile that is off (R25, R358).
-/
namespace Sys2Proof.Machine

/-! ## Offsets -/

/-- The index that an offset from a register kind's base names. -/
def dimIndex : List (Nat × Nat) → Nat → Option Nat
  | [], o => if o = 0 then some 0 else none
  | (n, st) :: r, o => if o / st < n then (dimIndex r (o % st)).map (fun j => o / st * r.foldl (fun a d => a * d.1) 1 + j) else none

/-- The kind and index of a register at an offset, in a list of kinds. -/
def findReg (off : Nat) : List (RegId × RegDesc) → Option (RegId × Nat)
  | [] => none
  | (r, d) :: l => match (if d.base ≤ off then dimIndex d.dims (off - d.base) else none) with
    | some i => some (r, i)
    | none => findReg off l

/-- The register at a BAR0 offset. -/
def regAt (off : Nat) : Option (RegId × Nat) := findReg off (regIds.zip regDescs)

/-! ## Dies and tiles that do not answer -/

/-- The start of the die windows. -/
def dieWindows : Nat := 0x2000000

/-- The die whose link a BAR0 offset lies behind: its window, and its engine registers (R25, R229). -/
def offsetDie (off : Nat) : Option Nat :=
  if dieWindows ≤ off ∧ off < 0x4000000 then some ((off - dieWindows) / 0x800000)
  else if 0xa00000 ≤ off ∧ off < 0xa40000 ∧ 0x800 ≤ off % 65536 then some ((off - 0xa00000) / 65536)
  else none

/-- The tile that a BAR0 offset lies in: everything of a tile window but the registers of its cores and its BMU, which the die
holds (R165, R174, R207), and those of its router, which stays on (R482). -/
def offsetTile (off : Nat) : Option Nat :=
  let o := (off - dieWindows) % 0x80000
  if dieWindows ≤ off ∧ off < 0x4000000 ∧ !((0x7c000 ≤ o && o < 0x7e000) || (0x7e800 ≤ o && o < 0x7f000))
  then some ((off - dieWindows) / 0x80000) else none

/-- What a proxy answers for at this offset: the counter of the port that answers. DEDUCED, log entry 15. -/
def State.proxyAt (s : State) (off : Nat) : Option (RegId × Nat) :=
  match offsetDie off with
  | none => none
  | some d =>
    if s.dieStat d ≠ 1 then some (.DL_CNT_PROXY, d)
    else match offsetTile off with
      | some t => if s.tileOn t then none else some (.NOC_CNT_PROXY, t)
      | none => none

/-! ## Running blocks (R7) -/

/-- Whether the block that a register's RWL fields belong to runs. -/
def State.blockRuns (s : State) (r : RegId) (i : Nat) : Bool :=
  match r with
  | .Q_CFG | .Q_HOSTRING_LO | .Q_HOSTRING_HI => s.qState i != 0
  | .MGMT_CFG | .MGMT_IP | .MGMT_MAC_LO | .MGMT_MAC_HI => s.fld Fld.MGMT_CFG_EN == 1
  | .CMD_PAIR_CFG | .CMD_PAIR_MSIX => s.fld Fld.CMD_PAIR_CFG_EN i == 1
  | .TIME_FRAME_OFS | .TIME_FRAME_BASE_LO | .TIME_FRAME_BASE_HI => s.gridRun
  | .TRIG_CFG => s.fld Fld.TRIG_CFG_EN i == 1
  | .TPO_CTRL | .TPO_START_LO | .TPO_START_HI | .TPO_PERIOD_LO | .TPO_PERIOD_HI | .TPO_WIDTH | .TPO_OFS => s.fld Fld.TPO_CTRL_EN i == 1
  | .DAC_CFG => s.fld Fld.DAC_CFG_RUN i == 1
  | .DMA_CH_CFG => s.dmaState i != 0
  | .ECC_FLIP_CFG | .ECC_FLIP_DLO | .ECC_FLIP_DHI | .ECC_FLIP_CHK => s.fld Fld.ECC_FLIP_CFG_ARM == 1
  | .FH_CFG | .FH_MAC_LO | .FH_MAC_HI => s.fhState i != 0
  | .LN_CTRL | .LN_EQ => s.laneOwnerRuns i
  | .SE_LOG_LO | .SE_LOG_HI | .SE_LOG_CFG => s.fld Fld.SE_LOG_CFG_ENABLE == 1
  | .SE_S_CFG | .SE_S_CENTER | .SE_S_LAT => s.fld Fld.SE_S_CFG_EN i == 1
  | _ => false

/-! ## Refused values -/

/-- MODE values that R279 refuses on port `p`. DEDUCED, log entry 15. -/
def State.modeRefused (s : State) (p m : Nat) : Bool :=
  if p % 2 = 1 then m == 3 || (m != 0 && s.fld Fld.FH_CFG_MODE (p - 1) == 3)
  else m == 3 && s.fld Fld.FH_CFG_MODE (p + 1) != 0

/-- A stream entry that R283 refuses: its AxC number is VALID on another entry, as last written; the entries of a merged odd port
are ignored (R279). -/
def State.axcRefused (s : State) (i v : Nat) : Bool :=
  bitAt v 9 && !s.fhShadowed (i / 128) && (List.range 2048).any (fun j => j != i && !s.fhShadowed (j / 128) && (let w := s.written .FH_AXC j; bitAt w 9 && bits w 8 0 == bits v 8 0))

/-- Half the sample rate less 10 MHz, in Hz (Table 10.6). -/
def centerMax (rate : Nat) : Nat := if rate = 0 then 5360000 else if rate = 1 then 20720000 else 51440000

/-- Written values that a register discards whole and records (Tables 1.10, 2.9 and 10.6, R93, R279, R283). DEDUCED, log entry 14. -/
def State.writeRefused (s : State) (r : RegId) (i v : Nat) (src : Source) : Bool :=
  match r with
  | .GLOBAL_CAVEWIN => !(bits v 7 0 ≤ 0x17 || bits v 7 0 == 0x80)
  | .Q_CFG | .Q_CTRL | .Q_HEAD | .Q_TAIL => systemQueue i src
  | .RENNET_MARGIN => bits v 5 0 < 2 || 16 < bits v 5 0
  | .FH_CFG => s.modeRefused i (bits v 1 0)
  | .FH_AXC => s.axcRefused i v
  | .SE_DET => bits v 15 8 < 6 || 30 < bits v 15 8 || bits v 23 16 < 12 || 30 < bits v 23 16 || bits v 31 24 < 64
  | .SE_AGC => bits v 27 24 == 0
  | .SE_LOG_LO => bits v 5 0 != 0
  | .SE_LOG_CFG => bits v 4 0 < 6 || 16 < bits v 4 0
  | .SE_S_CFG => bits v 6 5 == 3
  | .SE_S_CENTER => centerMax (s.fld Fld.SE_S_CFG_RATE i) < (sext 32 v).natAbs
  | .SE_G_CFG => bits v 20 11 == 0 || 512 < bits v 10 1 + bits v 20 11
  | .SE_G_COT => bits v 13 0 == 0 || 10000 < bits v 13 0
  | .DMA_CH_SET0 => (s.dma (i / 16)).setBusy 0
  | .DMA_CH_SET1 => (s.dma (i / 16)).setBusy 1
  | _ => false

end Sys2Proof.Machine
end

