-- ==== Sys2Proof/Machine/FabLink.lean ====
section
/-!
DEFINITION. A fabric link as a carrier of frames (R303 to R308, R320, R334): headers, credits, the queue of frames that
wait to be sent, numbering and acknowledgement, and the state of a link as it starts, seals and is lost.
-/
namespace Sys2Proof.Machine

def State.fl (s : State) (l : Nat) : FlLink := Sparse.get {} s.fab.links l
def State.setFl (s : State) (l : Nat) (x : FlLink) : State := { s with fab := { s.fab with links := Sparse.set {} s.fab.links l x } }
/-- FL_STAT.STATE (Table 12.4): 0 OFF, 1 TRAINING, 2 HELLO, 3 SEALING, 4 UP, 5 QUARANTINED. -/
def State.flState (s : State) (l : Nat) : Nat := s.fld Fld.FL_STAT_STATE l
def State.flUp (s : State) (l : Nat) : Bool := s.flState l == 4
def State.upLinks (s : State) : List Nat := (List.range 12).filter s.flUp

/-- This module's number, when it has one. -/
def State.modNum (s : State) : Option Nat := if s.fld Fld.FAB_MODNUM_VALID = 1 then some (s.fld Fld.FAB_MODNUM_NUMBER) else none
/-- SRC of frames that this module sends (R305). -/
def State.srcNum (s : State) : Nat := s.fld Fld.FAB_MODNUM_NUMBER
def State.gen (s : State) : Nat := s.fld Fld.FAB_GEN_ACTIVE

/-! ## Headers (Table 12.1) -/

structure FabHdr where
  kind : Nat
  vl : Nat
  gen : Nat
  kphase : Bool
  last : Bool
  dph : Bool
  dst : Nat
  src : Nat
  ttl : Nat
  ridx : Nat
  stag : Nat
  off : Nat
  len : Nat
  status : Nat
  stamp : Nat
  lseq : Nat
  deriving DecidableEq, Repr

def fabHdr (b : List Byte) : FabHdr :=
  let f := u8 b 1
  ⟨u8 b 0, f % 4, bits f 2 2, bitAt f 3, bitAt f 4, bitAt f 5, u16 b 2 % 1024, u16 b 4 % 1024, u8 b 6, u8 b 7 % 4, u16 b 8, u32 b 12,
    u16 b 16, u8 b 18, u32 b 20, u64 b 24⟩

/-- Routed kinds are 0x01 to 0x08, link-local kinds 0x10 to 0x13 (Table 12.2). -/
def routedKind (k : Nat) : Bool := 1 ≤ k && k ≤ 8
def localKind (k : Nat) : Bool := 0x10 ≤ k && k ≤ 0x13

/-- The check of a header (Table 12.11, third row). -/
def hdrOk (b : List Byte) : Bool :=
  let h := fabHdr b
  (routedKind h.kind || localKind h.kind) && bits (u8 b 1) 7 6 == 0 && u16 b 2 < 1024 && u16 b 4 < 1024 && u8 b 7 < 4
    && (h.kind == 1 || (h.stag == 0 && h.off == 0)) && h.off % 2048 == 0 && u16 b 10 == 0 && u8 b 19 == 0 && h.len ≤ 2048
    && b.length == 32 + h.len && (h.status == 0 || (h.kind == 1 && h.last)) && (routedKind h.kind == (h.vl != 3))

/-- Credits of a frame (R306), and of a link's virtual lanes (Table 12.3). -/
def frameCost (len : Nat) : Nat := ceilDiv (48 + len) 64
def vlCredits : List Nat := [256, 1024, 512, 64]

/-- The 32 header bytes of a frame. -/
def TxFrame.header (f : TxFrame) (kphase : Bool) (stamp lseq : Nat) : List Byte :=
  leBytes 1 f.kind ++ leBytes 1 (f.vl + 4 * b2n f.gen + 8 * b2n kphase + 16 * b2n f.last + 32 * b2n f.dph) ++ leBytes 2 f.dst ++ leBytes 2 f.src
    ++ leBytes 1 f.ttl ++ leBytes 1 f.ridx ++ leBytes 2 f.stag ++ zeros 2 ++ leBytes 4 f.off ++ leBytes 2 f.payload.length
    ++ leBytes 1 f.status ++ zeros 1 ++ leBytes 4 stamp ++ leBytes 8 lseq

/-! ## Credits (R306, ledger quantity 0x05) -/

def creditKey (l vl : Nat) : Nat := 5 * 2 ^ 24 + l + 16 * vl
def State.credit (s : State) (l vl : Nat) : CreditTerms := (Sparse.get none s.credits (creditKey l vl)).getD ⟨natAt vlCredits vl, 0, 0⟩
def State.setCredit (s : State) (l vl : Nat) (c : CreditTerms) : State :=
  { s with credits := Sparse.set none s.credits (creditKey l vl) (if c = ⟨natAt vlCredits vl, 0, 0⟩ then none else some c) }
/-- All credits of a link are at the sender again (Table 4.13). -/
def State.creditsReset (s : State) (l : Nat) : State :=
  (List.range 4).foldl (fun (t : State) vl => t.setCredit l vl ⟨natAt vlCredits vl, 0, 0⟩) s

/-! ## Timetables (R320) -/

/-- A timetable entry (Table 12.10): SCHED and OWNER. -/
def State.ttEntry (s : State) (l g w : Nat) : Bool × Nat :=
  let e := s.reg .FL_TT ((l * 2 + g) * 1024 + w)
  (bitAt e 0, bits e 10 1)

/-- Windows of link `l` that bank `g` gives this module. -/
def State.ownedIn (s : State) (l g : Nat) : List Nat :=
  match s.modNum with
  | none => []
  | some m => (List.range 1024).filter (fun w => s.ttEntry l g w == (true, m))

/-- A window of a link is SCHED in a live generation. -/
def State.windowSched (s : State) (l w : Nat) : Bool :=
  (s.ttEntry l s.gen w).1 || (s.fld Fld.FAB_GEN_OVERLAP == 1 && (s.ttEntry l (1 - s.gen) w).1)

/-- FAB_TT capacity of columns that open from now on (R321): the owned windows of links that are UP and not being disabled. -/
def State.fabCap (s : State) : State :=
  { s with cap := { s.cap with fabTt := (List.range 12).map (fun l => if s.flUp l && !(s.fab.disAt.any (fun x => x.1 == l)) then (s.ownedIn l s.gen).length else 0) } }

/-! ## Ordered sets and receive buffers (R304, R306) -/

def State.ordSet (s : State) (o : OrdSet) : State := { s with fab := { s.fab with sets := s.fab.sets ++ [o] } }

/-- The credits of a free buffer return at once (R306). -/
def State.rxReturn (s : State) (l vl n : Nat) : State :=
  let x := s.fl l
  (s.ordSet (.credit l vl n)).setFl l { x with
    rxHeld := setAt x.rxHeld vl (natAt x.rxHeld vl - n), rxFree := setAt x.rxFree vl (natAt x.rxFree vl + n) }

/-- The buffer of a frame that goes on stays full until the frame has left its next link (R306). -/
def State.keepBuffer (s : State) (l vl n : Nat) : State :=
  let x := s.fl l
  s.setFl l { x with rxHeld := setAt x.rxHeld vl (natAt x.rxHeld vl - n) }

/-- The buffer that a forwarded frame filled is free: its credits return with the next ACK, or at once where none is due. DESIGN CHOICE, log entry 51. -/
def State.freeBuffer (s : State) (b : Option (Nat × Nat × Nat)) : State :=
  match b with
  | none => s
  | some (l, vl, n) =>
    let x := s.fl l
    let s1 := s.setFl l { x with rxHeld := setAt x.rxHeld vl (natAt x.rxHeld vl + n) }
    if x.unacked = 0 then s1.rxReturn l vl n else s1

/-! ## Sending -/

/-- Nanoseconds a frame of `len` payload bytes takes on a link of 204.8 Gb/s. -/
def frameNs (len : Nat) : Nat := ceilDiv ((48 + len) * 5) 128

/-- A frame may start now (R304, R306, R320). VL0 frames start in a window of their source, one in a window; other
frames start when they end before the next scheduled window. -/
def State.mayStart (s : State) (l : Nat) (f : TxFrame) : Bool :=
  let x := s.fl l
  let st := max s.tm.ns x.freeNs
  let here := !s.gridRun || st < s.grainNs (s.tm.absGrain + 1)
  let en := st + frameNs f.payload.length
  decide (frameCost f.payload.length ≤ (s.credit l f.vl).atSender) && here
    && (if f.vl = 0 then
          s.gridRun && s.ttEntry l (b2n f.gen) s.grain == (true, f.src) && x.vl0At != some s.tm.absGrain
            && (match f.win with | some g => g == s.tm.absGrain | none => true)
        else !s.gridRun || (List.range 8).all (fun i =>
          !s.windowSched l ((s.grain + 1 + i) % 1024) || en ≤ s.grainNs (s.tm.absGrain + 1 + i)))

/-- The job that a frame belongs to notes when it has left the link (R324). -/
def State.noteLeft (s : State) (a : Option Nat) (ns : Nat) : State :=
  { s with fab := { s.fab with jobs := s.fab.jobs.map (fun (j : RemoteJob) => if some j.curd = a then { j with leftNs := ns } else j) } }

/-- A frame leaves: numbered, sealed, charged, and held until it is acknowledged; the buffer it came from is free (R306, R307,
R310). A time mark precedes a TIME frame (R304, R332), and KPHASE turns after this side's REKEY frame once keys are agreed (R311). -/
def State.sendNow (s : State) (l : Nat) (f : TxFrame) : State :=
  let x := s.fl l
  let n := frameCost f.payload.length
  let c := s.credit l f.vl
  let st := max s.tm.ns x.freeNs
  let en := st + frameNs f.payload.length
  let b := f.header x.txPhase (f.stamp.getD s.stamp) x.txSeq ++ f.payload
  let turn := f.kind = 0x11 ∧ x.nextTx.isSome
  let s1 := (s.setCredit l f.vl { c with atSender := c.atSender - n, inFlight := c.inFlight + n }).setFl l { x with
    txSeq := x.txSeq + 1, held := x.held ++ [⟨x.txSeq, f.vl, n, b, 0⟩], freeNs := en
    vl0At := if f.vl = 0 then some s.tm.absGrain else x.vl0At
    txPhase := if turn then !x.txPhase else x.txPhase
    txKey := if turn then x.nextTx.getD x.txKey else x.txKey, nextTx := if turn then none else x.nextTx
    sentAt := if f.kind = 0x13 then st * 2 ^ 32 + (if st = s.tm.ns then s.tm.frac else 0) else x.sentAt }
  let s2 := if f.kind = 0x13 then s1.ordSet (.mark l st) else s1
  let s3 := (s2.bump .FL_CNT_TX l).noteLeft f.curd en
  ({ s3 with wire := s3.wire ++ [⟨16 + l, st, b, some (b2n x.txPhase, x.txSeq), x.txKey⟩] } : State).freeBuffer f.buf

/-- A VL0 frame that has missed its window goes on VL1 (R320). -/
def State.unsched (s : State) (l : Nat) (f : TxFrame) : State :=
  (s.bump .FAB_CNT_UNSCHED).setFl l { s.fl l with txQ := (s.fl l).txQ ++ [{ f with vl := 1, win := none }] }

/-- Sends what may start, oldest first on each virtual lane. -/
def drainGo (l : Nat) : List TxFrame → List Nat → State → State
  | [], _, s => s
  | f :: r, blocked, s =>
    let missed := f.vl == 0 && (match f.win with | some g => g < s.tm.absGrain | none => false)
    if missed then drainGo l r blocked (s.unsched l f)
    else if !blocked.contains f.vl && s.mayStart l f then drainGo l r blocked (s.sendNow l f)
    else drainGo l r (f.vl :: blocked) (s.setFl l { s.fl l with txQ := (s.fl l).txQ ++ [f] })

def State.flDrain (s : State) (l : Nat) : State :=
  if s.flState l = 4 ∨ s.flState l = 3 then drainGo l (s.fl l).txQ [] (s.setFl l { s.fl l with txQ := [] }) else s

/-- A frame joins the queue of a link. -/
def State.flQueue (s : State) (l : Nat) (f : TxFrame) : State :=
  (s.setFl l { s.fl l with txQ := (s.fl l).txQ ++ [f] }).flDrain l

/-- A link-local frame; its DST, TTL and RIDX are not interpreted, and hold free values (R305). -/
def State.sendLocal (s : State) (l kind : Nat) (p : List Byte) : State :=
  let x := s.pick (2 ^ 20)
  s.used.flQueue l { kind := kind, vl := 3, gen := s.gen == 1, dst := x % 1024, src := s.srcNum, ttl := x / 1024 % 256, ridx := x / 2 ^ 18, payload := p }

/-! ## Routes of this module's own frames (R316, R317) -/

/-- A route-table entry's link, in the up or the down phase. -/
def State.routeLink (s : State) (g dst ridx : Nat) (down : Bool) : Nat :=
  let e := s.reg .ROUTE (g * 1024 + dst)
  bits e (4 * ridx + (if down then 19 else 3)) (4 * ridx + (if down then 16 else 0))

/-- The hop over link `l` is DOWN in generation `g`. -/
def State.downHop (s : State) (g l : Nat) : Bool := (s.fab.down.getD g []).contains l

/-- The route a source takes (R317): the preferred index, or the next upward whose first link is UP. -/
def State.pickRoute (s : State) (dst pref : Nat) : Option (Nat × Nat) :=
  ((List.range 4).map (fun k => (pref + k) % 4)).findSome? (fun r =>
    let l := s.routeLink s.gen dst r false
    if l < 12 && s.flUp l then some (l, r) else none)

/-- Sends a routed frame of this module over link `l`, route `r`. -/
def State.sendRouted (s : State) (l r : Nat) (f : TxFrame) : State :=
  s.flQueue l { f with gen := s.gen == 1, dph := s.downHop s.gen l, src := s.srcNum, ttl := s.fld Fld.FAB_TTL_TTL, ridx := r }

/-- VL of a routed kind that is not DATA (Table 12.2). -/
def kindVl (k : Nat) : Nat := if k = 3 ∨ k = 5 then 2 else 1

/-- Sends a request or reply of this module; without a route it is lost. -/
def State.fabMsg (s : State) (kind dst : Nat) (p : List Byte) : State :=
  match s.pickRoute dst 0 with
  | some (l, r) => s.sendRouted l r { kind := kind, vl := kindVl kind, dst := dst, src := 0, payload := p }
  | none => s

/-- Frames waiting in the module's outbox leave. -/
def State.fabFlush (s : State) : State :=
  s.fab.outbox.foldl (fun (t : State) m => t.fabMsg m.1 m.2.1 m.2.2) { s with fab := { s.fab with outbox := [] } }

/-! ## Start, sealing and loss of a link -/

/-- The HELLO or REKEY payload (Table 12.5, R311): the ephemeral key and the nonce are free values, the signature is over the
bytes 0 to 159 and the NONCE of the payload, and a REKEY carries no certificates. DESIGN CHOICE, log entry 52. -/
def State.helloBytes (s : State) (l : Nat) (certs : Bool) : List Byte :=
  let fit := fun (n : Nat) (b : List Byte) => (b ++ zeros n).take n
  let ic := if certs then s.kp.idCert else []
  let fc := if certs then s.kp.cert else []
  let m := leBytes 8 s.kp.serial ++ fit 8 (Config.sha384 s.kp.cred)
    ++ leBytes 2 (s.fld Fld.FAB_MODNUM_NUMBER + s.fld Fld.FAB_MODNUM_VALID * 2 ^ 15) ++ leBytes 1 l ++ zeros 13
    ++ fit 97 (Config.helloEph s.freeCtr) ++ zeros 31 ++ fit 32 (Config.helloNonce s.freeCtr)
  m ++ leBytes 2 ic.length ++ leBytes 2 fc.length ++ ic ++ fc ++ fit 96 (Config.helloSig s.freeCtr s.kp.serial m)

/-- What a link held is gone (R334): its held and waiting frames are discarded, a routed one that waited counts in
FAB_CNT_DOWN (R317), the buffers that forwarded frames filled are free, and its own buffers are empty. -/
def State.flReset (s : State) (l : Nat) : State :=
  let q := (s.fl l).txQ
  let s1 := q.foldl (fun (t : State) f => t.freeBuffer f.buf) (s.bump .FAB_CNT_DOWN 0 ((q.filter (fun f => routedKind f.kind)).length))
  let mine := fun (f : TxFrame) => if f.buf.any (fun b => b.1 == l) then { f with buf := none } else f
  let s2 := { s1 with fab := { s1.fab with links := s1.fab.links.map (fun (e : Nat × FlLink) => (e.1, { e.2 with txQ := e.2.txQ.map mine })) } }
  s2.setFl l {}

/-- The link enters HELLO and sends its unsealed HELLO frame (R309); what its LSEQ reads before sealing is a free value. DESIGN CHOICE, log entry 51. -/
def State.helloSend (s0 : State) (l : Nat) : State :=
  let s := (s0.setFld Fld.FL_STAT_STATE l 2).flReset l
  let p := s.helloBytes l true
  let x := s.pick (2 ^ 20)
  let f : TxFrame := { kind := 0x10, vl := 3, gen := s.gen == 1, dst := x % 1024, src := s.srcNum, ttl := x / 1024 % 256, ridx := x / 2 ^ 18, payload := p }
  let b := f.header false s.stamp (s.used.pick (2 ^ 64)) ++ p
  { (((s.setFl l { s.fl l with hello := p, freeNs := s.tm.ns + frameNs p.length, lastRx := s.tm.ns }).used.used).bump .FL_CNT_TX l) with
    wire := s.wire ++ [⟨16 + l, s.tm.ns, b, none, []⟩] }

/-- A TIME frame (Table 15.2): T1 of the previous one sent, T2 of the last one received, and the quality. -/
def State.timeFrame (s : State) (l : Nat) : State :=
  let pair := fun (t : Nat) => leBytes 8 (t / 2 ^ 32) ++ leBytes 4 (t % 2 ^ 32)
  s.sendLocal l 0x13 (pair (s.fl l).sentAt ++ pair ((s.fl l).timeRx.getD 0) ++ s.timeQuality)

/-- A module's link set has changed: a TOPO frame is due within 80 beats (R314). DEDUCED, log entry 53. -/
def State.topoDirty (s : State) : State := { s with fab := { s.fab with dirty := some s.absBeat } }

/-- Both directions have accepted LSEQ 0: the link is UP (R308). -/
def State.flMaybeUp (s : State) (l : Nat) : State :=
  let x := s.fl l
  if s.flState l = 3 ∧ x.sealedTx ∧ x.sealedRx then ((s.setFld Fld.FL_STAT_STATE l 4).topoDirty).fabCap.flDrain l else s

/-- Training starts (R308, R347). -/
def State.flTrain (s : State) (l : Nat) : State :=
  ((s.endTestModes (flLanes l)).setFld Fld.FL_STAT_STATE l 1).flReset l

/-- FAB_TT of a link is zero in every column from the current beat on (R49). -/
def State.zeroTt (s : State) (l : Nat) : State := s.zeroPools (fun x => x.pool == 0xF && x.index == l)

/-- Lessors that no UP link but those of route entries through `l` reaches: after link `l` is gone no route leads to them. -/
def State.unreachable (s : State) (m : Nat) : Bool := (s.pickRoute m 0).isNone

/-- The beat lies in the epoch of the beat in progress. -/
def State.thisEpoch (s : State) (b : Nat) : Bool := epochOf b == epochOf s.beat

/-- REMOTE pools of lessors that can no longer be reached are zero for the rest of this epoch, their leases stay lost (R335), and
the orders that hold reservations in them fail (R49, R50, R334). -/
def State.dropLessors (s : State) : State :=
  (List.range 16).foldl (fun (t : State) k =>
    match t.fab.leases.getD k none with
    | some z =>
      if z.epoch = epochOf t.beat ∧ t.unreachable z.lessor then
        let t1 := t.faultHolders (fun p i b => p == 0x10 && i == k && t.thisEpoch b)
        { t1 with
          fab := { t1.fab with leases := setAt t1.fab.leases k none }
          cal := mapCells t1.cal t.thisEpoch (fun x => x.pool == 0x10 && x.index == k) zeroCell
          cap := { t1.cap with remote := t1.cap.remote.filter (fun r => !(r.slot == k && r.epoch == epochOf t.beat)) } }
      else t
    | none => t) s

/-- Jobs whose frames wait on a link that goes down, or are not yet off it: those frames never leave it, and the jobs end
FAILED_ON_TIME (R52, R58). -/
def State.failQueued (s : State) (l : Nat) : State :=
  let cut := (s.fab.jobs.filter (fun j => s.tm.ns < j.leftNs && (match s.curdAt j.curd with | some c => c.exec == 469 + l && c.st == .running | none => false))).map
    RemoteJob.curd
  ((s.fl l).txQ.filterMap TxFrame.curd ++ cut).foldl (fun (t : State) a => t.endCurd a 0x12) s

/-- A link leaves UP for state `st` (R49, R334, Table 4.13): what it held and its credits are gone, and what depends on it leaves the
calendar. -/
def State.flDown (s : State) (l st : Nat) : State :=
  let s0 := (s.failQueued l).faultHolders (fun p i _ => p == 0xF && i == l)
  (((((s0.creditsReset l).setFld Fld.FL_STAT_STATE l st).flReset l).zeroTt l).topoDirty.fabCap).dropLessors

/-- A link is lost (R334): it trains again. -/
def State.flLose (s : State) (l : Nat) : State := ((s.flDown l 1).flTrain l).event 0x0021 1 0xFF l

/-- A link is QUARANTINED (R308, R309, Table 12.11): an UP link goes down with it. DEDUCED, log entry 54. -/
def State.quarantine (s : State) (l : Nat) : State :=
  if s.flUp l then s.flDown l 5 else s.setFld Fld.FL_STAT_STATE l 5

/-- FL_LINK_LOST (R334): a lane unaligned for 1 µs, nothing received for 10 µs. -/
def State.flLinkLost (s : State) (l : Nat) : State :=
  let lane := (flLanes l).any (fun i => match (s.lane i).lostNs with | some t => t + 1000 ≤ s.tm.ns | none => false)
  if 2 ≤ s.flState l ∧ s.flState l ≤ 4 ∧ (lane ∨ (s.fl l).lastRx + 10000 ≤ s.tm.ns) then s.flLose l else s

def execFlLinkLost (link : Fin 12) (s : State) : Host.Outcome State Fault Refusal := .next (s.flLinkLost link.val)

/-! ## Ordered sets (R304, R306, R307) -/

/-- The link carries sealed frames. DESIGN CHOICE, log entry 51. -/
def State.flSealed (s : State) (l : Nat) : Bool := s.flState l == 3 || s.flState l == 4

/-- ACK (R307): frames up to `lseq` are released, and their credits are in the peer's buffer. -/
def State.ack (s : State) (l lseq : Nat) : State :=
  if !s.flSealed l then s
  else
    let x := s.fl l
    let done := x.held.filter (fun h => h.lseq ≤ lseq)
    let s1 := done.foldl (fun (t : State) h =>
      let c := t.credit l h.vl
      t.setCredit l h.vl { c with inFlight := c.inFlight - h.cost, inBuffer := c.inBuffer + min h.cost c.inFlight }) s
    ((s1.setFl l { x with held := x.held.filter (fun h => lseq < h.lseq), sealedTx := x.sealedTx || done != [], lastRx := s.tm.ns }).flMaybeUp l)

def execAck (link : Fin 12) (lseq : Nat) (s : State) : Host.Outcome State Fault Refusal := .next (s.ack link.val lseq)

/-- CREDIT_RETURN (R306): at most the credits that are away return, those in the buffer first. -/
def State.creditReturn (s : State) (l vl n : Nat) : State :=
  if !s.flSealed l then s
  else
    let c := s.credit l vl
    let a := min n c.inBuffer
    let b := min (n - a) c.inFlight
    ((s.setCredit l vl ⟨c.atSender + a + b, c.inFlight - b, c.inBuffer - a⟩).setFl l { s.fl l with lastRx := s.tm.ns }).flDrain l

def execCreditReturn (link : Fin 12) (vl : Fin 4) (n : Nat) (s : State) : Host.Outcome State Fault Refusal :=
  .next (s.creditReturn link.val vl.val n)

/-- NAK (R307): the held frames from `lseq` on are sent again, one after the other; the link is lost when one of them is sent
again for the third time. DESIGN CHOICE, log entry 51. -/
def State.nak (s : State) (l lseq : Nat) : State :=
  let x := s.fl l
  if !s.flSealed l || !(x.held.any (fun h => h.lseq == lseq)) then s
  else
    let again := x.held.filter (fun h => lseq ≤ h.lseq)
    let held := x.held.map (fun h => if lseq ≤ h.lseq then { h with resent := h.resent + 1 } else h)
    let s1 := ((s.setFl l { x with held := held, lastRx := s.tm.ns }).bump .FL_CNT_RESEND l again.length).bump .FL_CNT_TX l again.length
    let s2 := again.foldl (fun (t : State) h =>
      let y := t.fl l
      let st := max t.tm.ns y.freeNs
      let u := t.setFl l { y with freeNs := st + frameNs (u16 h.bytes 16) }
      { u with wire := u.wire ++ [⟨16 + l, st, h.bytes, some (bits (u8 h.bytes 1) 3 3, h.lseq), x.txKey⟩] }) s1
    if held.any (fun h => h.resent == 3) then s2.flLose l else s2

def execNak (link : Fin 12) (lseq : Nat) (s : State) : Host.Outcome State Fault Refusal := .next (s.nak link.val lseq)

/-- ACK_SEND (R307): acknowledges what has been accepted; the credits of the buffers that are free return with it. DESIGN CHOICE, log entry 51. -/
def State.ackSend (s : State) (l : Nat) : State :=
  let x := s.fl l
  if !s.flSealed l || x.unacked == 0 then s
  else
    let s1 := s.ordSet (.ack l (x.rxSeq - 1))
    let s2 := (List.range 4).foldl (fun (t : State) vl =>
      let n := natAt x.rxHeld vl
      if n = 0 then t else t.ordSet (.credit l vl n)) s1
    s2.setFl l { x with unacked := 0, rxHeld := [0, 0, 0, 0], rxFree := (List.range 4).map (fun vl => natAt x.rxFree vl + natAt x.rxHeld vl) }

/-- What each grain sends on a link by itself: an ACK of 64 frames or for a frame that will be 1 µs old by the next grain (R307). -/
def State.ackDue (s : State) (l : Nat) : State :=
  let x := s.fl l
  if 64 ≤ x.unacked ∨ (x.unacked ≠ 0 ∧ x.unackNs + 877 ≤ s.tm.ns) then s.ackSend l else s

def execAckSend (link : Fin 12) (s : State) : Host.Outcome State Fault Refusal := .next (s.ackSend link.val)

/-! ## Receiving -/

/-- Key and salt under which the receiver opens a frame of a key phase: those in use, or of a re-key those that wait for the
peer's first frame under them (R310, R311). -/
def FlLink.openKey (x : FlLink) (h : FabHdr) : Option (List Byte) := if h.kphase = x.rxPhase then some x.rxKey else x.nextRx

/-- An ACK is out before a further frame is accepted once 64 frames wait for it (R307). -/
def State.ackFull (s : State) (l : Nat) : State := if 64 ≤ (s.fl l).unacked then s.ackSend l else s

/-- A frame of a sealed link passes the checks of R307 and Table 12.11 and is taken: its header, or none. Only a frame that is the next
and authentic is charged: a frame sent again takes no further credits. DESIGN CHOICE, log entry 51. -/
def State.linkRx (s00 : State) (l : Nat) (f : FabFrame) : Option FabHdr × State :=
  if !s00.flSealed l then (none, s00)
  else
    let s0 := s00.ackFull l
    let h := fabHdr f.bytes
    let x0 := s0.fl l
    let n := frameCost h.len
    let s := (s0.bump .FL_CNT_RX l).setFl l { x0 with lastRx := f.ns }
    if h.lseq != x0.rxSeq || x0.openKey h != some f.sealedBy then (none, (s.bump .FL_CNT_AUTH l).ordSet (.nak l x0.rxSeq))
    else if natAt x0.rxFree h.vl < n then (none, (s.bump .FL_CNT_CREDIT_OVR l).quarantine l)
    else
      let turn := h.kphase != x0.rxPhase
      let x := { x0 with
        lastRx := f.ns, rxSeq := x0.rxSeq + 1, unacked := x0.unacked + 1, unackNs := if x0.unacked = 0 then f.ns else x0.unackNs, sealedRx := true
        rxFree := setAt x0.rxFree h.vl (natAt x0.rxFree h.vl - n), rxHeld := setAt x0.rxHeld h.vl (natAt x0.rxHeld h.vl + n)
        rxPhase := h.kphase, rxKey := if turn then x0.nextRx.getD x0.rxKey else x0.rxKey, nextRx := if turn then none else x0.nextRx
        keyEpochs := if turn then 0 else x0.keyEpochs }
      let s1 := (s.setFl l x).flMaybeUp l
      let rate := s.fld Fld.FL_POLICE_VL1_RATE l
      if !hdrOk f.bytes then (none, s1.bump .FAB_CNT_BADHDR)
      else if s.flState l = 3 ∧ !localKind h.kind then (none, s1)
      else if h.vl = 1 ∧ rate ≠ 0 ∧ rate * 3125 < 2 * ((s1.fl l).vl1 + 48 + h.len) then (none, s1.bump .FL_CNT_POLICE l)
      else
        let s2 := s1.setFl l { s1.fl l with vl1 := (s1.fl l).vl1 + (if h.vl = 1 then 48 + h.len else 0) }
        (some h, s2)

/-- The generation of a routed frame is live: the active one, the other while both are honoured, and the loaded one while
its switch is due. -/
def State.genLive (s : State) (g : Nat) : Bool :=
  g == s.gen || s.fld Fld.FAB_GEN_OVERLAP == 1 || s.fld Fld.FAB_GEN_PENDING == 1

/-- A frame of an expired generation is dropped, its credits returned; a CMD frame is answered (R319). -/
def State.dropExpired (s : State) (l : Nat) (h : FabHdr) (f : FabFrame) : State :=
  let s1 := (s.bump .FAB_CNT_EXPIRED).rxReturn l h.vl (frameCost h.len)
  if h.kind = 2 then s1.fabMsg 3 h.src (mkPacket 0 (u16 f.bytes 36 % 32768 + 32768) (u32 f.bytes 40) (leBytes 4 0x32)) else s1

/-- The grain in which a frame that arrived at `ns` in the last 16 grains started. -/
def State.grainOf (s : State) (ns : Nat) : Nat :=
  s.tm.absGrain - (((List.range 16).find? (fun k => s.grainNs (s.tm.absGrain - k) ≤ ns)).getD 0)

/-- Forwards a routed frame (R316, R317, R320), re-sealed on its next link; its buffer stays full until it has left (R306). -/
def State.forward (s : State) (l : Nat) (h : FabHdr) (f : FabFrame) : State :=
  let nl := s.routeLink h.gen h.dst h.ridx h.dph
  if h.ttl = 0 then s.bump .FAB_CNT_TTL
  else if 12 ≤ nl then s.bump .FAB_CNT_NOROUTE
  else if !s.flUp nl then s.bump .FAB_CNT_DOWN
  else
    let w := s.grainOf f.ns + 2
    let sched := h.vl == 0 && s.gridRun && s.ttEntry nl h.gen (w % 1024) == (true, h.src)
    let t : TxFrame := { kind := h.kind, vl := if h.vl = 0 ∧ !sched then 1 else h.vl, gen := h.gen == 1
                         dph := h.dph || s.downHop h.gen nl, last := h.last, dst := h.dst, src := h.src, ttl := h.ttl - 1, ridx := h.ridx
                         stag := h.stag, off := h.off, status := h.status, payload := f.bytes.drop 32
                         win := if sched then some w else none, stamp := some h.stamp, buf := some (l, h.vl, frameCost h.len) }
    ((if h.vl = 0 ∧ !sched then s.bump .FAB_CNT_UNSCHED else s).keepBuffer l h.vl (frameCost h.len)).flQueue nl t

/-- A routed frame of kind `kind` that is for this module; one for another module is forwarded. -/
def State.routedRx (s : State) (l kind : Nat) (f : FabFrame) : Option FabHdr × State :=
  match s.linkRx l f with
  | (none, t) => (none, t)
  | (some h, t) =>
    if !routedKind h.kind then (none, t)
    else if !t.genLive h.gen then (none, t.dropExpired l h f)
    else if t.modNum ≠ some h.dst then (none, t.forward l h f)
    else if h.kind ≠ kind then (none, t)
    else (some h, t)

/-- A link-local frame of kind `kind`. -/
def State.localRx (s : State) (l kind : Nat) (f : FabFrame) : Option FabHdr × State :=
  match s.linkRx l f with
  | (none, t) => (none, t)
  | (some h, t) => if h.kind = kind then (some h, t) else (none, t)

/-- FRAME_FORWARD (R316 to R320): a routed frame in transit. -/
def execFrameForward (link : Fin 12) (f : FabFrame) (s : State) : Host.Outcome State Fault Refusal :=
  .next (match s.linkRx link.val f with
    | (none, t) => t
    | (some h, t) =>
      if !routedKind h.kind || t.modNum == some h.dst then t
      else if !t.genLive h.gen then t.dropExpired link.val h f
      else t.forward link.val h f)

/-! ## Enabling, sealing, re-keying -/

/-- FL_ENABLE (R308): starts training, unless the link runs; a link whose disable waits for its beat trains again then. A write to
FL_CTRL clears DIS_REFUSED. DEDUCED, log entry 54. -/
def State.flEnable (s0 : State) (l : Nat) : State :=
  let s := (s0.setFld Fld.FL_STAT_DIS_REFUSED l 0).setFld Fld.FL_CTRL_EN l 1
  if s.flState l = 0 then s.flTrain l
  else { s with fab := { s.fab with disAt := s.fab.disAt.map (fun x => if x.1 = l then (l, x.2.1, true) else x) } }

def execFlEnable (link : Fin 12) (src : Source) (s : State) : Host.Outcome State Fault Refusal := .next (s.busGate (RegId.offset .FL_CTRL link.val) src (s.flEnable link.val))

/-- FL_DISABLE (R337, Table 2.6): refused while an open column from E holds a FAB_TT reservation, else applied from beat E. DEDUCED, log entry 54. -/
def State.flDisable (s0 : State) (l : Nat) : State :=
  let s := s0.setFld Fld.FL_STAT_DIS_REFUSED l 0
  let mine := fun (x : PoolCell) => x.pool == 0xF && x.index == l
  if s.flState l = 0 then s.setFld Fld.FL_CTRL_EN l 0
  else if s.fab.disAt.any (fun x => x.1 == l) then
    { s.setFld Fld.FL_CTRL_EN l 0 with fab := { s.fab with disAt := s.fab.disAt.map (fun x => if x.1 = l then (l, x.2.1, false) else x) } }
  else if s.noReservation mine then
    let s1 := (s.setFld Fld.FL_CTRL_EN l 0).zeroFrom mine
    { s1 with fab := { s1.fab with disAt := s1.fab.disAt ++ [(l, s.absFirst, false)] } }.fabCap
  else s.setFld Fld.FL_STAT_DIS_REFUSED l 1

/-- Disables that take effect at this tick (Table 2.6). -/
def State.flTick (s : State) : State :=
  (s.fab.disAt.filter (fun x => x.2.1 ≤ s.absBeat)).foldl (fun (t : State) x =>
    let t1 := t.flDown x.1 0
    let t2 := { t1 with fab := { t1.fab with disAt := t1.fab.disAt.filter (fun y => y.1 != x.1) } }
    if x.2.2 then t2.flTrain x.1 else t2) s

def execFlDisable (link : Fin 12) (src : Source) (s : State) : Host.Outcome State Fault Refusal := .next (s.busGate (RegId.offset .FL_CTRL link.val) src (s.flDisable link.val))

/-- FL_CLR_STATS (R337). -/
def State.flClr (s : State) (l : Nat) : State :=
  (s.setFld Fld.FL_STAT_DIS_REFUSED l 0).clearRegs
    [.FL_CNT_TX, .FL_CNT_RX, .FL_CNT_RESEND, .FL_CNT_AUTH, .FL_CNT_CREDIT_OVR, .FL_CNT_HELLO_REJ, .FL_CNT_POLICE] l

def execFlClrStats (link : Fin 12) (src : Source) (s : State) : Host.Outcome State Fault Refusal := .next (s.busGate (RegId.offset .FL_CTRL link.val) src (s.flClr link.val))

/-- FAB_CLR_STATS (R337). -/
def State.fabClr (s : State) : State :=
  s.clearRegs [.FAB_CNT_EXPIRED, .FAB_CNT_TTL, .FAB_CNT_NOROUTE, .FAB_CNT_DOWN, .FAB_CNT_NOINPUT, .FAB_CNT_CLOSED, .FAB_CNT_BADHDR,
    .FAB_CNT_UNSCHED, .FAB_CNT_MOVE_DISC]

def execFabClrStats (src : Source) (s : State) : Host.Outcome State Fault Refusal := .next (s.busGate (RegId.offset .FAB_CTRL 0) src s.fabClr)

/-- A re-key starts: this side sends its REKEY frame (R311). DESIGN CHOICE, log entry 51. -/
def State.rekey (s : State) (l : Nat) : State :=
  if s.flUp l ∧ !(s.fl l).rekeying then
    let p := s.helloBytes l false
    ((s.used).setFl l { s.fl l with hello := p, rekeying := true }).sendLocal l 0x11 p
  else s

/-- FL_REKEY (R311, R337). -/
def execFlRekey (link : Fin 12) (src : Source) (s : State) : Host.Outcome State Fault Refusal :=
  .next (s.busGate (RegId.offset .FL_CTRL link.val) src ((s.setFld Fld.FL_STAT_DIS_REFUSED link.val 0).rekey link.val))

/-- eq_search (R343): the code of the largest smaller margin of the 16, (up, dn) for each; ties keep the lower code. -/
def eqSearch (m : List (Nat × Nat)) : Nat :=
  ((List.range 16).foldl (fun (b : Nat × Int) k =>
    let v : Int := ((min (m.getD k (0, 0)).1 (m.getD k (0, 0)).2 : Nat) : Int)
    if b.2 < v then (k, v) else b) ((0, -1) : Nat × Int)).1

/-- LINK_TRAINED (R308, R343, R344): every lane of the link is in ON, locked, equalised, aligned and deskewed; with AUTO 1 a lane's code
follows from the margins that its sampler measured. -/
def State.linkTrained (s : State) (l : Nat) (margins : List (List (Nat × Nat))) (lats : List Nat) : State :=
  if s.flState l ≠ 1 ∨ !(flLanes l).all s.laneUp ∨ bitAt (s.reg .POWER_PADS) 8 then s
  else
    let s1 := (List.range 8).foldl (fun (t : State) j =>
      let i := 32 + 8 * l + j
      let auto := t.fld Fld.LN_EQ_AUTO i = 1
      let t0 := if auto then t.abortTest i else t
      let t1 := t0.setFld Fld.LN_EQ_PEAK_USED i (if auto then eqSearch (margins.getD j []) else t.fld Fld.LN_EQ_PEAK i)
      ((((t1.setReg .LN_LAT i (natAt lats j % 2 ^ 20)).setFld Fld.LN_STAT_SIG_DET i 1).setFld Fld.LN_STAT_CDR_LOCK i 1).setFld
        Fld.LN_STAT_ALIGNED i 1).setLane i { t1.lane i with lostNs := none }) s
    s1.helloSend l

def execLinkTrained (link : Fin 12) (margins : List (List (Nat × Nat))) (lats : List Nat) (s : State) : Host.Outcome State Fault Refusal :=
  .next (s.linkTrained link.val margins lats)

/-- The layout of a HELLO or REKEY payload holds (Table 12.5): reserved bytes are zero and the lengths fit. -/
def helloForm (p : List Byte) : Bool :=
  allZero (slice p 19 13) && allZero (slice p 129 31) && bits (u16 p 16) 14 10 == 0 && u16 p 192 ≤ 768 && u16 p 194 ≤ 768
    && p.length == 196 + u16 p 192 + u16 p 194 + 96

/-- The signature of a payload, and what it signs: bytes 0 to 159 and the sender's NONCE. DEDUCED, log entry 54. -/
def helloSigned (cert p : List Byte) : Bool := Config.sigValid (Config.certKey cert) (p.take 192) (p.drop (p.length - 96))

/-- The first check of R309 that a HELLO payload fails, 0 for none. -/
def State.helloFail (s : State) (p : List Byte) : Nat :=
  let ic := slice p 196 (u16 p 192)
  if !Config.certChains Config.deviceRoot ic then 1
  else if s.kp.cred = [] ∨ !Config.certChains s.kp.cred (slice p (196 + u16 p 192) (u16 p 194)) then 2
  else if Config.certSerial ic ≠ u64 p 0 then 3
  else if !helloSigned ic p then 4 else 0

/-- The 88 bytes that two payloads give (R310): the nonce of the side of lower serial comes first in the salt. -/
def linkKeys (own peer : List Byte) : List Byte :=
  let n := fun (p : List Byte) => slice p 160 32
  Config.hkdf384 (Config.ecdhP384 (slice own 32 97) (slice peer 32 97))
    (if u64 own 0 < u64 peer 0 then n own ++ n peer else n peer ++ n own) [0x44, 0x52, 0x56, 0x31] 88

/-- Transmit key and salt of the side `a`, whose peer is `b` (R310). -/
def sealKey (k a b : List Byte) : List Byte := if u64 a 0 < u64 b 0 then slice k 0 32 ++ slice k 64 4 else slice k 32 32 ++ slice k 68 4

/-- The peer's number and link, as its HELLO or REKEY names them. -/
def State.notePeer (s : State) (l : Nat) (p : List Byte) : State :=
  let num := u16 p 16
  ((s.setFld Fld.FL_PEER_NUMBER l (if bitAt num 15 then num % 1024 else 0x3FF)).setFld Fld.FL_PEER_VALID l (b2n (bitAt num 15))).setFld
    Fld.FL_PEER_LINK l (u8 p 18 % 16)

/-- A HELLO or REKEY failed a check of R309: quarantine, a WARN event and FL_CNT_HELLO_REJ. -/
def State.helloReject (s : State) (l k : Nat) : State := ((s.quarantine l).bump .FL_CNT_HELLO_REJ l).event 0x0022 1 0xFF l k

/-- HELLO (R309, R310). -/
def State.hello (s : State) (l : Nat) (p : List Byte) : State :=
  if s.flState l ≠ 2 then s
  else
    let s1 := (s.bump .FL_CNT_RX l).setFl l { s.fl l with lastRx := s.tm.ns }
    if !helloForm p then s1.bump .FAB_CNT_BADHDR
    else if s.helloFail p ≠ 0 then s1.helloReject l (s.helloFail p)
    else
      let s2 := (((s1.notePeer l p).setReg2 .FL_PEER_SERIAL_LO .FL_PEER_SERIAL_HI l (u64 p 0)).creditsReset l).setFld Fld.FL_STAT_STATE l 3
      let own := (s.fl l).hello
      let k := linkKeys own p
      (s2.setFl l { hello := own, txKey := sealKey k own p, rxKey := sealKey k p own, peerCert := slice p 196 (u16 p 192)
                    lastRx := s.tm.ns, freeNs := (s.fl l).freeNs }).timeFrame l

def execHello (link : Fin 12) (payload : List Byte) (s : State) : Host.Outcome State Fault Refusal :=
  .next (s.hello link.val payload)

/-- The first check of R309 that a REKEY payload fails, under the certificates of the link's HELLO. -/
def State.rekeyFail (s : State) (l : Nat) (p : List Byte) : Nat :=
  if u64 p 0 ≠ s.reg2 .FL_PEER_SERIAL_LO .FL_PEER_SERIAL_HI l then 3 else if !helloSigned (s.fl l).peerCert p then 4 else 0

/-- REKEY_FRAME (R311): the peer's REKEY frame. New keys stand until the peer's first frame under them; this side's own frames
take the inverted phase once its REKEY frame has left. A peer whose number has changed is a restarted module (R314, R335). -/
def State.rekeyFrame (s : State) (l : Nat) (f : FabFrame) : State :=
  match s.localRx l 0x11 f with
  | (none, t) => t
  | (some _, t) =>
    let p := f.bytes.drop 32
    if !(helloForm p && u16 p 192 == 0 && u16 p 194 == 0) then t.bump .FAB_CNT_BADHDR
    else if t.rekeyFail l p ≠ 0 then t.helloReject l (t.rekeyFail l p)
    else if t.fld Fld.FL_PEER_VALID l = 1 ∧ u16 p 16 ≠ t.fld Fld.FL_PEER_NUMBER l + 2 ^ 15 then (t.flDown l 1).flTrain l
    else
      let t1 := (t.notePeer l p).rekey l
      let x := t1.fl l
      let waits := x.txQ.any (fun g => g.kind == 0x11)
      let k := linkKeys x.hello p
      let tx := sealKey k x.hello p
      t1.setFl l { x with
        nextRx := some (sealKey k p x.hello), rekeying := false, keyEpochs := 0, nextTx := if waits then some tx else none
        txPhase := if waits then x.txPhase else !x.txPhase, txKey := if waits then x.txKey else tx }

def execRekeyFrame (link : Fin 12) (f : FabFrame) (s : State) : Host.Outcome State Fault Refusal :=
  .next (s.rekeyFrame link.val f)

/-- A re-key starts when LSEQ has reached 2^48 (R311). -/
def State.seqRekey (s : State) (l : Nat) : State :=
  let x := s.fl l
  if s.flUp l ∧ 2 ^ 48 ≤ x.txSeq ∧ !x.seqKeyed ∧ !x.rekeying then (s.setFl l { x with seqKeyed := true }).rekey l else s

/-- Links that a re-key is due on at an epoch boundary (R311), and quarantined links that return to HELLO (R308). -/
def State.flEpoch (s : State) : State :=
  (List.range 12).foldl (fun (t : State) l =>
    if t.flState l = 5 then t.helloSend l
    else
      let t1 := t.setFl l (if t.flUp l then { t.fl l with keyEpochs := (t.fl l).keyEpochs + 1 } else t.fl l)
      if t1.flUp l ∧ 1024 ≤ (t1.fl l).keyEpochs then t1.rekey l else t1) s

end Sys2Proof.Machine
end

