-- ==== Sys2Proof/Machine/Rennet.lean ====
section
/-!
DEFINITION. The admission unit: the image check of R67 and the placement procedure of R45 to R47.
-/
namespace Sys2Proof.Machine

/-- What a decision reads of an order: the image, its parameters, dies, deadline, and the READY stamps of its ports. -/
structure DecIn where
  img : List Byte
  params : List Nat
  homeDie : Nat
  dieMask : Nat
  deadline : Nat
  ports : List (Nat × Nat)       -- (port, READY)
  deriving DecidableEq, Repr

/-- How placing an order ends. -/
inductive PlaceRes where
  | ok (cal : List Column) (places : List (Nat × Nat × Nat)) (promised : Nat)  -- (task, beat, die)
  | window
  | capacity (pool index : Nat)
  | lease (pool index : Nat)
  deriving DecidableEq, Repr

/-- A task's READY: the latest READY of the ports it consumes (Table 3.14). -/
def DecIn.ready (d : DecIn) (t : ImgTask) : Option Nat :=
  (d.ports.filter (fun p => bitAt t.inports p.1)).foldl (fun a p =>
    match a with | none => some p.2 | some x => some (laterStamp x p.2)) none

/-- READY of one port. -/
def DecIn.portReady (d : DecIn) (p : Nat) : Nat := ((d.ports.find? (fun x => x.1 == p)).map Prod.snd).getD 0

/-- Every pool in which the task has a non-zero cost satisfies reserved + cost ≤ admittable (R45). -/
def fits (cal : List Column) (b : Nat) (costs : List (Nat × Nat × Nat)) : Bool :=
  costs.all (fun c => decide (resAt cal b c.1 c.2.1 + c.2.2 ≤ admitAt cal b c.1 c.2.1))

/-- Reserves a task's costs. -/
def reserveAll (cal : List Column) (b : Nat) (costs : List (Nat × Nat × Nat)) : List Column :=
  costs.foldl (fun a c => reserveAt a b c.1 c.2.1 c.2.2) cal

/-- The dies a task tries, in order (R45, R46). -/
def DecIn.dieOrder (d : DecIn) (perDie : Bool) : List Nat :=
  if perDie then ((List.range 4).map (fun k => (d.homeDie + k) % 4)).filter (bitAt d.dieMask) else [d.homeDie]

/-- The latest beat from `hi` down, over `n` beats, and the first die at which a task fits. -/
def placeSearch (cal : List Column) (dies : List Nat) (costs : Nat → List (Nat × Nat × Nat)) : Nat → Nat → Option (Nat × Nat)
  | 0, _ => none
  | n + 1, hi =>
    match dies.find? (fun d => fits cal hi (costs d)) with
    | some d => some (hi, d)
    | none => placeSearch cal dies costs n (beatSub hi 1)

/-- The lowest pool that does not fit at beat `b` (R47), with its index: `d0` for a per-die pool, else the index that the cost entry
names. -/
def blocking (cal : List Column) (b d0 : Nat) (costs : List (Nat × Nat × Nat)) : Nat × Nat :=
  (fun a => if perDiePool a.1 then (a.1, d0) else a) <| (costs.filter (fun c => !decide (resAt cal b c.1 c.2.1 + c.2.2 ≤ admitAt cal b c.1 c.2.1))).foldl
    (fun a c => if c.1 < a.1 then (c.1, c.2.1) else a) (0x100, 0)

/-- Places tasks `n - 1` down to 0 below deadline beat `l` (R45). -/
def placeTasks (d : DecIn) (l firstOpen : Nat) :
    Nat → List Column → List (Nat × Nat × Nat) → PlaceRes
  | 0, cal, pl => .ok cal pl 0
  | n + 1, cal, pl =>
    let t := imgTaskAt d.img n
    let beatOf := fun j => ((pl.find? (fun x => x.1 == j)).map (fun x => x.2.1)).getD 0
    let hi := (imgSuccs d.img t).foldl (fun h s => earlierBeat h (beatSub (beatOf s.1) 1)) l
    let lo := match d.ready t with | none => firstOpen | some r => laterBeat firstOpen (beatAdd (stampBeat r) 1)
    let pin := if t.pinKind = 1 then some (beatSub l t.pinArg)
      else if t.pinKind = 2 then some (beatAdd (stampBeat (d.portReady t.pinArg)) 1) else none
    let badPin := match pin with | none => false | some x => beatBefore x lo || beatBefore hi x
    let lo' := pin.getD lo
    let hi' := pin.getD hi
    if badPin || beatBefore hi' lo' then .window
    else
      let per := classPerDie t.cls
      let costs := taskCosts d.img t.costOff d.params
      let dies := d.dieOrder per
      match placeSearch cal dies costs ((hi' + beatMod - lo') % beatMod + 1) hi' with
      | some (x, die) => placeTasks d l firstOpen n (reserveAll cal x (costs die)) ((n, x, die) :: pl)
      | none =>
        let b := blocking cal hi' (dies.headD d.homeDie) (costs (dies.headD d.homeDie))
        if b.1 = 0x10 ∧ admitAt cal hi' 0x10 b.2 = 0 then .lease b.1 b.2 else .capacity b.1 b.2

/-- place_all of R45, with the sentinel limits of R57. -/
def placeAll (d : DecIn) (cal : List Column) (armed l firstOpen : Nat) : PlaceRes :=
  match placeTasks d l firstOpen (imgNTask d.img) cal [] with
  | .ok cal' pl _ =>
    let sinks := pl.filter (fun x => (imgTaskAt d.img x.1).nSucc == 0)
    let p := match sinks with | [] => l | x :: r => r.foldl (fun a y => laterBeat a y.2.1) x.2.1
    if armed = 16384 ∨ resAt cal' p 0x11 0 = 1024 then .capacity 0x11 0 else .ok cal' pl p
  | r => r

/-- earliest_from of R45: 0x1_FFFF for none. -/
def earliestFrom (d : DecIn) (cal : List Column) (armed firstOpen : Nat) : Nat → Nat → Nat
  | 0, _ => 0x1FFFF
  | n + 1, p =>
    match placeAll d cal armed p firstOpen with
    | .ok _ _ _ => p
    | _ => earliestFrom d cal armed firstOpen n (beatAdd p 1)

/-- The answer of the rennet: a placement, or a rejection status with the blocking pool and the earliest beat. -/
inductive Decision where
  | accepted (cal : List Column) (places : List (Nat × Nat × Nat)) (promised : Nat)
  | rejected (status : Nat) (pool : Option (Nat × Nat)) (earliest : Nat)
  deriving DecidableEq, Repr

/-- Every cost entry of a task, those of its floor's table among them. DEDUCED, log entry 17. -/
def ImgTask.allCosts (t : ImgTask) (img : List Byte) (ok : CostEntry → Bool) : Bool :=
  (costEntries img t.costOff).all ok && (!t.hasFloor || (costEntries img t.floorOff).all ok)

/-- An Ivpol downlink image: the DL flag, and a key of Ivpol's own (R230, Table 20.1). It reads FIRST_AXC from ARG13, and R231 sets
the limit on its sum with PARAM ANT. DEDUCED, log entry 29. -/
def ivpolDl (img : List Byte) : Bool := bitAt (u8 img 7) 0 && ivpolImage img

/-- The image check of R67, given the core clock step of each die. -/
def certified (d : DecIn) (steps : Nat → Nat) : Bool :=
  let img := d.img
  (List.range 4).all (fun k => !bitAt d.dieMask k || decide (u8 img 6 ≤ steps k))
  && (List.range 16).all (fun i => decide (u16 img (48 + 4 * i) ≤ natAt d.params i ∧ natAt d.params i ≤ u16 img (50 + 4 * i)))
  && (List.range 16).all (fun p => !bitAt (u16 img 22) p || d.ports.any (fun x => x.1 == p))
  && (!ivpolDl img || decide (natAt d.params 13 + natAt d.params 7 ≤ 512))
  && (imgTasks img).all (fun t =>
    (t.pinKind != 2 || d.ports.any (fun x => x.1 == t.pinArg))
    && t.allCosts img (fun e => (e.src != 2 || decide (natAt d.params e.val < poolInstances e.pool))
      && (!quantisedPool e.pool || evalFn img (natAt e.fns 0) d.params == 0
        || decide (1 ≤ evalFn img (natAt e.fns 1) d.params ∧ evalFn img (natAt e.fns 1) d.params ≤ 999))))

/-- The clock step at which R67 judges die `k`: the lower of its current and its pending step (R492). -/
def State.judgedStep (s : State) (k : Nat) : Nat :=
  min (bits (s.reg .POWER_STEP) (2 * k + 1) (2 * k)) (bits (s.reg .POWER_STEP) (8 + 2 * k + 1) (8 + 2 * k))

/-- first_open for an order fetched at a grain stamp (R42). -/
def firstOpenAt (st : Nat) : Nat := beatAdd (stampBeat st) (if stampGrain st ≤ 1007 then 1 else 2)

/-- decide of R45, for an order fetched at stamp `fetch`. `img` is the order's image when its handle names a LOADED slot. -/
def State.decideOrder (s : State) (d : DecIn) (loaded : Bool) (fetch : Nat) : Decision :=
  let fo := firstOpenAt fetch
  if s.fld Fld.RENNET_CTRL_OPEN = 0 then .rejected 0x02 (some (0xFF, 0)) 0x1FFFF
  else if !loaded || !certified d s.judgedStep then .rejected 0x04 none 0x1FFFF
  else
    let l := if stampGrain d.deadline ≥ 1000 then stampBeat d.deadline else beatSub (stampBeat d.deadline) 1
    if beatBefore l fo || beatBefore (beatAdd fo 63) l then
      .rejected 0x03 none (earliestFrom d s.cal s.sentArmed fo 64 fo)
    else
      let early := earliestFrom d s.cal s.sentArmed fo ((beatAdd fo 63 + beatMod - l) % beatMod) (beatAdd l 1)
      match placeAll d s.cal s.sentArmed l fo with
      | .ok cal pl p => .accepted cal pl p
      | .window => .rejected 0x03 none early
      | .capacity p i => .rejected 0x02 (some (p, i)) early
      | .lease p i => .rejected 0x05 (some (p, i)) early

end Sys2Proof.Machine
end

