-- ==== Sys2Proof/Machine/Boot.lean ====
section
/-!
DEFINITION. What start-up and the blocks that take part in it share (R450, R451, R511, R512): the completed steps, a stop, and the
readiness of the serial slave port.
-/
namespace Sys2Proof.Machine

/-- The highest n up to `k` such that steps 1 to n have all completed. -/
def stepsDone (m : Nat) : Nat → Nat → Nat
  | 0, n => n
  | k + 1, n => if bitAt m (n + 1) then stepsDone m k (n + 1) else n

/-- A step of Table 21.1 completes: STEP moves to the highest n of R511. The microseconds since T0 are a free value. -/
def State.bootStep (s : State) (n : Nat) : State :=
  let d := if bitAt s.bt.done n then s.bt.done else s.bt.done + 2 ^ n
  let k := stepsDone d 13 0
  let t : State := { s with bt := { s.bt with done := d } }
  if k = s.fld Fld.GLOBAL_BOOT_STEP then t
  else (t.used.setFld Fld.GLOBAL_BOOT_STEP 0 k).setReg .GLOBAL_BOOT_TIME 0 (s.pick (2 ^ 32))

def State.bootDone (s : State) (n : Nat) : Bool := bitAt s.bt.done n

/-- A failed step ends the start in a stop (R512). DEDUCED, log entry 45. -/
def State.startStop (s : State) (step fail unit : Nat) : State :=
  let t := (s.setFld Fld.GLOBAL_BOOT_FAIL 0 fail).setFld Fld.GLOBAL_BOOT_UNIT 0 unit
  { t.event 0x0130 3 step fail with bt := { t.bt with stopped := true } }

/-- SSP_STATUS bits READY, OPEN, DONE and RETRY stand in LR_LOAD_STAT.FLAGS. -/
def State.sspFlag (s : State) (i : Nat) : Bool := bitAt (s.fld Fld.LR_LOAD_STAT_FLAGS) i
def State.setSspFlag (s : State) (i : Nat) (b : Bool) : State :=
  s.setFld Fld.LR_LOAD_STAT_FLAGS 0 (putBit (s.fld Fld.LR_LOAD_STAT_FLAGS) i b)

/-- READY (R450): the boot ROM's and the keeper's checks are complete, and the golden-copy slots are filled. -/
def State.readyUpdate (s : State) : State :=
  if s.bootDone 3 ∧ s.fld Fld.ECC_FILL_GOLDEN = 1 then s.setSspFlag 0 true else s

/-- The configuration-retry window closes (R451, R511): steps 5 to 7 have completed. -/
def State.closeWindow (s : State) : State :=
  let t : State := { s with lr := { s.lr with window := false, closed := true } }
  ((t.setSspFlag 3 false).bootStep 6).bootStep 7

end Sys2Proof.Machine
end

