-- ==== Sys2Proof/Machine/Rind.lean ====
section
/-!
DEFINITION. The ingress filter layer: the checks of Table 3.7 on a slot order, with the BODY checks of R182, R237 and
R255 and the input checks of R284 and R322. `e` is a 32-byte allocation entry; its bytes are numbered as in Table 3.5.
-/
namespace Sys2Proof.Machine

/-! ## The payload (Tables 3.2 to 3.5) -/

def ordNIn (p : List Byte) : Nat := u8 p 10
def ordNAlloc (p : List Byte) : Nat := u16 p 12
def ordParams (p : List Byte) : List Nat := (List.range 16).map (fun i => u16 p (32 + 2 * i))
/-- Input declaration `i`. -/
def ordInput (p : List Byte) (i : Nat) : List Byte := slice p (64 + 16 * i) 16
def ordInputs (p : List Byte) : List (List Byte) := (List.range (ordNIn p)).map (ordInput p)
/-- Allocation entry `i`. -/
def ordAlloc (p : List Byte) (i : Nat) : List Byte := slice p (64 + 16 * ordNIn p + 32 * i) 32
def ordAllocs (p : List Byte) : List (List Byte) := (List.range (ordNAlloc p)).map (ordAlloc p)

def inRef (x : List Byte) : Nat := u64 x 0
def inPort (x : List Byte) : Nat := u8 x 8
def inKind (x : List Byte) : Nat := u8 x 9
def inLen (x : List Byte) : Nat := u16 x 10
def inReady (x : List Byte) : Nat := u32 x 12

def alFlow (e : List Byte) : Nat := u32 e 0 % 2 ^ 23
def alKind (e : List Byte) : Nat := u8 e 3
def alTbs (e : List Byte) : Nat := u32 e 4

/-- The FLOW value that names no flow. -/
def noFlow : Nat := 0x7FFFFF

/-- The length R62 requires, in bytes. -/
def ordLenOk (p : List Byte) : Bool := 64 ≤ p.length && p.length == 64 + 16 * ordNIn p + 32 * ordNAlloc p

/-! ## Ranges of the BODY fields -/

/-- 2^a 3^b 5^c, at most 2^16. -/
def smooth (n : Nat) : Bool :=
  (List.range 17).any (fun a => (List.range 11).any (fun b => (List.range 8).any (fun c => 2 ^ a * 3 ^ b * 5 ^ c == n)))

/-- Bits [hi:lo] of a field are zero. -/
def zf (v hi lo : Nat) : Bool := bits v hi lo == 0
def inRange (lo hi v : Nat) : Bool := decide (lo ≤ v ∧ v ≤ hi)
/-- POWER of Table 9.2: signed, −32 to 48. -/
def powerOk (v : Nat) : Bool := decide (-32 ≤ sext 8 v ∧ sext 8 v ≤ 48)

/-- The first and the number of PRBs and symbols of Tables 7.2 and 9.2. -/
def shPrb (e : List Byte) : Nat := bits (u32 e 14) 8 0
def shNPrb (e : List Byte) : Nat := bits (u32 e 14) 17 9
def shSym (e : List Byte) : Nat := bits (u32 e 14) 21 18
def shNSym (e : List Byte) : Nat := bits (u32 e 14) 25 22
def shLayers (e : List Byte) : Nat := bits (u8 e 18) 2 0
def shPort (e : List Byte) : Nat := bits (u8 e 18) 6 3

/-- DMRS positions as Table 7.1 bounds them: 1 to 4. -/
def dmrsOk (syms : Nat) : Bool := inRange 1 4 (popCount syms 14)

/-- Table 7.2. DEDUCED, log entry 29. -/
def puschOk (e : List Byte) : Bool :=
  inRange 1 65519 (u16 e 8) && zf (u16 e 10) 15 10 && inRange 1 275 (shNPrb e) && shSym e ≤ 13 && inRange 1 14 (shNSym e)
  && zf (u32 e 14) 31 26 && inRange 1 4 (shLayers e) && shPort e ≤ 11
  && [1, 2, 4, 6, 8, 10].contains (u8 e 19 % 16) && zf (u8 e 19) 5 5 && zf (u8 e 19) 7 7 && zf (u16 e 20) 15 15
  && inRange 1 3 (u8 e 22 % 4) && zf (u8 e 22) 7 6 && bits (u8 e 23) 2 0 ≤ 3 && bits (u8 e 23) 5 3 ≤ 4 && bits (u8 e 23) 7 6 ≤ 2
  && bits (u8 e 24) 1 0 ≤ 2 && bits (u8 e 24) 3 2 ≤ 2 && zf (u8 e 24) 7 7 && bits (u8 e 25) 2 0 ≤ 4 && zf (u8 e 25) 7 4
  && u16 e 26 == 0

/-- The bits of CSI part 2 that a PUCCH body can select: O_CSI2[0] when RI_WIDTH is 0, else the most for an RI that its field can
hold. DEDUCED, log entry 29. -/
def csi2Bits (e : List Byte) : Nat := (List.range (min 4 (2 ^ (u8 e 23 % 4)))).foldl (fun a i => max a (u8 e (28 + i))) 0

/-- Table 7.5; the bit counts of its formats are those of the text that follows it. DEDUCED, log entry 29. -/
def pucchOk (e : List Byte) : Bool :=
  let f := u8 e 20 % 8; let np := bits (u32 e 16) 13 9; let ns := u8 e 21 % 16
  let oi := u8 e 22 % 8; let ol := bits (u8 e 22) 4 3
  let ack := bits (u16 e 24) 10 0; let sr := bits (u16 e 24) 13 11; let c1 := bits (u16 e 26) 10 0
  inRange 1 65519 (u16 e 8) && zf (u16 e 10) 15 10 && zf (u16 e 12) 15 10 && f ≤ 4
  && inRange 1 16 np && (!(f == 0 || f == 1 || f == 4) || np == 1)
  && bits (u8 e 20) 6 3 ≤ 13 && (if f = 0 ∨ f = 2 then inRange 1 2 ns else inRange 4 14 ns) && u8 e 21 / 16 ≤ 11
  && (f != 1 || oi ≤ 6) && (f != 4 || (oi ≤ 3 && (ol == 1 || ol == 2))) && zf (u8 e 22) 7 6 && zf (u8 e 23) 7 2
  && sr ≤ 4 && zf (u16 e 24) 15 14
  && (if f ≤ 1 then ack ≤ 2 && sr ≤ 1 && c1 == 0 && u32 e 28 == 0 else decide (3 ≤ ack + sr + c1 + csi2Bits e))

/-- Table 7.7. DEDUCED, log entry 29. -/
def srsOk (e : List Byte) : Bool :=
  let comb := bits (u8 e 10) 3 2; let np := u16 e 14; let ns := u8 e 16 / 16
  zf (u16 e 8) 15 10 && u8 e 10 % 4 ≤ 2 && comb ≤ 2 && bits (u8 e 10) 6 4 < 2 ^ (comb + 1) && zf (u8 e 10) 7 7
  && u8 e 11 % 16 < natAt [8, 12, 6] comb && zf (u8 e 11) 7 4 && zf (u16 e 12) 15 9 && inRange 4 272 np && np % 4 == 0
  && u8 e 16 % 16 ≤ 13 && [1, 2, 4, 8, 12].contains ns && u8 e 16 % 16 + ns ≤ 14 && zf (u8 e 17) 7 2 && allZero (slice e 18 14)

/-- Table 7.9, LTE_PUSCH. DEDUCED, log entry 29. -/
def ltePuschOk (e : List Byte) : Bool :=
  inRange 1 65523 (u16 e 8) && u16 e 10 ≤ 503 && zf (u8 e 12) 7 7 && inRange 1 100 (u8 e 13) && smooth (u8 e 13)
  && [2, 4, 6, 8].contains (u8 e 14 % 16) && zf (u8 e 15) 7 5 && u8 e 16 % 32 ≤ 29 && u8 e 17 % 8 ≤ 4
  && inRange 1 2 (bits (u8 e 17) 5 4) && zf (u8 e 17) 7 6 && zf (u8 e 18) 7 7 && zf (u8 e 19) 7 7 && allZero (slice e 20 12)

/-- Table 7.9, LTE_PUCCH. -/
def ltePucchOk (e : List Byte) : Bool :=
  inRange 1 65523 (u16 e 8) && u16 e 10 ≤ 503 && zf (u8 e 12) 7 3 && u8 e 13 == 0 && zf (u16 e 14) 15 11
  && inRange 1 3 (u8 e 16 % 4) && zf (u8 e 16) 7 5 && zf (u8 e 19) 7 1 && zf (u8 e 21) 7 4 && zf (u8 e 22) 7 1 && u8 e 23 == 0
  && zf (u8 e 24) 7 7 && zf (u8 e 25) 7 7 && allZero (slice e 26 6)

/-- WSRC of Tables 9.2 and 9.3. -/
def wsrc (e : List Byte) (o : Nat) : Nat := bits (u32 e o) 24 23

/-- Table 9.2. -/
def pdschOk (e : List Byte) : Bool :=
  inRange 1 65519 (u16 e 8) && zf (u16 e 10) 15 10 && inRange 1 275 (shNPrb e) && shSym e ≤ 13 && inRange 1 14 (shNSym e)
  && zf (u32 e 14) 31 26 && inRange 1 4 (shLayers e) && shPort e ≤ 11 && [2, 4, 6, 8, 10].contains (u8 e 19 % 16)
  && inRange 1 3 (u8 e 22 % 4) && bits (u8 e 22) 3 2 ≤ 2 && bits (u8 e 22) 5 4 ≤ 2 && powerOk (u8 e 23) && wsrc e 24 ≤ 1
  && zf (u32 e 24) 31 26 && zf (u16 e 28) 15 12 && u8 e 31 == 0

/-- Table 9.3, NR_PDCCH. -/
def pdcchOk (e : List Byte) : Bool :=
  let w := u32 e 14
  inRange 6 270 (bits w 17 9) && bits w 17 9 % 6 == 0 && bits w 21 18 ≤ 13 && inRange 1 3 (bits w 23 22) && bits w 26 25 ≤ 2
  && bits w 28 27 ≤ 2 && bits w 31 29 ≤ 4 && u16 e 18 ≤ 274 && powerOk (u8 e 21) && wsrc e 22 ≤ 1 && zf (u32 e 22) 31 25
  && zf (u16 e 26) 15 12 && zf (u8 e 29) 7 1 && u16 e 30 == 0

/-- Table 9.3, NR_SSB. -/
def ssbOk (e : List Byte) : Bool :=
  let lm := u8 e 9 % 4
  lm ≤ 2 && u8 e 8 < natAt [4, 8, 64] lm && zf (u8 e 9) 7 4 && zf (u16 e 10) 15 12 && u8 e 12 ≤ 10 && powerOk (u8 e 13)
  && zf (u16 e 14) 15 12 && allZero (slice e 16 16)

/-- Table 9.3, NR_CSIRS. -/
def csirsOk (e : List Byte) : Bool :=
  zf (u16 e 8) 15 10 && inRange 1 18 (u8 e 10 % 32) && u8 e 11 % 16 ≤ 13 && u8 e 11 / 16 ≤ 13 && zf (u16 e 12) 15 12
  && zf (u16 e 14) 15 9 && zf (u16 e 16) 15 9 && powerOk (u8 e 18) && zf (u16 e 19) 15 12 && allZero (slice e 21 11)

/-- Table 9.4, LTE_PDSCH. -/
def ltePdschOk (e : List Byte) : Bool :=
  inRange 1 65523 (u16 e 8) && u16 e 10 == 0 && zf (u8 e 24) 7 4 && [2, 4, 6, 8].contains (u8 e 25 % 16) && zf (u8 e 25) 7 7
  && inRange 1 2 (u8 e 26 % 4) && [1, 4, 7, 8, 9].contains (bits (u8 e 26) 5 2) && zf (u8 e 26) 7 6 && inRange 1 4 (u8 e 27)
  && powerOk (u8 e 28) && zf (u16 e 29) 15 12 && u8 e 31 == 0

/-- Table 9.4, LTE_CTRL. -/
def lteCtrlOk (e : List Byte) : Bool :=
  u32 e 8 == 0 && u8 e 12 % 4 ≤ 2 && inRange 1 3 (bits (u8 e 12) 3 2) && zf (u8 e 12) 7 6 && zf (u8 e 13) 7 4 && powerOk (u8 e 14)
  && zf (u16 e 15) 15 12 && allZero (slice e 17 15)

/-- Number of logical roots of a PRACH sequence length. -/
def prachRoots (lra : Nat) : Nat := if lra = 839 then 838 else if lra = 139 then 138 else if lra = 571 then 570 else 1150

/-- The hub-cycle bound T of R261 on `nAxc` streams. -/
def prachBound (p : Prach) (nAxc : Nat) : Nat :=
  1024 + nAxc * p.rep * ceilDiv p.lra 8 + p.nRoot * (nAxc * p.idft / 8 + 64)

/-- Tables 10.1 and 10.2, R252 and R255. `ins` are the order's declarations. -/
def prachOk (ins : List (List Byte)) (e : List Byte) : Bool :=
  let f := u8 e 12 % 32; let l := bits (u8 e 12) 6 5; let mu := u8 e 13 % 4
  let short := inRange 4 0xC f
  let p := prachOf e
  alFlow e == noFlow && alTbs e == 0 && (f ≤ 0xC || inRange 0x10 0x14 f) && zf (u8 e 12) 7 7 && zf (u8 e 13) 7 2
  && (if short then l ≤ 2 && (l != 1 || mu == 1) && (l != 2 || mu == 0) else l == 0 && mu == 0)
  && zf (u16 e 8) 15 10 && u16 e 8 < prachRoots p.lra && zf (u16 e 10) 15 10 && (p.ncs == 0 || inRange 2 (p.lra / 2) p.ncs)
  && inRange 1 64 (u8 e 14) && u8 e 17 < 16 && allZero (slice e 18 14)
  && (match ins.find? (fun x => inPort x == u8 e 17) with
      | some x => inKind x == 0 && bits (inRef x) 43 40 == p.rep && bits (inRef x) 25 16 ≤ 64
          && prachBound p (bits (inRef x) 25 16) ≤ 194531
      | none => false)

/-- The fields of an entry lie in the ranges of its kind's table (R182 item 1, R237 item 1, R255). DEDUCED, log entry 29. -/
def bodyOk (ins : List (List Byte)) (e : List Byte) : Bool :=
  match alKind e with
  | 0x01 => puschOk e | 0x02 => pucchOk e | 0x03 => srsOk e | 0x04 => prachOk ins e | 0x05 => ltePuschOk e
  | 0x06 => ltePucchOk e | 0x10 => pdschOk e | 0x11 => pdcchOk e | 0x12 => ssbOk e | 0x13 => csirsOk e | 0x14 => ltePdschOk e
  | 0x15 => lteCtrlOk e
  | _ => false

/-! ## Combinations (R182, R237) -/

/-- What one user-data allocation adds to the sums of R182: layers, PRBs, code blocks, QM, and the layer limit it sets. -/
structure UeLoad where
  layers : Nat
  prbs : List Nat
  cb : Nat
  qm : Nat
  limit : Nat
  deriving DecidableEq, Repr

def span (a n : Nat) : List Nat := (List.range n).map (a + ·)

def ueLoad (ant : Nat) (e : List Byte) : Option UeLoad :=
  let nr := fun (bg lim : Nat) =>
    some ⟨shLayers e, span (shPrb e) (shNPrb e), (ldpcSeg (alTbs e) bg).c, u8 e 19 % 16, lim⟩
  match alKind e with
  | 0x01 => nr (1 + bits (u8 e 22) 2 2) (natAt [16, min ant 16, 12] (bits (u8 e 23) 7 6))
  | 0x05 => some ⟨bits (u8 e 17) 5 4, span (u8 e 12) (u8 e 13) ++ span (u8 e 18) (u8 e 19), (turboSeg (alTbs e)).1, u8 e 14 % 16, 16⟩
  | 0x10 => nr (1 + u8 e 19 / 128) 16
  | 0x14 => some ⟨u8 e 26 % 4, maskList (leNat (slice e 12 13)) 100, (turboSeg (alTbs e)).1, u8 e 25 % 16, 16⟩
  | _ => none

/-- The last port of a DMRS configuration (R182 item 4). -/
def lastPort (type2 double : Bool) : Nat := if type2 then (if double then 11 else 5) else (if double then 7 else 3)

/-- Limits of Tables 7.1 and 9.1 on the parameters of an order that carries a kind (R179, R232): PRBs, streams, and the passes of
closed-loop reception. DEDUCED, log entry 29. -/
def limitsOk (par : List Nat) (kind : Nat) : Bool :=
  let prb := natAt par 0
  let ant := natAt par 7
  (match kind with
    | 0x01 | 0x02 | 0x03 | 0x10 | 0x11 | 0x12 | 0x13 => decide (prb ≤ 275)
    | 0x05 | 0x06 | 0x14 | 0x15 => decide (prb ≤ 100)
    | _ => true)
  && (kind == 0x04 || inRange 1 64 ant) && (kind != 0x01 || inRange 1 3 (natAt par 5))

/-- Items 2 to 6 of R182 and items 2 and 3 of R237 that concern one entry, with the combinations of Tables 7.1 and 9.1. -/
def comboOk (par : List Nat) (e : List Byte) : Bool :=
  let prb := natAt par 0
  let ant := natAt par 7
  limitsOk par (alKind e) && match alKind e with
  | 0x01 =>
    shPrb e + shNPrb e ≤ prb && shSym e + shNSym e ≤ 14
    && shPort e + shLayers e ≤ lastPort (bitAt (u16 e 20) 14) (bitAt (u8 e 24) 6) + 1
    && !(bitAt (u8 e 19) 4 && (shLayers e > 1 || u8 e 24 % 4 != 0 || bitAt (u8 e 19) 6 || !smooth (shNPrb e)))
    && dmrsOk (u16 e 20)
    && !(bits (u8 e 23) 7 6 == 1 && ant > 16) && !(bits (u8 e 23) 7 6 == 2 && ant ≤ 16)
  | 0x02 => bits (u32 e 16) 8 0 + bits (u32 e 16) 13 9 ≤ prb && bits (u8 e 20) 6 3 + u8 e 21 % 16 ≤ 14
  | 0x03 => u16 e 12 + u16 e 14 ≤ prb
  | 0x05 => u8 e 12 + u8 e 13 ≤ prb && (u8 e 19 == 0 || u8 e 18 + u8 e 19 ≤ prb)
  | 0x06 => u8 e 12 != 7 || u8 e 24 + u8 e 25 ≤ prb
  | 0x10 =>
    shPrb e + shNPrb e ≤ prb && shSym e + shNSym e ≤ 14
    && shPort e + shLayers e ≤ lastPort (bitAt (u16 e 20) 14) (bitAt (u16 e 20) 15) + 1 && dmrsOk (u16 e 20)
  | 0x14 => (maskList (leNat (slice e 12 13)) 100).all (· < prb)
  | _ => true

/-- Items 3 and 7 to 10 of R182 over the user-data allocations of one direction. DEDUCED, log entry 29. -/
def loadsOk (par : List Nat) (us : List UeLoad) : Bool :=
  us.all (fun u => u.qm ≤ natAt par 3)
  && decide ((us.map UeLoad.layers).foldl (· + ·) 0 ≤ natAt par 1)
  && decide ((us.map UeLoad.cb).foldl (· + ·) 0 ≤ natAt par 4)
  && decide (us.length ≤ natAt par 6)
  && (List.range 800).all (fun b =>
    let cov := us.filter (fun u => u.prbs.contains b)
    let tot := (cov.map UeLoad.layers).foldl (· + ·) 0
    cov.all (fun u => decide (tot ≤ u.limit)))

/-- CSI-RS ports of a row (TS 38.211 Table 7.4.1.5.3-1). PRESUMED, log entry 20. -/
def csirsPorts (row : Nat) : Nat := natAt [0, 1, 1, 2, 4, 4, 8, 8, 8, 12, 12, 16, 16, 24, 24, 24, 32, 32, 32] row

/-- A flow that a cell move has taken away counts as not ACTIVE (R330). -/
def State.movedAway (s : State) (f : Nat) : Bool := s.fab.moveOut.any (fun m => m.live && m.first ≤ f && f < m.first + m.n)

/-- The flow is ACTIVE and owned by the function (R105). -/
def State.flowOk (s : State) (func f : Nat) : Bool :=
  decide (f < 0x500000) && (s.flow f).state == 1 && (s.flow f).owner == func && !s.movedAway f

/-- Items 4, 6 and 7 of R237. -/
def State.dlOk (s : State) (func : Nat) (e : List Byte) : Bool :=
  match alKind e with
  | 0x10 => wsrc e 24 != 0 || s.flowOk func (u32 e 24 % 2 ^ 23)
  | 0x11 => (wsrc e 22 != 0 || s.flowOk func (u32 e 22 % 2 ^ 23))
      && decide (u8 e 20 + 2 ^ bits (u32 e 14) 31 29 ≤ bits (u32 e 14) 17 9 * bits (u32 e 14) 23 22 / 6)
  | 0x13 => decide (u16 e 19 + csirsPorts (u8 e 10 % 32) ≤ 4096)
  | _ => true

/-- Bytes of the packed payloads of the downlink allocations (R234, R235), each padded to 64. DEDUCED, log entry 29. -/
def packedSize (es : List (List Byte)) : Nat :=
  (es.filter (fun e => 0x10 ≤ alKind e && !(alKind e == 0x10 && bitAt (u32 e 24) 25 && !bitAt (u8 e 19) 6))).foldl
    (fun a e => a + ceilDiv (ceilDiv (alTbs e) 8) 64 * 64) 0

/-- Item 5 of R237. -/
def payloadOk (ins es : List (List Byte)) : Bool :=
  packedSize es == 0 || ins.any (fun x => inPort x == 0 && inKind x == 1 && decide (packedSize es ≤ inLen x * 64))

/-- The BODY checks of check 4. DEDUCED, log entry 29. -/
def State.bodiesOk (s : State) (func : Nat) (par : List Nat) (ins es : List (List Byte)) : Bool :=
  let ul := es.filter (fun e => alKind e < 0x10)
  let dl := es.filter (fun e => 0x10 ≤ alKind e)
  es.all (bodyOk ins) && es.all (comboOk par) && loadsOk par (ul.filterMap (ueLoad (natAt par 7)))
  && loadsOk par (dl.filterMap (ueLoad (natAt par 7))) && dl.all (s.dlOk func) && payloadOk ins es

/-! ## Inputs -/

/-- Reserved bits of an input declaration are zero (check 3). -/
def inZeros (x : List Byte) : Bool :=
  let r := inRef x
  match inKind x with
  | 0 => zf r 15 10 && zf r 31 26 && zf r 39 36 && zf r 63 44 && inLen x == 0
  | 1 => true
  | 2 => zf r 63 40
  | 3 => zf r 15 10 && zf r 63 48 && inLen x == 0
  | _ => true

/-- KIND, PORT, REF, LEN and READY of an input in range. -/
def inOk (x : List Byte) : Bool :=
  let r := inRef x
  stampOk (inReady x) && inPort x ≤ 15 &&
  (match inKind x with
   | 0 => inRange 1 512 (bits r 25 16) && bits r 9 0 + bits r 25 16 ≤ 512 && bits r 35 32 ≤ 13 && inRange 1 14 (bits r 43 40)
   | 1 => r % 64 == 0 && inRange 1 65535 (inLen x)
   | 2 => r % 64 == 0 && inRange 1 65535 (inLen x)
   | 3 => bits r 31 16 ≤ 0xFEFF && inRange 1 65535 (bits r 47 32)
   | _ => false)

/-- The streams of an FH_UPLANE input are mapped, of one numerology, and all PRACH or all data (R284). -/
def State.streamsOk (s : State) (x : List Byte) : Bool :=
  let es := (List.range (bits (inRef x) 25 16)).map (fun i => s.axcEntry (bits (inRef x) 9 0 + i))
  match es.head?.join with
  | none => false
  | some e0 => es.all (fun o => match o with
      | none => false
      | some e => s.fld Fld.FH_C_CFG_MU (s.entryCar e) == s.fld Fld.FH_C_CFG_MU (s.entryCar e0)
          && s.fld Fld.FH_AXC_PRACH e == s.fld Fld.FH_AXC_PRACH e0)

/-- The slot that a declared FH_UPLANE input is bound to (R288). -/
def State.declBound (s : State) (x : List Byte) : Option Nat :=
  let r := inRef x
  s.bindSlot (s.fld Fld.FH_C_CFG_MU (s.axcCar (bits r 9 0))) (bits r 35 32 + bits r 43 40 - 1) (inReady x)

/-- Two intervals of numbers meet. -/
def meets (a n b m : Nat) : Bool := a < b + m && b < a + n

/-- The input shares an AxC, symbol and bound slot with an input of an order in flight (R284). -/
def State.sharesAir (s : State) (x : List Byte) : Bool :=
  let r := inRef x
  s.orders.any (fun o => o.inputs.any (fun i => i.kind == 0 && i.bound.isSome && i.bound == s.declBound x
    && meets (bits r 9 0) (bits r 25 16) (fhFirst i) (fhN i) && meets (bits r 35 32) (bits r 43 40) (fhSym i) (fhNSym i)))

/-- (SRC, STAG) of a FABRIC input. -/
def fabKey (ref : Nat) : Nat × Nat := (bits ref 9 0, bits ref 31 16)
def State.fabBound (s : State) (k : Nat × Nat) : Bool := s.orders.any (fun o => o.inputs.any (fun i => i.kind == 3 && fabKey i.ref == k))

/-- All inputs of an order (check 4). -/
def State.inputsOk (s : State) (ins : List (List Byte)) : Bool :=
  ins.all inOk && decide ((ins.map inPort).Nodup)
  && ins.all (fun x => inKind x != 0 || (s.streamsOk x && !s.sharesAir x))
  && ins.all (fun x => inKind x != 3 || !s.fabBound (fabKey (inRef x)))
  && decide (((ins.filter (fun x => inKind x == 3)).map (fun x => fabKey (inRef x))).Nodup)

/-! ## The checks of Table 3.7 -/

/-- Check 3: the reserved fields of the fixed part, the declarations and the entries. -/
def zerosOk (p : List Byte) : Bool :=
  zf (u8 p 2) 3 0 && zf (u8 p 2) 7 6 && u8 p 11 == 0 && (ordInputs p).all inZeros && (ordAllocs p).all (fun e => zf (u32 e 0) 23 23)

/-- A queue that an enabled ring pair binds as REPLY_Q. -/
def State.isReplyQ (s : State) (q : Nat) : Bool :=
  (List.range 256).any (fun p => s.fld Fld.CMD_PAIR_CFG_EN p == 1 && s.fld Fld.CMD_PAIR_CFG_REPLY_Q p == q)

/-- The fixed part in range (check 4). -/
def State.fixedOk (s : State) (func : Nat) (p : List Byte) : Bool :=
  let q := u16 p 8
  stampOk (u32 p 4) && u8 p 3 % 16 != 0 && ordNIn p ≤ 16 && ordNAlloc p ≤ 1024 && (u16 p 14 ≤ 2047 || u16 p 14 == 0xFFFF)
  && u64 p 16 % 64 == 0 && u32 p 24 % 64 == 0 && 16 * ordNAlloc p ≤ u32 p 24
  && decide (q < 4096) && s.qType q == 3 && s.qOwner q == func && (s.qState q == 1 || s.qState q == 2) && !s.isReplyQ q

/-- FLOW and KIND of an entry in range, and R65. -/
def State.allocOk (s : State) (func : Nat) (e : List Byte) : Bool :=
  kindOk (alKind e) && (alFlow e == noFlow || s.flowOk func (alFlow e))
  && !([0x01, 0x05, 0x10, 0x14].contains (alKind e) && alFlow e == noFlow)

/-- Checks 2 to 5 of Table 3.7, in order; none when the order passes. -/
def State.rind (s : State) (func : Nat) (p : List Byte) : Option Nat :=
  if !ordLenOk p then some 0x22
  else if !zerosOk p then some 0x21
  else if !(s.fixedOk func p && s.inputsOk (ordInputs p) && (ordAllocs p).all (s.allocOk func)
      && s.bodiesOk func (ordParams p) (ordInputs p) (ordAllocs p)) then some 0x21
  else if s.qState (u16 p 8) != 1 || s.qFree (u16 p 8) == 0 then some 0x25
  else none

end Sys2Proof.Machine
end

