-- ==== Sys2Proof/Machine/Results.lean ====
section
/-!
DEFINITION. What an order delivers for each allocation (R72, Table 3.9): transport blocks (R195, R215), PUCCH data (R198), weight
tables (R200), PRACH occasions (R260) and transmit reports (R250).
-/
namespace Sys2Proof.Machine

/-- An allocation's part of the result: the fields of its record that its kind decides, and its data. -/
structure AllocData where
  crcOk : Bool := false
  valid : Bool := false
  iter : Nat := 0
  passes : Nat := 0
  data : List Byte := []
  deriving DecidableEq, Repr, Inhabited

/-! ## Uplink -/

/-- MEAS of a PUSCH allocation, and its layers. -/
def puschMeas (e : List Byte) : Bool := bitAt (u8 e (if u8 e 3 = 1 then 25 else 17)) 3
def puschLayers (e : List Byte) : Nat := if u8 e 3 = 1 then shLayers e else bits (u8 e 17) 5 4

/-- The measurement block of R195, whose first eight bytes and layer SINRs the image's kernels left at `a`. -/
def State.measBlock (s : State) (e : List Byte) (a : Nat) : List Byte :=
  let b := s.caveRead a 16
  b.take 8 ++ (slice b 8 (2 * puschLayers e) ++ zeros 8).take 8 ++ zeros 16

/-- PUSCH data (R195): the decoded block as it stands, whether or not its CRC passed. -/
def State.puschData (s : State) (o : Order) (a : AllocSt) (made : Bool) (x : AllocOut) : AllocData :=
  let e := a.entry
  { crcOk := a.crcOk, valid := made && a.out.isSome, iter := a.iter
    passes := if a.kind = 1 then min x.passes (min (natAt o.params 5) 3) else 0
    data := match a.out with
      | none => []
      | some t => (if puschMeas e then s.measBlock e x.addr else []) ++ s.caveRead t (ceilDiv a.tbs 8) }

/-- PUCCH data (R198): header and payload where the image's kernels left them. -/
def State.pucchData (s : State) (x : AllocOut) : AllocData :=
  let h := s.caveRead x.addr 8
  let n := if u8 h 0 = 0 then 0 else u16 h 2
  { crcOk := u8 h 0 == 1, valid := true
    data := slice h 0 2 ++ leBytes 2 n ++ slice h 4 4 ++ zeros 8 ++ s.caveRead (x.addr + 16) (ceilDiv n 8) }

/-- A weight table (R200): its stamp, measurements and weights where the image's kernels left the table. -/
def State.srsData (s : State) (o : Order) (e : List Byte) (x : AllocOut) : AllocData :=
  let h := s.caveRead x.addr 64
  { valid := true
    data := leBytes 2 (srsGroups e) ++ leBytes 1 (srsPorts e) ++ leBytes 1 (natAt o.params 7) ++ leBytes 1 (srsPrg e) ++ zeros 1
      ++ leBytes 2 (u16 e 12 % 512) ++ slice h 8 6 ++ zeros 2 ++ (slice h 16 (2 * srsPorts e) ++ zeros 8).take 8 ++ zeros 40
      ++ s.caveRead (x.addr + 64) (srsBytes o e - 64) }

/-- The PRACH job of the order that processes occasion `i` and ended DONE (R257). -/
def State.prachDone (s : State) (o : Order) (i : Nat) : Option Curd :=
  s.curds.find? (fun c => c.handle == o.handle && c.cls == 6 && c.index == i && c.st == .ended && c.endStatus == 0x10)

/-- A PRACH occasion's data (R260): 16 + 16 × N_DET bytes at the job's OUT_ADDR. -/
def State.prachOut (s : State) (o : Order) (k : Nat) : AllocData :=
  match s.prachDone o ((o.allocs.take k).filter (fun a => a.kind == 4)).length with
  | none => {}
  | some c =>
    let a := u64 c.arg 48
    { valid := true, data := s.caveRead a (16 + 16 * u8 (s.caveRead a 1) 0) }

/-! ## Downlink (R250) -/

/-- Symbols of a CSI-RS row from its first symbols (TS 38.211, Table 7.4.1.5.3-1). PRESUMED, log entry 20. -/
def csiSymbols (row l0 l1 : Nat) : List Nat :=
  if [1, 2, 3, 4, 6, 9].contains row then [l0]
  else if [5, 7, 8, 10, 11, 12].contains row then [l0, l0 + 1]
  else if [13, 14, 16, 17].contains row then [l0, l0 + 1, l1, l1 + 1]
  else [l0, l0 + 1, l0 + 2, l0 + 3]

/-- Symbols that an allocation of a downlink kind occupies. PRESUMED, log entry 20. -/
def dlSymbols (e : List Byte) : List Nat :=
  let run := fun a n => (List.range n).map (fun i => a + i)
  match u8 e 3 with
  | 0x10 => run (shSym e) (shNSym e)
  | 0x11 => run (bits (u32 e 14) 21 18) (bits (u32 e 14) 23 22)
  | 0x12 => run (u8 e 12 % 16) 4
  | 0x13 => csiSymbols (u8 e 10 % 32) (u8 e 11 % 16) (u8 e 11 / 16)
  | 0x14 => run (u8 e 27 % 8) (14 - u8 e 27 % 8)
  | _ => run 0 14

/-- The allocation takes its weights from a flow's table (WSRC 0). -/
def usesFlowWeights (e : List Byte) : Bool :=
  (u8 e 3 == 0x10 && bits (u32 e 24) 24 23 == 0) || (u8 e 3 == 0x11 && bits (u32 e 22) 24 23 == 0)

/-- TB_SRC of Table 9.6: a block of the cache, a payload of the host, or none. -/
def tbSource (a : AllocSt) : Nat :=
  let w := u32 a.entry 24
  if a.kind = 0x10 ∧ bitAt w 25 ∧ !bitAt (u8 a.entry 19) 6 then (if a.cached then 1 else 2)
  else if a.tbs = 0 then 2 else 0

/-- The transmit report (Table 9.6): which weights an SRS-weighted allocation got its precoding kernel left at `x.addr`, reason in
byte 0 and stamp in bytes 4 to 7. -/
def State.txReport (s : State) (o : Order) (a : AllocSt) (x : AllocOut) : AllocData :=
  let e := a.entry
  let sent := sentMask o.txSent o.txLost
  let b := s.caveRead x.addr 8
  let r := if usesFlowWeights e then min (u8 b 0) 4 else 0
  { valid := (dlSymbols e).all (bitAt sent)
    data := leBytes 1 r ++ leBytes 1 (tbSource a) ++ leBytes 2 sent
      ++ leBytes 4 (if usesFlowWeights e && r == 0 then u32 b 4 else 0) ++ zeros 8 }

/-! ## All kinds -/

/-- What allocation `k` delivers, when its record has status `st` (R72, Table 3.9): nothing when cancelled; kernels of a failed
uplink allocation left no data. DEDUCED, log entry 78. -/
def State.allocData (s : State) (o : Order) (k st : Nat) (x : AllocOut) : AllocData :=
  let a := o.allocs.getD k default
  let made := st != 0x12
  if st = 0x16 then {}
  else match a.kind with
    | 1 | 5 => s.puschData o a made x
    | 2 | 6 => if made then s.pucchData x else {}
    | 3 => if made then s.srsData o a.entry x else {}
    | 4 => if made then s.prachOut o k else {}
    | _ => s.txReport o a x

end Sys2Proof.Machine
end

