-- ==== Sys2Proof/Machine/Orders.lean ====
section
/-!
DEFINITION. Orders: acceptance and expansion (R45, R62 to R75), outcomes and delivery (R51 to R58, R71 to R73, R538),
cancellation (R86), the sentinel (R56), the close of an input (R53), and the rennet's switches.
-/
namespace Sys2Proof.Machine

/-! ## Expansion (R74, R75) -/

/-- A task as placed: count, budget, and charges. -/
def placedTask (img : List Byte) (par : List Nat) (pl : Nat × Nat × Nat) : TaskSt :=
  let t := imgTaskAt img pl.1
  let cb := countBudget img t.cls t.costOff par
  { cls := t.cls, beat := pl.2.1, die := pl.2.2, count := cb.1, budget := cb.2
    costs := taskCosts img t.costOff par pl.2.2, flowGated := t.flowGated }

/-- Tasks whose successor lists name task `k`. DEDUCED, log entry 26. -/
def predecessors (img : List Byte) (k : Nat) : List Nat :=
  (List.range k).filter (fun i => (imgSuccs img (imgTaskAt img i)).any (fun x => x.1 == k))

/-- Curd `i` of task `k` of an order, its descriptor at `a` and its argument block at `ar`. DEDUCED, log entry 26. -/
def Order.newCurd (o : Order) (s : State) (img : List Byte) (k i a ar rank : Nat) : Curd :=
  let t := imgTaskAt img k
  let x := o.tasks.getD k default
  -- FABRIC and REMOTE jobs never carry a flow (R126)
  let fl := if t.flowGated && t.cls < 10 then (match (o.produces t)[i]? with | some j => (o.allocs.getD j default).flow | none => noFlow) else noFlow
  let cnt := fun j => (o.tasks.getD j default).count
  { handle := o.handle, task := k, index := i, cls := t.cls, hasFlow := fl != noFlow, budget := x.budget
    quantum := quantumOf x.budget, beat := x.beat, die := x.die
    dep := ((predecessors img k).map cnt).sum, flow := fl
    entry := s.imgAddr o.slot (entryOffset img t.cls t.entry), entryOff := t.entry, args := ar
    succ := s.imgAddr o.slot t.succOff, nSucc := ((imgSuccs img t).map (fun y => cnt y.1)).sum
    prio := o.prio, addr := a, rank := rank, func := o.func }

/-- (task, index) of every curd of an order. DEDUCED, log entry 26. -/
def Order.curdList (o : Order) : List (Nat × Nat) :=
  (List.range o.tasks.length).flatMap (fun k => (List.range (o.tasks.getD k default).count).map (fun i => (k, i)))

/-- Takes `n` arena blocks for an order. DEDUCED, log entry 26. -/
def State.takeArenas (s : State) (h : Nat) : Nat → List Nat × State
  | 0 => ([], s)
  | n + 1 => let r := s.takeArenas h n; let t := r.2.takeArena h; (r.1 ++ [t.1], t.2)

/-- The argument block of PRACH job `i` (R257), OUT_ADDR in a block of its own. DEDUCED, log entry 26. -/
def Order.prachArgs (o : Order) (i out : Nat) : List Byte :=
  let al := (o.allocs.filter (fun a => a.kind == 4)).getD i default
  let e := al.entry
  let p := u8 e 17 % 16
  let x := (o.inputs.find? (fun j => j.port == p)).getD default
  let lte := 0x10 ≤ u8 e 12 % 32
  (e ++ leBytes 8 x.buf ++ leBytes 2 (fhN x) ++ leBytes 1 (if lte then 0 else natAt o.params 10) ++ zeros 5 ++ leBytes 8 out ++ zeros 8).take 64

/-- Fills the argument block of a curd (R209, R257); those of kernels and BMU programs keep what the block holds. DEDUCED, log entry 26. -/
def State.fillArgs (s : State) (o : Order) (img : List Byte) (c : Curd) : State :=
  if c.cls ≤ 1 then s
  else if c.cls = 6 then
    let r := s.takeArena o.handle
    r.2.caveWrite c.args (o.prachArgs c.index (r.1 * 4096))
  else s.caveWrite c.args ((slice img (entryOffset img c.cls c.entryOff) 64 ++ zeros 64).take 64)

/-- Writes the curd descriptors and argument blocks of an order that stands in the list of orders. DEDUCED, log entry 26. -/
def State.expand (s : State) (o : Order) (rank : Nat) : State :=
  let img := (s.image o.slot).bytes
  let l := o.curdList
  let n := ceilDiv l.length 64
  let d := s.takeArenas o.handle n
  let a := d.2.takeArenas o.handle n
  let at' := fun (b : List Nat) (i : Nat) => natAt b (i / 64) * 4096 + i % 64 * 64
  let cs := (List.range l.length).map (fun i =>
    let x := l.getD i (0, 0)
    o.newCurd s img x.1 x.2 (at' d.1 i) (at' a.1 i) rank)
  let s1 := { a.2 with curds := a.2.curds ++ cs }
  let s2 := (List.range 5).foldl State.noteStore (cs.foldl (fun (t : State) (c : Curd) => t.fillArgs o img c) s1)
  -- a curd that reaches its heap after its beat has begun ends at once (R118)
  (cs.filter (fun c => atOrAfter s.beat c.beat)).foldl (fun (t : State) (c : Curd) =>
    (t.endCurd c.addr 0x12 true).bump .DISP_RELEASE_FLT c.station) s2

/-! ## Acceptance -/

/-- Fields of Table 3.2 as the rennet reads them. -/
def decInOf (img : List Byte) (p : List Byte) : DecIn :=
  { img := img, params := ordParams p, homeDie := bits (u8 p 2) 5 4, dieMask := u8 p 3 % 16, deadline := u32 p 4
    ports := (ordInputs p).map (fun x => (inPort x, inReady x)) }

/-- The beat of an input's first consumer, or the promised beat (R53). -/
def firstConsumer (img : List Byte) (places : List (Nat × Nat × Nat)) (port promised : Nat) : Nat :=
  match places.filter (fun x => bitAt (imgTaskAt img x.1).inports port) with
  | [] => promised
  | x :: r => r.foldl (fun a y => earlierBeat a y.2.1) x.2.1

/-- An input as the order starts with it: host and Cave data stand ready. DEDUCED, log entry 25. -/
def State.newInput (s : State) (img : List Byte) (places : List (Nat × Nat × Nat)) (promised : Nat) (x : List Byte) : InputSt :=
  { port := inPort x, kind := inKind x, ref := inRef x, len := inLen x, ready := inReady x
    firstBeat := firstConsumer img places (inPort x) promised
    arrived := inKind x == 1 || inKind x == 2
    bound := if inKind x = 0 then s.declBound x else none }

/-- Bytes of arena addresses that an input's data needs: its grid and erasure map, or its stream. -/
def State.inputBytes (s : State) (o : Order) (i : InputSt) : Nat :=
  if i.kind = 0 then mapOffset (s.gridBytes o i) + ceilDiv (fhNSym i * fhN i) 8
  else if i.kind = 3 then bits i.ref 47 32 * 64
  else 0

/-- Sets aside addresses for the inputs of the order that stands last in the list of orders. DEDUCED, log entry 25. -/
def State.placeInputs (s : State) (h : Nat) (ports : List Nat) : State :=
  ports.foldl (fun (t : State) p =>
    match t.orderOf h with
    | none => t
    | some o =>
      match o.input p with
      | none => t
      | some i =>
        let n := t.inputBytes o i
        if n = 0 then t
        else
          let r := t.setAside n
          t.used.modOrder h (fun o => { (o.modInput p (fun i => { i with buf := r.1 })) with ranges := o.ranges ++ [r.2] })) s

/-- The sentinel index of an acceptance: a free one, which the spec leaves open (R70). -/
def State.sentinelFree (s : State) (n : Nat) : Bool := !(s.orders.any (fun o => o.handle % 16384 == n))
def State.chooseSentinel (s : State) : Nat :=
  let x := s.pick 16384
  if s.sentinelFree x then x
  else (((List.range (s.orders.length + 1)).map (fun i => (x + i) % 16384)).find? s.sentinelFree).getD 0

/-- Distinct flows that an order names (R105). -/
def Order.flowsNamed (o : Order) : List Nat := ((o.allocs.map AllocSt.flow).filter (· != noFlow)).eraseDups

/-- REFS of the order's flows changed by `f` (R105). -/
def State.modRefs (s : State) (o : Order) (f : Nat → Nat) : State :=
  o.flowsNamed.foldl (fun (t : State) x => let e := t.flow x; t.setFlow x { e with refs := f e.refs }) s

/-- The allocation of an entry. -/
def allocOf (e : List Byte) : AllocSt := { flow := alFlow e, kind := alKind e, tbs := alTbs e, body := e.drop 8 }

/-- Acceptance of an order: reservations, sentinel, its RESULT slot, REFS, inputs and curds. DEDUCED, log entry 27. -/
def State.accept (s : State) (c : CmdCtx) (pair slot : Nat) (cal : List Column) (places : List (Nat × Nat × Nat)) (promised : Nat) :
    Nat × State :=
  let p := c.payload
  let img := (s.image slot).bytes
  let par := ordParams p
  let h := s.chooseSentinel + s.orderSeq * 16384
  let o : Order :=
    { handle := h, func := c.issuer, pair := pair, slot := slot, dl := bitAt (u8 img 7) 0, deadline := u32 p 4
      promised := mkStamp promised 1000, resultQ := u16 p 8, msix := u16 p 14, resultBuf := u64 p 16, resultLen := u32 p 24
      user := u32 p 28, tag := c.tag, prio := u8 p 3 / 16, homeDie := bits (u8 p 2) 5 4, dieMask := u8 p 3 % 16, params := par
      inputs := (ordInputs p).map (s.newInput img places promised)
      allocs := (ordAllocs p).map allocOf
      tasks := (List.range (imgNTask img)).map (fun k => placedTask img par ((places.find? (fun x => x.1 == k)).getD (k, promised, 0))) }
  let s1 := { s.used with
    cal := reserveAt cal promised 0x11 0 1, orders := s.orders ++ [o], orderSeq := (s.orderSeq + 1) % 2 ^ 18, rank := s.rank + 1
    sentArmed := s.sentArmed + 1, sentFree := s.sentFree - 1 }
  let s2 := ((s1.setReg .Q_HELD o.resultQ (s.reg .Q_HELD o.resultQ + 1)).modRefs o (· + 1)).placeInputs h (o.inputs.map InputSt.port)
  (h, s2.expand ((s2.orderOf h).getD o) s.rank)

/-- Counter of a rejection status. -/
def rejCounter (st : Nat) : RegId :=
  if st = 0x02 then .RENNET_REJ_CAP else if st = 0x03 then .RENNET_REJ_WIN else if st = 0x04 then .RENNET_REJ_GRAPH else .RENNET_REJ_LEASE

/-- How long a decision took, in grains: at most 16 (R41); a free value. DEDUCED, log entry 27. -/
def State.noteDecision (s : State) : State :=
  (s.setReg .RENNET_DEC_MAX 0 (max (s.reg .RENNET_DEC_MAX) (s.pick 16 + 1))).used

/-- The image slot an order names, when its generation matches and it is LOADED (R67). -/
def State.orderImage (s : State) (h : Nat) : Option Nat :=
  if (s.image (h % 256)).gen = h / 256 ∧ (s.image (h % 256)).state = 2 then some (h % 256) else none

/-- The SLOT_ORDER reply (Table 3.8). -/
def State.orderReply (s : State) (c : CmdCtx) (status w1 w2 : Nat) : State :=
  s.replyWord c status (leBytes 4 w1 ++ leBytes 4 w2 ++ leBytes 4 c.fetch)

/-- SLOT_ORDER from ring pair `pair`. -/
def State.slotOrder (s : State) (c : CmdCtx) (pair : Nat) : State :=
  match s.rind c.issuer c.payload with
  | some st => s.orderReply c st 0 0
  | none =>
    let sl := s.orderImage (u16 c.payload 0)
    let img := match sl with | some n => (s.image n).bytes | none => []
    match s.decideOrder (decInOf img c.payload) sl.isSome c.fetch with
    | .rejected st pool early =>
      let w := match pool with | some (p, i) => p + i % 16 * 256 + 32768 | none => 0
      ((s.bump (rejCounter st)).noteDecision).orderReply c st w early
    | .accepted cal places promised =>
      let r := (s.bump .RENNET_ACCEPTS).noteDecision.accept c pair (sl.getD 0) cal places promised
      r.2.orderReply c 1 (mkStamp promised 1000) r.1

/-- SLOT_ORDER (R45, R60 to R70); off a PCIe ring it is answered with BAD_OPCODE. -/
def execSlotOrder (c : CmdCtx) (s : State) : Host.Outcome State Fault Refusal :=
  .next (if !s.inTurn c then s else match c.src with | .pair p => s.slotOrder c p | _ => s.replyWord c 0x20 [])

/-! ## Outcomes (R58, R538) -/

/-- Tasks from which task `k` descends, itself included. -/
def ancestors (img : List Byte) (k : Nat) : List Nat :=
  (List.range k).foldr (fun i a => if (imgSuccs img (imgTaskAt img i)).any (fun x => a.contains x.1) then i :: a else a) [k]

/-- Tasks of the image that produce a kind. -/
def producers (img : List Byte) (kind : Nat) : List Nat :=
  (List.range (imgNTask img)).filter (fun k => bitAt (imgTaskAt img k).produces kind)

/-- A curd of the order that produces allocation `k` did not end DONE. `ex` is the delivering job, which is judged DONE. -/
def State.curdFailed (s : State) (o : Order) (img : List Byte) (k : Nat) (ex : Option Nat) : Bool :=
  o.failedAllocs.contains k
  || s.curds.any (fun c => c.handle == o.handle && some c.addr != ex
      && (c.endStatus != 0x10 || c.outAbsent) && (o.producedBy (imgTaskAt img c.task) c.index).contains k)

/-- STATUS of allocation record `k` (R538). -/
def State.recordStatus (s : State) (o : Order) (img : List Byte) (cancelled : Bool) (ex : Option Nat) (k : Nat) : Nat :=
  let ps := producers img (o.allocs.getD k default).kind
  let anc := ps.flatMap (ancestors img)
  let beyond := ps.any (fun t =>
    (imgTaskAt img t).perCurd && decide ((o.tasks.getD t default).count ≤ ((o.produces (imgTaskAt img t)).findIdx (· == k))))
  let fed := fun (i : InputSt) => anc.any (fun t => bitAt (imgTaskAt img t).inports i.port)
  if cancelled then 0x16
  else if s.curdFailed o img k ex || beyond || ps == [] then 0x12
  else if o.inputs.any (fun i => i.missing && fed i) then 0x14
  else if o.inputs.any (fun i => i.late && fed i) then 0x13
  else if anc.any (fun t => (o.tasks.getD t default).floorRan) then 0x11
  else 0x10

/-- A FAILED_ON_TIME condition of Table 2.8 holds for the order, by curds whose completion is still to be processed too. -/
def State.faulted (s : State) (o : Order) : Bool :=
  o.fault || s.curds.any (fun c => c.handle == o.handle && c.st == .ended && (c.endStatus == 0x12 || c.outAbsent))

/-- STATUS of the order (R58, R73): the first entry of Table 2.8 that holds. -/
def orderStatus (o : Order) (cancelled : Bool) (recs : List Nat) : Nat :=
  if cancelled then 0x16
  else if o.fault || recs.contains 0x12 then 0x12
  else if o.inputs.any InputSt.missing then 0x14
  else if o.inputs.any InputSt.late then 0x13
  else if o.tasks.any TaskSt.floorRan then 0x11
  else 0x10

/-! ## Delivery (R71 to R73) -/

/-- Offsets and stored lengths of the allocations' data (R72), from offset `off`; an allocation without data has none. DEDUCED, log entry 27. -/
def dataPlan (len : Nat) : Nat → List AllocData → List (Nat × Nat)
  | _, [] => []
  | off, x :: r =>
    let n := x.data.length
    (off, min n (len - off)) :: dataPlan len (if n = 0 then off else ceilDiv (off + n) 64 * 64) r

/-- An allocation record (Table 3.9). DATA_OFF of an allocation without data is a free value. -/
def allocRecord (k st : Nat) (x : AllocData) (floor : Bool) (off n free : Nat) : List Byte :=
  leBytes 2 k ++ leBytes 1 st ++ leBytes 1 (b2n x.crcOk + 2 * b2n x.valid + 4 * b2n floor) ++ leBytes 1 x.iter ++ leBytes 1 x.passes
    ++ zeros 2 ++ leBytes 4 (if x.data = [] then free else off) ++ leBytes 4 n

/-- The result descriptor (Table 3.10). -/
def resultDesc (o : Order) (st flags nrec stamp bytes : Nat) : List Byte :=
  let mask := fun (f : InputSt → Bool) => ((o.inputs.filter f).map (fun i => 2 ^ i.port)).sum
  leBytes 1 st ++ leBytes 1 flags ++ leBytes 2 nrec ++ leBytes 4 o.handle ++ leBytes 4 o.tag ++ leBytes 4 o.user ++ leBytes 4 o.promised
    ++ leBytes 4 stamp ++ leBytes 4 bytes ++ leBytes 2 (mask InputSt.late) ++ leBytes 2 (mask InputSt.missing)

/-- One more than the offset of the last byte written (Table 3.10). -/
def resultBytes (nrec : Nat) (plan : List (Nat × Nat)) : Nat :=
  plan.foldl (fun a x => if x.2 = 0 then a else max a (x.1 + x.2)) (16 * nrec)

/-- The result buffer, then the result descriptor and the MSI-X message of an order. -/
def State.deliverWrites (s : State) (o : Order) (outs : List AllocOut) (cancelled sentinel : Bool) (ex : Option Nat) : State :=
  let img := (s.image o.slot).bytes
  let n := o.allocs.length
  let recs := (List.range n).map (s.recordStatus o img cancelled ex)
  let outs := (List.range n).map (fun k => s.allocData o k (natAt recs k) (outs.getD k default))
  let plan := dataPlan o.resultLen (ceilDiv (16 * n) 64 * 64) outs
  let floorOf := fun k => (producers img (o.allocs.getD k default).kind).any (fun t => (o.tasks.getD t default).floorRan)
  let trunc := (List.range n).any (fun k => decide ((plan.getD k (0, 0)).2 < (outs.getD k default).data.length))
  let head := (List.range n).flatMap (fun k => allocRecord k (natAt recs k) (outs.getD k default) (floorOf k)
    (plan.getD k (0, 0)).1 (plan.getD k (0, 0)).2 (Config.freeValue (s.freeCtr + k)))
  let s1 := { s with freeCtr := s.freeCtr + n }
  let s2 := if n = 0 then s1 else s1.hostWrite o.func o.resultBuf head
  let s3 := (List.range n).foldl (fun (t : State) k =>
    let x := plan.getD k (0, 0)
    if x.2 = 0 then t else t.hostWrite o.func (o.resultBuf + x.1) ((outs.getD k default).data.take x.2)) s2
  let st := orderStatus { o with fault := s.faulted o } cancelled recs
  let d := resultDesc o st (b2n sentinel + 2 * b2n trunc + 4 * b2n o.dl) n s.stamp (resultBytes n plan)
  s3.enqueue o.resultQ d .held 1 (if o.msix = 0xFFFF then none else some (o.func, o.msix))

/-- Releases the flow's blocks and entry (R106). -/
def State.freeFlow (s : State) (f : Nat) : State :=
  (s.returnBlocks (s.blocksOf (· == .flow f))).setFlow f {}

/-- Flows of functions under reset whose REFS is 0 (R519). -/
def State.flrFlows (s : State) : State :=
  if s.flr = [] then s
  else ((s.flows.filter (fun e => s.flr.contains e.2.owner && e.2.state != 0 && e.2.refs == 0)).map Prod.fst).foldl State.freeFlow s

/-- What the order holds returns (Table 4.13): arena blocks, reservations in columns not yet reached (in every column for
a cancel), its sentinel, and REFS. Its curds leave the stations: those that ended in this grain, or whose completion is still to
be processed, keep their executor until then (R121, R130), and with `now` their tokens return at once. -/
def State.reclaim (s : State) (o : Order) (all now : Bool) : State :=
  let mine := s.curds.filter (fun c => c.handle == o.handle && !c.freed)
  let s0 := mine.foldl State.stageFreed s
  let s1 := if now then
      mine.foldl (fun (t : State) c => (t.tokenBack c).flowLeft o (imgTaskAt (s.image o.slot).bytes c.task) c) s0
    else s0
  let ended := (s1.curds.filter (fun (c : Curd) => c.handle == o.handle && !c.freed && c.st == .ended)).map (fun (c : Curd) =>
    if now then { c with token := false } else c)
  let past := fun b => !all && atOrAfter s.beat b
  let cal := o.tasks.foldl (fun a t => if past t.beat then a else t.costs.foldl (fun a c => releaseAt a t.beat c.1 c.2.1 c.2.2) a) s.cal
  let pb := stampBeat o.promised
  let cal := if past pb then cal else releaseAt cal pb 0x11 0 1
  let s2 := { s1 with
    cal := cal, curds := s1.curds.filter (fun c => c.handle != o.handle), orders := s1.orders.filter (fun x => x.handle != o.handle)
    gone := s1.gone ++ ended
    sentArmed := s.sentArmed - 1, sentFree := s.sentFree + 1 }
  ((s2.returnBlocks (s2.blocksOf (· == .order o.handle))).modRefs o (· - 1)).flrFlows

/-- The HUB_DMA job that delivers an order: a running job of a task without successors. -/
def State.deliveringJob (s : State) (o : Order) : Option Curd :=
  let img := (s.image o.slot).bytes
  s.curds.find? (fun c => c.handle == o.handle && c.cls == 8 && c.st == .running && (imgTaskAt img c.task).nSucc == 0)

/-- RESULT_DELIVERY (R71): every other curd of the order has ended and its completion is processed; the delivering job ends DONE,
and its own completion follows in the next grain (R130). For a function under reset the order counts as delivered in its promised
grain only (R519). DEDUCED, log entry 27. -/
def State.resultDelivery (s : State) (n : Nat) (outs : List AllocOut) : State :=
  match s.orderAt n with
  | none => s
  | some o =>
    match s.deliveringJob o with
    | none => s
    | some d =>
      if s.curds.any (fun c => c.handle == o.handle && c.addr != d.addr && !c.freed) then s
      else if s.flr.contains o.func then s.endCurd d.addr 0x10
      else ((s.deliverWrites o outs false false (some d.addr)).endCurd d.addr 0x10).reclaim o false false

def execResultDelivery (sentinel : Fin 16384) (outs : List AllocOut) (s : State) : Host.Outcome State Fault Refusal :=
  .next (s.resultDelivery sentinel.val outs)

/-- Orders of functions under reset whose promised grain has come count as delivered (R519). DEDUCED, log entry 28. -/
def State.flrDeliver (s : State) : State :=
  (s.orders.filter (fun o => s.flr.contains o.func && stampAtOrAfter s.stamp o.promised)).foldl (fun (t : State) (o : Order) =>
    (t.setReg .Q_HELD o.resultQ (t.reg .Q_HELD o.resultQ - 1)).reclaim o false true) s

/-- SENTINEL_FIRE (R56, R136): the order's remaining work is cancelled, the result data already in the Cave is written, and the
result descriptor with the status of Table 2.8. DEDUCED, log entry 27. -/
def State.sentinelFire (s : State) (n : Nat) (outs : List AllocOut) : State :=
  match s.orderAt n with
  | none => s
  | some o =>
    if s.gridRun ∧ s.beat = stampBeat o.promised ∧ s.grain = 968 ∧ o.remote = none then
      let s1 := s.cancelCurds o.handle
      if s.flr.contains o.func then s1
      else
        let o1 := (s1.orderOf o.handle).getD o
        { (s1.deliverWrites o1 outs false true none).reclaim o1 false true with sentWrites := s.sentWrites + 1 }
    else s

def execSentinelFire (sentinel : Fin 16384) (outs : List AllocOut) (s : State) : Host.Outcome State Fault Refusal :=
  .next (s.sentinelFire sentinel.val outs)

/-! ## Cancellation (R86) -/

/-- The ORDER_CANCEL reply carries the handle on every status. -/
def State.cancelReply (s : State) (c : CmdCtx) (st : Nat) : State := s.replyWord c st (leBytes 4 (u32 c.payload 0))

/-- A curd or job of the order started in a grain before `stamp`: the cancel acts at the start of the grain of its fetch. -/
def Order.startedBefore (o : Order) (stamp : Nat) : Bool :=
  match o.started with | some x => !stampAtOrAfter x stamp | none => false

def State.orderCancel (s : State) (c : CmdCtx) : State :=
  if c.payload.length ≠ 4 then s.cancelReply c 0x22
  else match s.orderOf (u32 c.payload 0) with
    | none => s.cancelReply c 0x21
    | some o =>
      if o.func ≠ c.issuer then s.cancelReply c 0x21
      else if o.startedBefore c.fetch then s.cancelReply c 0x24
      else
        let s1 := s.cancelCurds o.handle
        ((s1.deliverWrites o [] true false none).reclaim o true true).cancelReply c 0

/-- ORDER_CANCEL (R60, R86). -/
def execOrderCancel (c : CmdCtx) (s : State) : Host.Outcome State Fault Refusal :=
  .next (if !s.inTurn c then s else match c.src with | .pair _ => s.orderCancel c | _ => s.replyWord c 0x20 [])

/-! ## The close of an input (R53, R178) -/

/-- Zeroes the elements of an input's grid for which no data arrived (R177). DEDUCED, log entry 25. -/
def State.zeroGaps (s : State) (o : Order) (i : InputSt) : State :=
  let stride := s.gridStride o i
  (List.range (fhNSym i * fhN i)).foldl (fun (t : State) u =>
    (List.range (ceilDiv stride 12)).foldl (fun (t : State) b =>
      if i.cov.any (fun x => x.1 == u && x.2.1 ≤ b && b < x.2.1 + x.2.2) then t
      else t.hubWrite o.handle (i.buf + (u * stride + 12 * b) * 4) 0x3FF (zeros (4 * min 12 (stride - 12 * b)))) t) s

/-- Chunks of a stream that did not arrive read as zero (R323). DEDUCED, log entry 25. -/
def State.zeroChunks (s : State) (o : Order) (i : InputSt) : State :=
  let n := bits i.ref 47 32 * 64
  (List.range (ceilDiv n 2048)).foldl (fun (t : State) k =>
    if i.got.contains k then t else t.hubWrite o.handle (i.buf + 2048 * k) 0x3FF (zeros (min 2048 (n - 2048 * k)))) s

/-- INPUT_CLOSE (R53): grain 1,016 of the beat before its first consumer; an input that has not arrived is an erasure. DEDUCED, log entry 25. -/
def State.inputClose (s : State) (n p : Nat) : State :=
  match s.orderAt n with
  | none => s
  | some o =>
    match o.input p with
    | none => s
    | some i =>
      if s.gridRun ∧ s.beat = beatSub i.firstBeat 1 ∧ s.grain = 1016 ∧ !i.closed then
        let s1 := s.modOrder o.handle (fun o => o.modInput p (fun i => { i with closed := true, missing := !i.arrived }))
        if i.kind = 0 then
          (s1.zeroGaps o i).hubWrite o.handle (i.buf + mapOffset (s.gridBytes o i)) 0x3FF (erasureMap i (s.pendingUnits o.handle i))
        else if i.kind = 3 then s1.zeroChunks o i
        else s1
      else s

def execInputClose (sentinel : Fin 16384) (port : Fin 16) (s : State) : Host.Outcome State Fault Refusal :=
  .next (s.inputClose sentinel.val port.val)

/-! ## The rennet's switches (R59, R516) -/

/-- RENNET_OPEN (R516): opening is discarded unless the grid runs, the steward runs, the reference is present and no
D3 session is open (R505); a close always takes effect. The field is RWS: its value takes effect at the next tick. -/
def State.rennetOpenRefused (s : State) : Bool :=
  !s.gridRun || s.fld Fld.STEWARD_STAT_STATE != 1 || s.fld Fld.TIME_STAT_REF_LOSS == 1
  || (List.range 4).any (fun n => s.fld Fld.DBG_SESS_LEVEL n == 3 && s.fld Fld.DBG_SESS_STATE n == 2)

def State.rennetOpen (s : State) (v : Bool) (src : Source) : State :=
  if v && s.rennetOpenRefused then s.werrReg .RENNET_CTRL 0 src
  else
    let s1 := s.pendRws (RegId.key .RENNET_CTRL 0) (putBit (s.reg .RENNET_CTRL) 0 v)
    if v then s1.setFld Fld.GLOBAL_BOOT_STEP 0 13 else s1

def execRennetOpen (value : Bool) (src : Source) (s : State) : Host.Outcome State Fault Refusal := .next (s.busGate (RegId.offset .RENNET_CTRL 0) src (s.rennetOpen value src))

/-- RENNET_CLR_STATS (R59). -/
def State.rennetClr (s : State) : State :=
  s.clearRegs [.RENNET_ACCEPTS, .RENNET_REJ_CAP, .RENNET_REJ_WIN, .RENNET_REJ_GRAPH, .RENNET_REJ_LEASE, .RENNET_DEC_MAX]

def execRennetClrStats (src : Source) (s : State) : Host.Outcome State Fault Refusal := .next (s.busGate (RegId.offset .RENNET_CTRL 0) src s.rennetClr)

end Sys2Proof.Machine
end

