-- ==== Sys2Proof/Machine/Flows.lean ====
section
/-!
DEFINITION. What the steward does with a command it takes (R428, R429), the flow commands (R102, R106), and the
settlement of the queues at the end of a grain (R96, R97).
-/
namespace Sys2Proof.Machine

/-! ## Commands that the steward serves -/

/-- Opcodes that the steward serves (R416, R421). -/
def stewardOp (op : Nat) : Bool := op < 0x1000 || (0x1400 ≤ op && op < 0x1800) || 0x2000 ≤ op

/-- Opcodes of class L (Table 16.3). -/
def classLOp (op : Nat) : Bool := op == 0x20 || op == 0x21 || op == 0x22 || op == 0x30 || op == 0x300

/-- Two commands come from one pair, or from one source address (R422). -/
def sameSource (a b : CmdSource) : Bool :=
  match a, b with
  | .port x _, .port y _ => x == y
  | _, _ => a == b

/-- A command takes effect after those that arrived before it from its source; one of class I does not wait for one of class L
(R422). DEDUCED, log entry 60. -/
def State.stewardTurn (s : State) (c : CmdCtx) : Bool :=
  (s.kp.checks.all (fun x => x == c || classLOp x.opcode || !sameSource x.src c.src))
    && (s.mg.fetched.takeWhile (· != c)).all (fun x => !sameSource x.src c.src || !stewardOp x.opcode || (classLOp x.opcode && !classLOp c.opcode))

/-- A command that the steward serves: BUSY while it does not run; it waits until its turn. -/
def State.served (s : State) (c : CmdCtx) (t : State) : State :=
  if !s.stewardRun then s.reply c 0x25 else if s.stewardTurn c then t else s

/-- The steward keeps a command in its journal until its reply; `done` once it has taken effect. -/
def State.keep (s : State) (c : CmdCtx) (done : Bool) : State :=
  { s with mg := { s.mg with
      fetched := s.mg.fetched.erase c
      journal := s.mg.journal.filter (fun j => j.ctx != c) ++ [⟨c, done⟩] } }

/-! ## Flow commands (Table 4.8) -/

/-- FLOW of a flow command, when its bits [31:23] are zero and it is in range. -/
def flowArg (p : List Byte) : Option Nat := if u32 p 0 < 0x500000 then some (u32 p 0) else none

/-- The map block's contents (R102). -/
def mapBytes (blocks : List Nat) : List Byte := blocks.flatMap (fun b => leBytes 4 b)

/-- A flow takes its blocks and becomes PENDING; its map stands in the first block. -/
def State.flowTake (s : State) (f owner n : Nat) : State :=
  if n = 0 then s.setFlow f { state := 2, owner := owner, holder := 0x3FF }
  else
    let r := s.takeGens (fun _ => .flow f) (n + 1)
    let m := natAt r.1 0 * 4096
    (r.2.caveWrite m (mapBytes (r.1.drop 1))).setFlow f { state := 2, owner := owner, holder := 0x3FF, sbBlocks := n, sbMap := m }

/-- Blocks that a flow with `n` soft-buffer blocks takes. -/
def flowBlocks (n : Nat) : Nat := if n = 0 then 0 else n + 1

def State.flowSetup (s : State) (c : CmdCtx) : State :=
  let p := c.payload; let n := u16 p 4
  if p.length ≠ 8 then s.reply c 0x22
  else match flowArg p with
    | none => s.reply c 0x21
    | some f =>
      if n > 1023 ∨ u16 p 6 ≠ 0 then s.reply c 0x21
      else if (s.flow f).state ≠ 0 then s.reply c 0x24
      else if s.genAvail < flowBlocks n then s.reply c 0x61
      else (s.flowTake f c.issuer n).keep c true

/-- FLOW_SETUP (R106): the reply follows the tick at which the flow becomes ACTIVE. -/
def execFlowSetup (c : CmdCtx) (s : State) : Host.Outcome State Fault Refusal := .next (s.served c (s.flowSetup c))

/-- Flows set up since the last tick become ACTIVE, and their commands are answered while the steward runs (R106, Table 16.4). -/
def State.flowTick (s : State) : State :=
  (s.mg.journal.filter (fun j => j.ctx.opcode == 0x0210 && j.done)).foldl (fun (t : State) j =>
    let f := u32 j.ctx.payload 0
    let t1 := if (t.flow f).state = 2 then t.setFlow f { t.flow f with state := 1 } else t
    if t.stewardRun then t1.reply j.ctx 0 else t1) s

def State.flowRelease (s : State) (c : CmdCtx) : State :=
  if c.payload.length ≠ 4 then s.reply c 0x22
  else match flowArg c.payload with
    | none => s.reply c 0x21
    | some f =>
      let x := s.flow f
      if x.state = 0 then s.reply c 0x21
      else if x.owner ≠ c.issuer ∨ x.state = 2 ∨ x.refs > 0 ∨ x.out then s.reply c 0x24
      else (s.freeFlow f).reply c 0

/-- FLOW_RELEASE (R106). -/
def execFlowRelease (c : CmdCtx) (s : State) : Host.Outcome State Fault Refusal := .next (s.served c (s.flowRelease c))

def State.flowQuery (s : State) (c : CmdCtx) : State :=
  if c.payload.length ≠ 4 then s.reply c 0x22
  else match flowArg c.payload with
    | none => s.reply c 0x21
    | some f =>
      let x := s.flow f
      if 1 ≤ c.issuer ∧ c.issuer ≤ 15 ∧ (x.state = 0 ∨ x.owner ≠ c.issuer) then s.reply c 0x24
      else s.reply c 0 x.bytes

/-- FLOW_QUERY (R106). -/
def execFlowQuery (c : CmdCtx) (s : State) : Host.Outcome State Fault Refusal := .next (s.served c (s.flowQuery c))

/-! ## Settlement (R96, R97) -/

/-- The producer's own rule for a refused descriptor: trace records are lost (R139), an error record stays (R474), a host
frame is dropped by check 16 (R291), a sample's block returns, and an event is lost to its subscriber (R436). -/
def State.refusedEnq (s : State) (e : QEnq) : State :=
  let s1 := s.bump .Q_DROPS e.queue
  match e.producer with
  | .station st n lost => s1.traceRefused st n lost
  | .fhPort p len =>
    (s1.whey p 16 .FH_WHEY_INQ (s.caveRead (bits (u64 e.desc 0) 39 0) (min len 128))).returnBlocks (s.queueBlocks e.queue e.desc)
  | .whey _ => s1.returnBlocks (s.queueBlocks e.queue e.desc)
  | .errorUnit _ | .held => s1
  | .notice p _ =>
    let s2 := s1.bump .MGMT_CNT_EVLOST
    { s2 with mg := { s2.mg with subs := s2.mg.subs.map (fun b =>
        if b.src = .pair p then { b with lost := min (b.lost + 1) 0xFFFFFFFF } else b) } }

/-- A record that is delivered leaves its store; the lost count that it carries is taken off (R474). -/
def State.errDelivered (s : State) (d : Nat) (desc : List Byte) : State :=
  let r := (s.errs.getD d []).drop 1
  (({ s with errs := setAt s.errs d r }).setFld Fld.ECC_D_STORE_USED d r.length).setFld Fld.ECC_D_STORE_LOST_PENDING d
    (s.fld Fld.ECC_D_STORE_LOST_PENDING d - u16 desc 26)

/-- An enqueue that fits: its entries, the held entries it gives up, and its MSI-X message. -/
def State.putEnq (s : State) (e : QEnq) (bytes : List Byte) : State :=
  let s1 := (s.setReg .Q_HELD e.queue (s.reg .Q_HELD e.queue - e.held)).qPutBytes e.queue bytes
  match e.msix with
  | some v => s1.msix v.1 v.2
  | none => s1

/-- An event reaches its pair: LOST counts what the pair missed before it (R436). -/
def State.putNotice (s : State) (q : QEnq) (p : Nat) (e : EventRec) : State :=
  match s.mg.subs.find? (fun b => b.src == .pair p) with
  | none => s
  | some b =>
    let v := if s.fld Fld.CMD_PAIR_MSIX_EV_MSIX p = 1 then some (s.pairVec p) else none
    let s1 := s.putEnq { q with msix := v } (e.packet b.lost)
    { s1 with
      replies := s1.replies ++ [⟨.pair p, e.packet b.lost⟩]
      mg := { s1.mg with subs := s1.mg.subs.map (fun x => if x.src = .pair p then { x with lost := 0 } else x) } }

/-- One enqueue at the settlement: entries that Q_HELD holds are there in STOPPING too (R99); any other enqueue needs a RUNNING
queue and free slots. -/
def State.settleEnq (s : State) (e : QEnq) : State :=
  if s.qState e.queue ≠ 0 ∧ e.held ≠ 0 then s.putEnq e e.desc
  else if s.qState e.queue = 1 ∧ ceilDiv e.desc.length 32 ≤ s.qFree e.queue then
    match e.producer with
    | .errorUnit d => (s.putEnq e e.desc).errDelivered d e.desc
    | .notice p x => s.putNotice e p x
    | _ => s.putEnq e e.desc
  else s.refusedEnq e

/-- The dequeues of a settlement, and its enqueues. -/
def State.settleDeq (s : State) : QOp → State
  | .head w => s.settleHead w
  | _ => s
def State.settleOne (s : State) : QOp → State
  | .put e => s.settleEnq e
  | .tail w => s.settleTail w
  | .head _ => s

/-- QUEUE_SETTLE (R97): the grain's dequeues, then its enqueues, each in order of arrival. What a refusal itself produces waits
for the next settlement. -/
def State.settle (s : State) : State :=
  s.qEnqs.foldl State.settleOne (s.qEnqs.foldl State.settleDeq { s with qEnqs := [] })

def execQueueSettle (s : State) : Host.Outcome State Fault Refusal := .next s.settle

end Sys2Proof.Machine
end

