-- ==== Sys2Proof/Machine/Packet.lean ====
section
/-!
DEFINITION. Command packets as received (R407, R408, Table 16.2): the fields of the header, and the checks that concern
the packet alone.
-/
namespace Sys2Proof.Machine

def pktFlags (p : List Byte) : Nat := u8 p 3
def pktOpcode (p : List Byte) : Nat := u16 p 4
/-- LEN in words, and the bytes of the packet. -/
def pktLen (p : List Byte) : Nat := u16 p 6
def pktBytes (p : List Byte) : Nat := 16 + 4 * pktLen p
def pktTag (p : List Byte) : Nat := u32 p 8
def pktPayload (p : List Byte) : List Byte := slice p 16 (4 * pktLen p)

/-- Check 2. -/
def pktMagicOk (p : List Byte) : Bool := u16 p 0 == 0x5544 && u8 p 2 == 1
/-- Check 4: the CRC of header and payload with the CRC bytes zero. -/
def pktCrcOk (p : List Byte) : Bool :=
  crc32c (p.take 12 ++ zeros 4 ++ slice p 16 (4 * pktLen p)) == u32 p 12

/-- The command of a packet. -/
def pktCtx (src : CmdSource) (issuer fetch : Nat) (p : List Byte) : CmdCtx :=
  ⟨src, issuer, pktOpcode p, pktFlags p, pktTag p, fetch, pktPayload p⟩

/-- A command waits to be executed. -/
def State.fetchedCmd (s : State) (c : CmdCtx) : State := { s with mg := { s.mg with fetched := s.mg.fetched ++ [c] } }

end Sys2Proof.Machine
end

