-- ==== Sys2Proof/Machine/Mgmt.lean ====
section
/-!
DEFINITION. The transports of command packets and their header checks (R407 to R419, Tables 16.2, 16.3, 16.8 and 20.4), the
ring pairs (R412), and the management port's ARP and ICMP.
-/
namespace Sys2Proof.Machine

/-! ## Header checks (Table 16.2) -/

/-- Who may issue an opcode: on a ring 1 PF0 only, 2 any function; on the management port; on the serial slave port. None for
an opcode that is not assigned. DEDUCED, log entry 59. -/
def opIssuers (op : Nat) : Option (Nat × Bool × Bool) :=
  if op = 1 ∨ op = 2 ∨ op = 0x0103 ∨ op = 0x0301 ∨ op = 0x0400 ∨ op = 0x0402 then some (2, true, true)
  else if (0x0010 ≤ op ∧ op ≤ 0x0012) ∨ (0x0020 ≤ op ∧ op ≤ 0x0023) ∨ op = 0x0030 ∨ (0x0100 ≤ op ∧ op ≤ 0x0102)
      ∨ (0x0500 ≤ op ∧ op ≤ 0x0503) ∨ op = 0x1011 ∨ op = 0x1012 ∨ op = 0x1401 ∨ op = 0x1410 ∨ op = 0x1411 ∨ op = 0x1420
      ∨ (0x2000 ≤ op ∧ op ≤ 0x2003) ∨ op = 0x2010 ∨ op = 0x2011 then some (1, true, false)
  else if (0x0210 ≤ op ∧ op ≤ 0x0212) ∨ op = 0x1000 ∨ op = 0x1001 then some (2, false, false)
  else if op = 0x0300 then some (1, true, true)
  else if op = 0x0401 ∨ op = 0x1013 ∨ op = 0x1400 ∨ op = 0x1402 ∨ op = 0x1421 then some (2, true, false)
  else if op = 0x1010 then some (1, false, false)
  else none

/-- Recovery mode of R514. -/
def State.recovery (s : State) : Bool := s.fld Fld.GLOBAL_BOOT_FAIL == 6 && s.fld Fld.STEWARD_STAT_STATE == 0

/-- Opcodes that the hub responder serves in recovery mode, and for whom (R514). -/
def recoveryOp (op issuer : Nat) : Bool := (op == 1 || op == 2 || op == 0x20 || op == 0x21) && (issuer == 0 || issuer == 0x10)

/-- Check 9. -/
def State.busyCheck (s : State) (op issuer : Nat) : Nat :=
  if stewardOp op ∧ !s.stewardRun ∧ !(s.recovery ∧ recoveryOp op issuer) then 0x25 else 0

/-- Checks 6 to 9: 0, or the status of the first one that fails. DEDUCED, log entry 59. -/
def State.hdrChecks (s : State) (src : CmdSource) (issuer : Nat) (p : List Byte) : Nat :=
  let op := pktOpcode p
  if pktFlags p / 8 ≠ 0 ∨ bitAt (pktFlags p) 1 then 0x21
  else match opIssuers op with
    | none => 0x20
    | some (r, m, z) =>
      match src with
      | .pair _ => if r = 0 then 0x20 else if r = 1 ∧ issuer ≠ 0 then 0x24 else s.busyCheck op issuer
      | .port _ _ => if m then s.busyCheck op issuer else 0x20
      | .ssp => if z then s.busyCheck op issuer else 0x20
      | .fabric _ => 0x20

/-- A packet past checks 1 to 5: it is answered, or waits to be executed. MGMT_CNT_HDR counts what a ring is answered for
checks 2 to 7. -/
def State.passHdr (s : State) (src : CmdSource) (issuer : Nat) (p : List Byte) : State :=
  let c := pktCtx src issuer s.stamp p
  let st := s.hdrChecks src issuer p
  if st = 0 then s.fetchedCmd c
  else
    let t := s.reply c st
    match src with
    | .pair _ => if st = 0x20 ∨ st = 0x21 then t.bump .MGMT_CNT_HDR else t
    | _ => t

/-! ## Ring pairs -/

/-- A ring pair whose turn it is: enabled, with an entry before TAIL (R415). -/
def State.pairReady (s : State) (p : Nat) : Bool :=
  s.fld Fld.CMD_PAIR_CFG_EN p == 1 && decide (0 < s.qOcc (s.fld Fld.CMD_PAIR_CFG_ORDER_Q p))

def State.nextPair (s : State) : Option Nat :=
  ((List.range 256).map (fun i => (s.mg.rrNext + i) % 256)).find? s.pairReady

/-- SLOT_ORDERs fetched and not yet decided; the throttle of R41 admits as many as 16 grains decide at 256 per beat. DEDUCED, log entry 59. -/
def State.ordersWaiting (s : State) : Nat := (s.mg.fetched.filter (fun c => c.opcode == 0x1000)).length

/-- What check 2 or 3 finds on a ring, and the ring entries that the packet is consumed with. -/
def State.ringHead (s : State) (q : Nat) (pkt : List Byte) : Nat × Nat :=
  let n := ceilDiv (pktBytes pkt) 32
  if !pktMagicOk pkt then (0x21, 1)
  else if pktBytes pkt > 65536 ∨ s.qDepth q / 2 < n then (0x22, 1)
  else (0, n)

/-- One turn of the interpreter (R413, R415) on pair `p`, with the bytes that stand in its host ring from HEAD on. DEDUCED, log entry 59. -/
def State.fetchPair (s0 : State) (p : Nat) (ring : List Byte) : State :=
  let s : State := { s0 with mg := { s0.mg with rrNext := (p + 1) % 256 } }
  let q := s.fld Fld.CMD_PAIR_CFG_ORDER_Q p
  let r := s.fld Fld.CMD_PAIR_CFG_REPLY_Q p
  let hd := s.ringHead q ring
  let hold := maxRep (pktOpcode ring)
  if s.qOcc q < hd.2 ∨ (pktOpcode ring = 0x1000 ∧ 4 ≤ s.ordersWaiting) then s
  else if s.qFree r < hold ∨ s.qState r ≠ 1 then s.setFld Fld.CMD_PAIR_STAT_STALL p 1
  else
    let s1 := (((s.setFld Fld.CMD_PAIR_STAT_STALL p 0).setReg .Q_HEAD q ((s.reg .Q_HEAD q + hd.2) % (2 * s.qDepth q))).setReg .Q_HELD r
      (s.reg .Q_HELD r + hold)).bump .CMD_PAIR_CNT p
    let s2 : State := { s1 with mg := { s1.mg with held := s1.mg.held ++ [(p, pktTag ring, hold)] } }
    let c := pktCtx (.pair p) (s.qOwner q) s.stamp ring
    let bad := if hd.1 ≠ 0 then hd.1 else if !pktCrcOk ring then 0x23 else if bitAt (pktFlags ring) 2 then 0x21 else 0
    if bad ≠ 0 then (s2.reply c bad).bump .MGMT_CNT_HDR
    else s2.passHdr (.pair p) (s.qOwner q) ring

/-- CMD_FETCH (R415): no ring is served in M-HOLD (R485). -/
def execCmdFetch (ring : List Byte) (s : State) : Host.Outcome State Fault Refusal :=
  .next (match s.nextPair with
    | none => s
    | some p => if s.fld Fld.POWER_STAT_STATE = 3 then s else s.fetchPair p ring)

/-- The condition on which a write of EN as 1 is accepted (R412). -/
def State.pairOk (s : State) (p : Nat) : Bool :=
  let q := s.fld Fld.CMD_PAIR_CFG_ORDER_Q p
  let r := s.fld Fld.CMD_PAIR_CFG_REPLY_Q p
  s.qType q == 2 && s.qType r == 3 && s.qState q == 1 && s.qState r == 1 && s.qOwner q == s.qOwner r && decide (s.qOwner q ≤ 15)
    && (List.range 256).all (fun o => o == p || s.fld Fld.CMD_PAIR_CFG_EN o == 0
        || !([s.fld Fld.CMD_PAIR_CFG_ORDER_Q o, s.fld Fld.CMD_PAIR_CFG_REPLY_Q o].any (fun x => x == q || x == r)))

/-- CMD_PAIR_ENABLE (R412). DEDUCED, log entry 60. -/
def State.pairEnable (s : State) (p : Nat) (src : Source) : State :=
  if s.pairOk p then s.setFld Fld.CMD_PAIR_CFG_EN p 1 else s.werrReg .CMD_PAIR_CFG p src

def execCmdPairEnable (pair : Fin 256) (src : Source) (s : State) : Host.Outcome State Fault Refusal := .next (s.busGate (RegId.offset .CMD_PAIR_CFG pair.val) src (s.pairEnable pair.val src))

/-- CMD_PAIR_DISABLE (R436, R437). -/
def execCmdPairDisable (pair : Fin 256) (src : Source) (s : State) : Host.Outcome State Fault Refusal := .next (s.busGate (RegId.offset .CMD_PAIR_CFG pair.val) src (s.disablePair pair.val))

/-! ## The management port (R417, R418) -/

/-- The trailer of a packet verifies (R418). DEDUCED, log entry 59. -/
def State.trailerOk (s : State) (b : List Byte) : Bool :=
  let n := b.length - 32
  s.fld Fld.KEEPER_STAT_MGMT_KEY == 1 && decide (s.mg.portCounter < u64 b n)
    && slice b (n + 8) 24 == beBytes 24 (Config.hmac384 s.mgmtKey (b.take n ++ slice b n 8))

/-- A COUNTER is accepted, and recorded every 65,536 acceptances. -/
def State.counterTaken (s : State) (v : Nat) : State :=
  let n := s.mg.portAccepts + 1
  { s with mg := { s.mg with
      portCounter := v
      nvCounter := if n = 65536 then v else s.mg.nvCounter
      portAccepts := if n = 65536 then 0 else n } }

/-- The packet checks of the management port, in order. DEDUCED, log entry 59. -/
def State.portPacket (s : State) (d : Datagram) : State :=
  let b := d.payload
  if b.length < 16 then s.bump .MGMT_CNT_RUNT
  else if !pktMagicOk b ∨ pktBytes b > 65536 ∨ pktBytes b + 32 ≠ b.length ∨ !pktCrcOk b then s.bump .MGMT_CNT_HDR
  else if !bitAt (pktFlags b) 2 ∨ !s.trailerOk b then s.bump .MGMT_CNT_AUTH
  else (s.counterTaken (u64 b (b.length - 32))).passHdr (.port d.srcIp d.srcPort) 0x10 b

/-- MGMT_DATAGRAM (R417). PRESUMED, log entry 32. -/
def State.datagram (s : State) (d : Datagram) : State :=
  if !s.portOn ∨ d.dstIp ≠ s.reg .MGMT_IP ∨ d.dstPort ≠ s.fld Fld.MGMT_CFG_UDP then s
  else
    let s1 := s.bump .MGMT_CNT_RX
    let sec := s.tm.ns / 10 ^ 9
    let used := if s.mg.policeSec = sec then s.mg.policed else 0
    if d.tagged ∨ d.frag ∨ (if s.fld Fld.MGMT_CFG_JUMBO = 1 then 8972 else 1472) < d.payload.length then s1.bump .MGMT_CNT_HDR
    else if 10000 ≤ used then s1.bump .MGMT_CNT_POLICE
    else
      let s2 : State := { s1 with mg := { s1.mg with policed := used + 1, policeSec := sec } }
      s2.portPacket d

def execMgmtDatagram (d : Datagram) (s : State) : Host.Outcome State Fault Refusal := .next (s.datagram d)

/-- A frame out of the management port. PRESUMED, log entry 32. -/
def State.portFrame (s : State) (dst etype : Nat) (body : List Byte) : State :=
  { s with wire := s.wire ++ [⟨28, s.tm.ns, beBytes 6 dst ++ beBytes 6 (macOf (s.reg .MGMT_MAC_LO) (s.reg .MGMT_MAC_HI)) ++ beBytes 2 etype ++ body, none, []⟩] }

/-- ARP_REQUEST (R417): the answer names the port's MAC. PRESUMED, log entry 32. -/
def execArpRequest (senderMac senderIp targetIp : Nat) (s : State) : Host.Outcome State Fault Refusal :=
  .next (if s.portOn ∧ targetIp = s.reg .MGMT_IP then
      s.portFrame senderMac 0x0806 (beBytes 2 1 ++ beBytes 2 0x0800 ++ leBytes 1 6 ++ leBytes 1 4 ++ beBytes 2 2
        ++ beBytes 6 (macOf (s.reg .MGMT_MAC_LO) (s.reg .MGMT_MAC_HI)) ++ beBytes 4 (s.reg .MGMT_IP) ++ beBytes 6 senderMac ++ beBytes 4 senderIp)
    else s)

/-- The Internet checksum of a byte string. PRESUMED, log entry 32. -/
def inetSum (p : List Byte) : Nat :=
  let t := ((List.range (ceilDiv p.length 2)).map (fun i => beAt (p ++ zeros 1) (2 * i) 2)).sum
  let u := t % 65536 + t / 65536
  65535 - (u % 65536 + u / 65536)

/-- ICMP_ECHO (R417): the echo's identifier, sequence number and data return. TTL and identification of the answer are free
values. PRESUMED, log entry 32. -/
def execIcmpEcho (srcMac srcIp dstIp : Nat) (body : List Byte) (s : State) : Host.Outcome State Fault Refusal :=
  .next (if s.portOn ∧ dstIp = s.reg .MGMT_IP then
      let c := zeros 4 ++ body
      let icmp := zeros 2 ++ beBytes 2 (inetSum c) ++ body
      let h := fun (sum : Nat) => beBytes 2 0x4500 ++ beBytes 2 (20 + icmp.length) ++ beBytes 2 (s.pick 65536) ++ zeros 2
        ++ beBytes 1 (s.used.pick 256) ++ leBytes 1 1 ++ beBytes 2 sum ++ beBytes 4 (s.reg .MGMT_IP) ++ beBytes 4 srcIp
      s.used.used.portFrame srcMac 0x0800 (h (inetSum (h 0)) ++ icmp)
    else s)

/-! ## The serial slave port (R419, R449) -/

/-- PACKET_WRITE: checks 1 to 5, then the header checks. DEDUCED, log entry 59. -/
def execPacketWrite (packet : List Byte) (s : State) : Host.Outcome State Fault Refusal :=
  .next (if packet.length < 16 ∨ !pktMagicOk packet ∨ pktBytes packet > 65536 ∨ pktBytes packet ≠ packet.length ∨ !pktCrcOk packet
        ∨ bitAt (pktFlags packet) 2 then s
    else s.passHdr .ssp 0x20 packet)

/-- REPLY_READ: L and the oldest waiting reply. -/
def execReplyRead (s : State) : Host.Outcome State Fault Refusal :=
  .next (match s.mg.ssp with
    | [] => { s with reads := s.reads ++ [zeros 4] }
    | r :: t => { s with reads := s.reads ++ [leBytes 4 r.length ++ r], mg := { s.mg with ssp := t } })

end Sys2Proof.Machine
end

