-- ==== Sys2Proof/Machine/Steward.lean ====
section
/-!
DEFINITION. Module information, events and telemetry, and the steward: its restarts and its firmware banks (R420, R422,
R427 to R436).
-/
namespace Sys2Proof.Machine

/-! ## Commands of class L, and those served in recovery mode -/

/-- A first class L command with this opcode still runs (R422). -/
def State.classLRuns (s : State) (c : CmdCtx) : Bool :=
  s.mg.journal.any (fun j => j.ctx.opcode == c.opcode && j.ctx != c) || s.kp.checks.any (fun d => d.opcode == c.opcode && d != c)

/-- A class L command: BUSY behind another of its opcode. -/
def State.classL (s : State) (c : CmdCtx) (t : State) : State := if s.classLRuns c then s.reply c 0x25 else t

/-- A command that the hub responder serves in recovery mode too. -/
def State.servedBoot (s : State) (c : CmdCtx) (t : State) : State :=
  if !s.stewardRun && !(s.recovery && recoveryOp c.opcode c.issuer) then s.reply c 0x25 else if s.stewardTurn c then t else s

/-- Payload length and, in the padding, zero bytes (R539): 0, or the status to answer. DEDUCED, log entry 17. -/
def padCheck (p : List Byte) (len used : Nat) : Nat :=
  if p.length ≠ len then 0x22 else if allZero (p.drop used) then 0 else 0x21

/-- NOP. -/
def execNop (c : CmdCtx) (s : State) : Host.Outcome State Fault Refusal :=
  .next (s.servedBoot c (s.reply c (padCheck c.payload 0 0)))

def State.bank (s : State) (n : Nat) : FwBank := s.mg.banks.getD n {}
def State.setBank (s : State) (n : Nat) (b : FwBank) : State := { s with mg := { s.mg with banks := setAt s.mg.banks n b } }
def State.runBank (s : State) : Nat := s.fld Fld.STEWARD_STAT_BANK
/-- The bank that a host writes: the inactive one, bank A in recovery mode (R514). -/
def State.hostBank (s : State) : Nat := if s.recovery then 0 else 1 - s.runBank

/-- The reply of MODULE_INFO after its status word. -/
def State.infoBytes (s : State) : List Byte :=
  leBytes 8 s.kp.serial ++ leBytes 2 (s.fld Fld.GLOBAL_ID_PART) ++ leBytes 1 (s.fld Fld.GLOBAL_ID_STEPPING)
    ++ leBytes 1 s.lifecycle ++ leBytes 2 (if s.fld Fld.FAB_MODNUM_VALID = 1 then s.fld Fld.FAB_MODNUM_NUMBER else 0x3FF)
    ++ leBytes 1 s.runBank ++ leBytes 1 ((s.bank 0).state + 16 * (s.bank 1).state) ++ leBytes 4 (s.bank 0).version
    ++ leBytes 4 (s.bank 1).version

/-- MODULE_INFO. -/
def execModuleInfo (c : CmdCtx) (s : State) : Host.Outcome State Fault Refusal :=
  .next (s.servedBoot c (s.reply c (padCheck c.payload 0 0) s.infoBytes))

/-! ## Events (R435, R436) -/

/-- Subscribers that an issuer's new subscription replaces: the pair's own, or the port's. -/
def sameSub (src : CmdSource) (b : Subscriber) : Bool :=
  match src, b.src with
  | .port _ _, .port _ _ => true
  | a, b => a == b

def State.eventSubscribe (s : State) (c : CmdCtx) : State :=
  let p := c.payload
  if p.length ≠ 4 then s.reply c 0x22
  else if u16 p 2 ≠ 0 ∨ 3 < u8 p 0 ∨ 1 < u8 p 1 then s.reply c 0x21
  else
    let lost := ((s.mg.subs.find? (fun b => b.src == c.src)).map (fun b => b.lost)).getD 0
    let keep := s.mg.subs.filter (fun b => !sameSub c.src b)
    let s1 : State := { s with mg := { s.mg with subs := if u8 p 1 = 1 then keep ++ [⟨c.src, u8 p 0, lost⟩] else keep } }
    let s2 := match c.src with | .pair q => s1.setFld Fld.CMD_PAIR_STAT_SUBSCRIBED q (u8 p 1) | _ => s1
    s2.reply c 0

/-- EVENT_SUBSCRIBE (R436). -/
def execEventSubscribe (c : CmdCtx) (s : State) : Host.Outcome State Fault Refusal := .next (s.served c (s.eventSubscribe c))

def State.eventRead (s : State) (c : CmdCtx) : State :=
  let p := c.payload
  if padCheck p 8 5 ≠ 0 then s.reply c (padCheck p 8 5)
  else if u8 p 4 = 0 ∨ 32 < u8 p 4 then s.reply c 0x21
  else
    let l := s.mg.log.filter (fun e => decide ((e.seq + 2 ^ 32 - u32 p 0) % 2 ^ 32 < 2 ^ 31))
    s.reply c 0 ((l.take (u8 p 4)).flatMap (fun e => e.bytes 0))

/-- EVENT_READ (R435). -/
def execEventRead (c : CmdCtx) (s : State) : Host.Outcome State Fault Refusal := .next (s.served c (s.eventRead c))

/-! ## Telemetry (R433, R434, R534) -/

/-- A sensor of Table 16.5. DEDUCED, log entry 61. -/
def sensorExists (n : Nat) : Bool :=
  n ≤ 5 || (8 ≤ n && n ≤ 0xC) || (0x10 ≤ n && n ≤ 0x13) || n == 0x18 || (0x20 ≤ n && n ≤ 0x2A)

/-- The domain a sensor belongs to (Table 19.1), none for those on the standby supply. DEDUCED, log entry 61. -/
def sensorDomain (n : Nat) : Option Nat :=
  if n = 8 then some 0 else if 9 ≤ n ∧ n ≤ 0xC then some (n - 7)
  else if 0x10 ≤ n ∧ n ≤ 0x13 then some 6
  else if 0x20 ≤ n ∧ n ≤ 0x29 then some (n - 0x20) else none

/-- Flags [1] and [2] of a value (R434, R534, Tables 22.2 and 22.3). DEDUCED, log entry 61. -/
def sensorFlags (n : Nat) (v : Int) : Bool × Bool :=
  if n ≤ 1 then (decide (v < 36000 ∨ 75000 < v), decide (v < -80000 ∨ 80000 < v))
  else if 8 ≤ n ∧ n ≤ 0xC then (decide (95000 < v), decide (110000 ≤ v))
  else if 0x10 ≤ n ∧ n ≤ 0x13 then (decide (95000 < v), decide (105000 ≤ v))
  else if n = 0x18 then (decide (v < 5000 ∨ 45000 < v), decide (60000 ≤ v))
  else (false, false)

def State.domOn (s : State) (d : Nat) : Bool := bitAt (s.reg .POWER_DOM) d

/-- The sample of one sensor; 0 with VALID 0 while its domain is off. -/
def State.sampleOf (s : State) (n : Nat) (v : Int) : Sensor :=
  if (match sensorDomain n with | some d => s.domOn d | none => true) then
    ⟨true, (sensorFlags n v).1, (sensorFlags n v).2, v⟩
  else ⟨false, false, false, 0⟩

/-- One sample is taken; crossing into a flag's state raises its event. -/
def State.takeSample (s : State) (x : Sample) : State :=
  let n := x.sensor.val
  if !sensorExists n then s
  else
    let old := s.mg.sensors.getD n {}
    let new := s.sampleOf n x.value
    let s1 : State := { s with mg := { s.mg with sensors := setAt s.mg.sensors n new } }
    let s2 := if new.outRec ∧ !old.outRec then s1.event 0x0040 1 n (enc 32 new.value) else s1
    if new.outAbs ∧ !old.outAbs then s2.event 0x0041 2 n (enc 32 new.value) else s2

/-- TELEMETRY_SAMPLE (R433): every 8 beats. DEDUCED, log entry 61. -/
def State.telemetry (s : State) (l : List Sample) : State :=
  if s.gridRun ∧ s.beat % 8 ≠ 0 then s
  else
    let t := l.foldl State.takeSample s
    { t with mg := { t.mg with sampleStamp := s.stamp } }

def execTelemetrySample (samples : List Sample) (s : State) : Host.Outcome State Fault Refusal := .next (s.telemetry samples)

/-- A sensor's entry (R434). DEDUCED, log entry 61. -/
def sensorEntry (n : Nat) (x : Sensor) : List Byte :=
  leBytes 1 n ++ leBytes 1 (b2n x.valid + 2 * b2n x.outRec + 4 * b2n x.outAbs) ++ zeros 2 ++ leBytes 4 (enc 32 x.value)

/-- TELEMETRY_READ (R433): the sensors that the mask selects, ascending. -/
def execTelemetryRead (c : CmdCtx) (s : State) : Host.Outcome State Fault Refusal :=
  .next (s.served c (
    if c.payload.length ≠ 8 then s.reply c 0x22
    else s.reply c 0 (leBytes 4 s.mg.sampleStamp
      ++ ((maskList (u64 c.payload 0) 64).filter sensorExists).flatMap (fun n => sensorEntry n (s.mg.sensors.getD n {})))))

/-! ## Restarts (R427 to R429) -/

/-- The steward restarts: commands that it has not taken are answered BUSY, and those that wait for a signature check have not
taken effect (R429). DEDUCED, log entry 60. -/
def State.restart (s : State) (cause unit : Nat) : State :=
  let r := min (s.fld Fld.STEWARD_STAT_RESTARTS + 1) 65535
  let s1 := (((s.setFld Fld.STEWARD_STAT_STATE 0 2).setFld Fld.STEWARD_STAT_RESTARTS 0 r).setFld Fld.STEWARD_CAUSE_CAUSE 0 cause).event
    0x0030 1 unit cause
  let s2 := (s1.mg.fetched.filter (fun c => stewardOp c.opcode)).foldl (fun (t : State) (c : CmdCtx) => t.reply c 0x25) s1
  ({ s2 with
    kp := { s2.kp with checks := [] }
    mg := { s2.mg with journal := s2.mg.journal ++ s2.kp.checks.map (fun c => (⟨c, false⟩ : Journal)) } } : State).keeperBusy

/-- STEWARD_RESTART: the command has taken effect, and its reply follows the restart. -/
def execStewardRestart (c : CmdCtx) (s : State) : Host.Outcome State Fault Refusal :=
  .next (s.served c (
    if c.payload ≠ [] then s.reply c 0x22 else (s.keep c true).restart 1 (s.fld Fld.STEWARD_STAT_PAIR)))

/-- STEWARD_FAILOVER (R427): a lockstep mismatch, or a missed heartbeat. The standby becomes active unless the steward is
DEGRADED; `selfOk` is the failed pair's self-test. DEDUCED, log entry 60. -/
def State.failover (s : State) (heartbeat selfOk : Bool) : State :=
  if !s.stewardRun then s
  else
    let p := s.fld Fld.STEWARD_STAT_PAIR
    let cause := if heartbeat then 4 else 3
    if s.fld Fld.STEWARD_STAT_DEGRADED = 1 then s.restart cause p
    else
      let s1 := (s.setFld Fld.STEWARD_STAT_PAIR 0 (1 - p)).restart cause p
      if selfOk then s1 else (s1.setFld Fld.STEWARD_STAT_DEGRADED 0 1).event 0x0032 2 p

def execStewardFailover (heartbeat selfOk : Bool) (s : State) : Host.Outcome State Fault Refusal := .next (s.failover heartbeat selfOk)

/-- The hub's hardware still works on a journalled command, or its reply is ready and waits: its reply comes from there. DEDUCED, log entry 60. -/
def State.repliesLater (s : State) (c : CmdCtx) : Bool :=
  s.pw.entry.any (fun e => e.ctx == some c) || s.pw.exit.any (fun e => e.ctx == some c) || s.pw.step.any (fun e => e.ctx == c)
    || s.mg.stage.any (fun b => b.ctx == c) || s.lr.load.any (fun l => l.ctx == some c) || s.lr.pendReply.any (fun r => r.1 == c)
    || s.kp.lifeCtx.any (fun r => r.1 == c) || s.kp.sess.any (fun x => x.ctx == some c) || s.mg.late.any (fun r => r.1 == c)
    || (s.mg.activate.isSome && c.opcode == 0x0022)

/-- What a journalled command receives after a restart (R429): its reply when it had taken effect, BUSY otherwise. A flow set up
that is still PENDING is answered at its tick. DEDUCED, log entry 60. -/
def State.replayOne (s : State) (j : Journal) : State :=
  if !j.done then s.reply j.ctx 0x25
  else if s.repliesLater j.ctx then s
  else if j.ctx.opcode = 0x0210 then
    (if (s.flow (u32 j.ctx.payload 0)).state = 1 then s.reply j.ctx 0 else s)
  else if j.ctx.opcode = 0x0022 then s.reply j.ctx 0 (leBytes 4 (s.bank s.runBank).version)
  else s.reply j.ctx 0

/-- STEWARD_RESTART_DONE (R427, R429): RUN with the journal replayed, or HALTED with a FATAL event, whose code the spec does not
give. DEDUCED, log entry 60. -/
def State.restartDone (s : State) (ok : Bool) : State :=
  if s.fld Fld.STEWARD_STAT_STATE ≠ 2 then s
  else if !ok then (s.used.setFld Fld.STEWARD_STAT_STATE 0 3).event (s.pick 65536) 3
  else
    let s1 := s.setFld Fld.STEWARD_STAT_STATE 0 1
    let s2 := s1.mg.journal.foldl State.replayOne { s1 with fab := { s1.fab with asked := [] } }
    s2.mg.late.foldl (fun (t : State) (x : CmdCtx × Nat × List Byte) => t.replyWord x.1 x.2.1 x.2.2) { s2 with mg := { s2.mg with late := [] } }

def execStewardRestartDone (ok : Bool) (s : State) : Host.Outcome State Fault Refusal := .next (s.restartDone ok)

/-! ## Firmware (R430 to R432) -/

def State.fwWrite (s : State) (c : CmdCtx) : State :=
  let p := c.payload
  let off := u32 p 0; let len := u32 p 4
  if p.length < 8 ∨ p.length ≠ 8 + ceilDiv len 4 * 4 then s.reply c 0x22
  else if off % 4096 ≠ 0 ∨ len = 0 ∨ 4096 < len ∨ 2 ^ 24 < off + len ∨ !allZero (p.drop (8 + len)) then s.reply c 0x21
  else
    let b := s.bank s.hostBank
    (s.setBank s.hostBank { b with state := 1, data := writeBytes b.data off (slice p 8 len) }).reply c 0

/-- FW_WRITE (R431): the inactive bank is WRITING. -/
def execFwWrite (c : CmdCtx) (s : State) : Host.Outcome State Fault Refusal := .next (s.servedBoot c (s.classL c (s.fwWrite c)))

/-- The end of a bank's verification. In recovery mode bank A becomes GOOD (R514). -/
def State.fwVerified (s : State) (c : CmdCtx) : State :=
  let n := s.hostBank
  let b := s.bank n
  let v := s.verifyBank b.data
  if v.1 then
    (v.2.setBank n { b with state := if s.recovery then 4 else 2, version := Config.fwVersion b.data % 2 ^ 32 }).reply c 0
      (leBytes 4 (Config.fwVersion b.data))
  else v.2.reply c 0x42

/-- FW_VERIFY (R431) of a bank that is WRITING: its signature check starts. DEDUCED, log entry 60. -/
def execFwVerify (c : CmdCtx) (s : State) : Host.Outcome State Fault Refusal :=
  .next (s.servedBoot c (s.classL c (
    if c.payload ≠ [] then s.reply c 0x22
    else if (s.bank s.hostBank).state ≠ 1 then s.reply c 0x24
    else s.checkStart c)))

def State.fwActivate (s : State) (c : CmdCtx) : State :=
  let n := 1 - s.runBank
  if c.payload ≠ [] then s.reply c 0x22
  else if (s.bank n).state ≠ 2 ∨ (s.bank s.runBank).state ≠ 4 then s.reply c 0x24
  else
    let t := s.keep c true
    { t with mg := { t.mg with activate := some (n, (s.absBeat / 1280 + 1) * 1280 + 1) } }

/-- FW_ACTIVATE (R431): arms the restart one beat after the next epoch boundary. -/
def execFwActivate (c : CmdCtx) (s : State) : Host.Outcome State Fault Refusal :=
  .next (s.served c (s.classL c (s.fwActivate c)))

/-- FIRMWARE_SWITCH (R431): both pairs restart into the bank, which becomes TRIAL. -/
def State.firmwareSwitch (s : State) : State :=
  match s.mg.activate with
  | none => s
  | some (n, at1) =>
    if s.gridRun ∧ s.absBeat < at1 then s
    else
      let s1 := s.setBank n { s.bank n with state := 3 }
      let s2 : State := { s1 with mg := { s1.mg with activate := none, trialEpochs := 0 } }
      ((s2.setFld Fld.STEWARD_STAT_BANK 0 n).setFld Fld.STEWARD_STAT_TRIAL 0 1).restart 2 (s.fld Fld.STEWARD_STAT_PAIR)

def execFirmwareSwitch (s : State) : Host.Outcome State Fault Refusal := .next s.firmwareSwitch

/-- FW_COMMIT (R431). -/
def execFwCommit (c : CmdCtx) (s : State) : Host.Outcome State Fault Refusal :=
  .next (s.served c (
    if c.payload ≠ [] then s.reply c 0x22
    else if (s.bank s.runBank).state ≠ 3 then s.reply c 0x24
    else ((s.setBank s.runBank { s.bank s.runBank with state := 4 }).setFld Fld.STEWARD_STAT_TRIAL 0 0).reply c 0))

/-- The running bank is TRIAL, and has not been committed within 64 epochs or restarts for another cause than its own start. -/
def State.rollbackDue (s : State) : Bool :=
  (s.bank s.runBank).state == 3 && (decide (64 ≤ s.mg.trialEpochs)
    || (s.fld Fld.STEWARD_STAT_STATE == 2 && s.fld Fld.STEWARD_CAUSE_CAUSE != 2))

/-- FW_ROLLBACK (R432). -/
def State.rollback (s : State) : State :=
  if s.rollbackDue then
    let n := s.runBank
    let s1 := ((s.setBank n { s.bank n with state := 5 }).setFld Fld.STEWARD_STAT_BANK 0 (1 - n)).setFld Fld.STEWARD_STAT_TRIAL 0 0
    (s1.restart 5 (s.fld Fld.STEWARD_STAT_PAIR)).event 0x0031 1 n (s.bank n).version
  else s

def execFwRollback (s : State) : Host.Outcome State Fault Refusal := .next s.rollback

/-- At an epoch boundary: a TRIAL bank's epochs count. -/
def State.trialEpoch (s : State) : State :=
  if (s.bank s.runBank).state = 3 then { s with mg := { s.mg with trialEpochs := s.mg.trialEpochs + 1 } } else s

end Sys2Proof.Machine
end

