-- ==== Sys2Proof/Machine/Logic.lean ====
section
/-!
DEFINITION. The logic regions: bitstreams, the loader chain, start and failure of a load, the serial slave port's part of it,
and the scrubber (R438 to R457).
-/
namespace Sys2Proof.Machine

/-! ## Regions (Table 17.1) -/

def lrFrames (p : Nat) : Nat := if p = 0 then 16384 else 2048
def lrKind (p : Nat) : Nat := if p = 0 then 0 else 1
/-- Cave address of a region's golden slot. -/
def goldenAddr (p : Nat) : Nat := if p = 0 then 0x14000000 else 0x15000000 + (p - 1) * 0x200000

def State.region (s : State) (p : Nat) : Region := s.lr.regions.getD p {}
def State.setRegion (s : State) (p : Nat) (r : Region) : State := { s with lr := { s.lr with regions := setAt s.lr.regions p r } }
def State.lrState (s : State) (p : Nat) : Nat := s.fld Fld.LR_STAT_STATE p

/-- The commands that run in region `p` of a die are lost with it (R440, R452). -/
def State.lrLose (s : State) (p : Nat) : State :=
  { s with tchans := s.tchans.map (fun (e : Nat × TileChan) =>
      if e.1 % 8 = 4 ∧ 1 + e.1 / 128 = p then (e.1, { e.2 with active := e.2.active.map (fun (j : TileJob) => { j with lost := true }) }) else e) }

/-- A region is cleared and its outputs isolated (STATE 0 CLEARED). -/
def State.lrClear (s : State) (p : Nat) : State :=
  let t := ((s.lrLose p).setRegion p { s.region p with data := [] }).setFld Fld.LR_STAT_STATE p 0
  ((t.setReg .LR_ID p 0).setReg .LR_VER p 0).setReg .LR_CAP p 0

/-- A region shows what its section declared. -/
def State.lrShow (s : State) (p : Nat) : State :=
  let r := s.region p
  ((s.setReg .LR_ID p r.id).setReg .LR_VER p r.ver).setReg .LR_CAP p (r.cap + 256 * r.rate)

/-- A region that has a golden copy is reloaded from it and starts with its stored STARTUP (R447, R453). -/
def State.lrReload (s : State) (p : Nat) : State :=
  if s.fld Fld.LR_STAT_GOLDEN p = 1 ∧ s.lrState p = 0 then
    let d := s.caveRead (goldenAddr p) (s.region p).len
    ((s.setRegion p { s.region p with data := d }).lrShow p).setFld Fld.LR_STAT_STATE p 2
  else s

/-! ## Section and stream headers (Tables 17.2 and 17.3) -/

/-- A field of the stream header that R443 judges before any section. -/
def lrHeaderOk (b : List Byte) : Bool :=
  u32 b 0 == 0x01524C41 && u16 b 4 == 1 && decide (1 ≤ u8 b 6 ∧ u8 b 6 ≤ 5) && u8 b 7 == 0 && allZero (slice b 24 104)

/-- STARTUP names each step once. -/
def startupOk (v : Nat) : Bool :=
  let l := [v % 4, v / 4 % 4, v / 16 % 4, v / 64 % 4]
  [0, 1, 2, 3].all (fun k => l.contains k)

/-- The fields of a section header are in range; PART, POS and the position's KIND are judged by the loader chain. -/
def sectionOk (h : List Byte) : Bool :=
  let k := u8 h 1
  let len := u32 h 8
  decide (k ≤ 1) && startupOk (u8 h 4) && len % 1024 == 0 && decide (1024 ≤ len)
    && decide (len ≤ lrFrames (u8 h 0) * 1024)
    && (if k = 0 then u8 h 6 == 0 && u8 h 7 == 0
          && (List.range 8).all (fun m => if bitAt (u8 h 5) m then decide (1 ≤ u8 h (16 + m) ∧ u8 h (16 + m) ≤ 64) else u8 h (16 + m) == 0)
        else u8 h 5 == 0 && decide (1 ≤ u8 h 6 ∧ u8 h 6 ≤ 64) && allZero (slice h 16 8))
    && allZero (slice h 24 8)

/-! ## Failure and end of a load (R448, R451, R452) -/

/-- The reply of LR_LOAD (R452). -/
def State.lrReply (s : State) (c : CmdCtx) (status failPos : Nat) (used : Nat) : State :=
  let run := (List.range 5).foldl (fun a p => a + b2n (s.lrState p == 3) * 2 ^ p) 0
  s.lateReply c status (leBytes 1 failPos ++ leBytes 1 run ++ zeros 2 ++ leBytes 4 used)

/-- The outcome of a load, with its source. DEDUCED, log entry 62. -/
def State.lrOutcome (s : State) (ssp : Bool) (status failPos : Nat) : State :=
  ((s.setFld Fld.LR_LOAD_STAT_STATUS 0 status).setFld Fld.LR_LOAD_STAT_FAIL_POS 0 failPos).setFld Fld.LR_LOAD_STAT_SOURCE 0 (b2n !ssp)

/-- The stream is no longer open. DEDUCED, log entry 62. -/
def State.lrClose (s : State) (l : LrLoad) : State :=
  let t : State := { s with lr := { s.lr with load := none, loadEnded := s.lr.loadEnded || l.ssp } }
  ((t.setSspFlag 1 false).setSspFlag 2 true).keeperBusy

/-- An SSP load has ended and every region is RUN or cleared: the window closes (R451). -/
def State.lrSettled (s : State) : State :=
  if s.lr.window && s.lr.loadEnded && s.lr.load.isNone && (List.range 5).all (fun p => s.lrState p == 0 || s.lrState p == 3) then
    s.closeWindow
  else s

/-- A failed stream (R448): the regions it named are cleared without golden copies. DEDUCED, log entry 62. -/
def State.lrFail (s : State) (l : LrLoad) (status failPos : Nat) : State :=
  let s1 := l.named.foldl (fun (t : State) p => (t.lrClear p).setFld Fld.LR_STAT_GOLDEN p 0) s
  let s2 := if failPos < 5 then s1.setFld Fld.LR_STAT_LAST_STATUS failPos status else s1
  let s3 := ((s2.lrOutcome l.ssp status failPos).event 0x0100 1 failPos status).lrClose l
  let s4 := match l.ctx with
    | some c => s3.lrReply c status failPos (min l.bytes.length (u32 l.bytes 8))
    | none => s3
  s4.lrSettled

/-- The position that a truncated stream was loading: 6 before the first section, 5 in the trailer. -/
def LrLoad.at (l : LrLoad) : Nat :=
  match l.pos with
  | some p => p
  | none => if l.hdr && l.sect == u8 l.bytes 6 then 5 else 6

/-! ## The loader chain (R443, R444) -/

/-- How a section header that the hub reaches is judged: none, or a status and position. DEDUCED, log entry 62. -/
def sectionFail (l : LrLoad) (h : List Byte) : Option (Nat × Nat) :=
  let total := u32 l.bytes 8
  let pos := u8 h 0
  let ends := l.off + 32 + u32 h 8
  let order := match l.last with | some q => decide (q < pos) | none => true
  let lastOne := l.sect + 1 == u8 l.bytes 6
  if !sectionOk h || !order || total < ends + 96 || (lastOne && total != ends + 96) then some (0x21, 6)
  else if 4 < pos then some (0x40, 4)
  else if u16 h 2 ≠ 0x5120 ∨ u8 h 1 ≠ lrKind pos then some (0x40, pos)
  else none

/-- The bytes of the current section that have arrived are written frame by frame to region and golden slot. -/
def State.lrFramesIn (s : State) (l : LrLoad) (p : Nat) : State :=
  let n := min (u32 l.bytes (l.off + 8)) (l.bytes.length - (l.off + 32)) / 1024 * 1024
  let d := slice l.bytes (l.off + 32) n
  (s.setRegion p { s.region p with data := d }).caveWrite (goldenAddr p) d

/-- A section header names region `p`: the region is cleared and LOADING. -/
def State.lrSection (s : State) (l : LrLoad) (p : Nat) : State :=
  let h := slice l.bytes l.off 32
  let s1 := ((s.lrClear p).setFld Fld.LR_STAT_STATE p 1).setFld Fld.LR_STAT_GOLDEN p 0
  s1.setRegion p ⟨[], u32 h 8, u8 h 4, (List.range 8).map (fun m => u8 h (16 + m)), u32 l.bytes 12, u32 l.bytes 16,
    if p = 0 then u8 h 5 else u8 h 7, u8 h 6⟩

/-- Takes the stream as far as its bytes go: at most `fuel` headers and sections. -/
def State.lrAdvance (s : State) (l : LrLoad) : Nat → State
  | 0 => { s with lr := { s.lr with load := some l } }
  | fuel + 1 =>
    let stay : State := { s with lr := { s.lr with load := some l } }
    let n := l.bytes.length
    if l.verify then stay
    else if !l.hdr then
      (if n < 128 then stay
       else if lrHeaderOk l.bytes then s.lrAdvance { l with hdr := true } fuel
       else s.lrFail l 0x21 6)
    else if l.sect = u8 l.bytes 6 then
      (if n < u32 l.bytes 8 then stay
       else ({ s with lr := { s.lr with load := some { l with verify := true } } } : State).keeperBusy)
    else match l.pos with
      | none =>
        if n < l.off + 32 then stay
        else
          let h := slice l.bytes l.off 32
          (match sectionFail l h with
            | some f => s.lrFail l f.1 f.2
            | none =>
              let p := u8 h 0
              (s.lrSection l p).lrAdvance { l with pos := some p, last := some p, named := l.named ++ [p] } fuel)
      | some p =>
        let len := u32 l.bytes (l.off + 8)
        let s1 := s.lrFramesIn l p
        if n < l.off + 32 + len then { s1 with lr := { s1.lr with load := some l } }
        else if crc32c (slice l.bytes (l.off + 32) len) ≠ u32 l.bytes (l.off + 12) then s1.lrFail l 0x23 p
        else s1.lrAdvance { l with pos := none, sect := l.sect + 1, off := l.off + 32 + len } fuel

/-- Bytes of a stream arrive. -/
def State.lrBytes (s : State) (l : LrLoad) (d : List Byte) : State := s.lrAdvance { l with bytes := l.bytes ++ d } 16

/-! ## The serial slave port (R449, R450) -/

/-- STREAM_WRITE: ignored, with DROPPED, while READY is 0, after the window has closed, or while a load runs over PCIe. -/
def State.streamWrite (s : State) (d : List Byte) : State :=
  let busy := match s.lr.load with | some l => !l.ssp | none => false
  if !s.sspFlag 0 || s.lr.closed || busy then { s with lr := { s.lr with dropped := true } }
  else
    match s.lr.load with
    | some l => s.lrBytes l d
    | none => ((s.setSspFlag 1 true).setSspFlag 2 false).lrBytes { ssp := true } d

def execStreamWrite (bytes : List Byte) (s : State) : Host.Outcome State Fault Refusal := .next (s.streamWrite bytes)

/-- SSP_STATUS (R449). DEDUCED, log entry 62. -/
def State.sspStatus (s : State) : Nat :=
  s.fld Fld.LR_LOAD_STAT_FLAGS + 16 * b2n s.lr.dropped + 256 * s.fld Fld.LR_LOAD_STAT_STATUS
    + 65536 * s.fld Fld.LR_LOAD_STAT_FAIL_POS

/-- STATUS_READ. -/
def execStatusRead (s : State) : Host.Outcome State Fault Refusal :=
  .next { s with reads := s.reads ++ [leBytes 4 s.sspStatus] }

/-- LOAD_SKIP (R451). -/
def execLoadSkip (s : State) : Host.Outcome State Fault Refusal := .next (if s.lr.window then s.closeWindow else s)

/-- RETRY_WINDOW_CLOSE (R451): the load has ended, or (`limit`) 900 ms have passed, which truncates an open stream. -/
def State.retryClose (s : State) (limit : Bool) : State :=
  if !s.lr.window then s
  else if limit then
    let s1 := match s.lr.load with
      | some l => if l.ssp && !l.verify then s.lrFail l 0x41 l.at else s
      | none => s
    if s1.lr.window then s1.closeWindow else s1
  else s.lrSettled

def execRetryWindowClose (limit : Bool) (s : State) : Host.Outcome State Fault Refusal := .next (s.retryClose limit)

/-- STREAM_TRUNCATED (R446): no stream byte for 50 ms. DEDUCED, log entry 62. -/
def execStreamTruncated (s : State) : Host.Outcome State Fault Refusal :=
  .next (match s.lr.load with
    | some l => if l.ssp && !l.verify then s.lrFail l 0x41 l.at else s
    | none => s)

/-! ## The end of a load -/

/-- An LR_LOAD is answered once each region it loaded runs or is cleared (R452). -/
def State.lrAnswer (s : State) : State :=
  match s.lr.pendReply with
  | none => s
  | some (c, used, ps, st, fp) =>
    if ps.all (fun p => s.lrState p == 3 || s.lrState p == 0) then
      let t : State := { s with lr := { s.lr with pendReply := none } }
      t.lrReply c st fp used
    else s

/-- BITSTREAM_VERIFIED (R445): the regions of the stream start together, or are all cleared. -/
def State.bitstreamVerified (s : State) : State :=
  match s.lr.load with
  | none => s
  | some l =>
    if !l.verify then s
    else
      let n := u32 l.bytes 8
      let v := s.verifySig 2 (u32 l.bytes 20) (l.bytes.take (n - 96)) (slice l.bytes (n - 96) 96)
      if !v.1 then v.2.lrFail l 0x42 5
      else
        let s1 := l.named.foldl (fun (t : State) p =>
          (((t.setFld Fld.LR_STAT_STATE p 2).setFld Fld.LR_STAT_GOLDEN p 1).setFld Fld.LR_STAT_LAST_STATUS p 0).lrShow p) v.2
        let s2 := (s1.lrOutcome l.ssp 0 7).lrClose l
        match l.ctx with
        | some c => { s2 with lr := { s2.lr with pendReply := some (c, u32 l.bytes 8, l.named, 0, 7) } }
        | none => s2

def execBitstreamVerified (s : State) : Host.Outcome State Fault Refusal := .next s.bitstreamVerified

/-- REGION_LOCK_DONE (R447): the loops are locked, and the steps of STARTUP lead to RUN. -/
def State.regionRun (s : State) (p : Nat) : State :=
  if s.lrState p = 2 then ((s.setFld Fld.LR_STAT_STATE p 3).lrAnswer).lrSettled else s

def execRegionLockDone (pos : Fin 5) (s : State) : Host.Outcome State Fault Refusal := .next (s.regionRun pos.val)

/-- LR_LOCK_TIMEOUT (R447, Table 17.4): that region alone is cleared. -/
def State.lockTimeout (s : State) (p : Nat) : State :=
  if s.lrState p ≠ 2 then s
  else
    let ssp := s.fld Fld.LR_LOAD_STAT_SOURCE == 0
    let s1 := (((s.lrClear p).setFld Fld.LR_STAT_LAST_STATUS p 0x64).lrOutcome ssp 0x64 p).event 0x0100 1 p 0x64
    let s2 : State := { s1 with lr := { s1.lr with pendReply := s1.lr.pendReply.map (fun (c, u, ps, _, _) => (c, u, ps, 0x64, p)) } }
    s2.lrAnswer.lrSettled

def execLrLockTimeout (pos : Fin 5) (s : State) : Host.Outcome State Fault Refusal := .next (s.lockTimeout pos.val)

/-! ## LR_LOAD and LR_QUERY (R452) -/

/-- A carrier in use has a method of LR0. -/
def State.lr0InUse (s : State) : Bool :=
  (List.range 512).any (fun c => s.fld Fld.FH_C_CFG_EN c == 1 && decide (8 ≤ s.fld Fld.FH_C_CFG_METHOD c))

/-- `host` is what stands in host memory from HOST_ADDR on. DEDUCED, log entry 62. -/
def State.lrLoad (s : State) (c : CmdCtx) (host : List Byte) : State :=
  let p := c.payload
  let len := u32 p 8
  let no := fun (st : Nat) => s.lrReply c st 7 0
  if p.length ≠ 16 then no 0x22
  else if u64 p 0 % 4096 ≠ 0 ∨ u32 p 12 ≠ 0 then no 0x21
  else if len < 1280 ∨ 25166208 < len then no 0x22
  else if u8 host 128 = 0 ∧ s.lr0InUse then no 0x24
  else if s.lr.load.isSome ∨ s.lr.pendReply.isSome then no 0x25
  else
    let l : LrLoad := { ssp := false, ctx := some c }
    let s1 := ((s.keep c true).setSspFlag 2 false).lrBytes l (host.take len)
    match s1.lr.load with
    | some m => if m.verify then s1 else s1.lrFail m 0x41 m.at
    | none => s1

/-- LR_LOAD. -/
def execLrLoad (c : CmdCtx) (host : List Byte) (s : State) : Host.Outcome State Fault Refusal :=
  .next (s.served c (if s.classLRuns c then s.lrReply c 0x25 7 0 else s.lrLoad c host))

/-- LR_QUERY. -/
def execLrQuery (c : CmdCtx) (s : State) : Host.Outcome State Fault Refusal :=
  let p := u8 c.payload 0
  .next (s.served c (
    if c.payload.length ≠ 4 then s.reply c 0x22
    else if 4 < p ∨ !allZero (c.payload.drop 1) then s.reply c 0x21
    else s.reply c 0 (leBytes 1 (s.lrState p) ++ leBytes 1 (s.fld Fld.LR_STAT_LAST_STATUS p) ++ leBytes 1 (s.fld Fld.LR_CAP_CAP p)
      ++ leBytes 1 (s.fld Fld.LR_STAT_GOLDEN p) ++ leBytes 4 (s.reg .LR_ID p) ++ leBytes 4 (s.reg .LR_VER p)
      ++ leBytes 4 (s.reg .LR_CNT_REPAIR p))))

/-! ## Scrubbing (R454 to R456) -/

/-- The frame after (region, frame) across the RUN regions, and whether a pass has ended. -/
def State.scrubNext (s : State) (p k : Nat) : Nat × Nat × Bool :=
  if k + 1 < lrFrames p then (p, k + 1, false)
  else
    match (List.range 5).find? (fun q => p < q && s.lrState q == 3) with
    | some q => (q, 0, false)
    | none => (((List.range 5).find? (fun q => s.lrState q == 3)).getD 0, 0, true)

/-- The region the scrubber stands at, or the first RUN region after it. -/
def State.scrubAt (s : State) : Option (Nat × Nat) :=
  if s.lrState s.lr.region = 3 then some (s.lr.region, s.lr.frame)
  else (((List.range 5).map (fun i => (s.lr.region + i) % 5)).find? (fun q => s.lrState q == 3)).map (fun q => (q, 0))

/-- One frame that the region's section holds is compared. `upset`: the region's frame has changed by itself; `regionBad`: it fails its own check. -/
def State.scrubFrame (s : State) (p k : Nat) (upset regionBad : Bool) : State :=
  let a := goldenAddr p + k * 1024
  let r := s.region p
  let mine := slice r.data (k * 1024) 1024
  let gold := s.caveRead a 1024
  if mine = [] then s
  else if s.rangeOk 0 a 1024 then
    (if upset ∨ mine ≠ gold.take mine.length then
      (s.setRegion p { r with data := r.data.take (k * 1024) ++ gold.take mine.length ++ r.data.drop (k * 1024 + 1024) }).bump .LR_CNT_REPAIR p
    else s)
  else if !regionBad then ((s.caveWrite a mine).cleanRange 0 a 1024).bump .LR_CNT_GFIX p
  else ((s.lrClear p).setFld Fld.LR_STAT_GOLDEN p 0).event 0x0101 2 p k

/-- LR_SCRUB_FRAME. `votes`: 0 the control copies agree, 1 one disagrees, 2 no two agree. -/
def State.lrScrub (s : State) (votes : Nat) (upset regionBad : Bool) : State :=
  if s.fld Fld.LR_SCRUB_CFG_EN = 0 ∨ s.lr.stopped then s
  else if votes = 2 then { s with lr := { s.lr with stopped := true, region := 0, frame := 0 } }
  else
    let s1 := if votes = 1 then s.bump .LR_SCRUB_VOTES else s
    match s1.scrubAt with
    | none => s1
    | some (p, k) =>
      let n := s1.scrubNext p k
      let s2 := s1.scrubFrame p k upset regionBad
      let s3 : State := { s2 with lr := { s2.lr with region := n.1, frame := n.2.1 } }
      if n.2.2 then s3.bump .LR_SCRUB_PASS else s3

def execLrScrubFrame (votes : Fin 3) (upset regionBad : Bool) (s : State) : Host.Outcome State Fault Refusal :=
  .next (s.lrScrub votes.val upset regionBad)

/-- At an epoch boundary a stopped scrubber resumes (R456). -/
def State.scrubEpoch (s : State) : State :=
  if s.lr.stopped then
    let s1 : State := { s with lr := { s.lr with stopped := false, region := 0, frame := 0 } }
    let s2 := s1.bump .LR_SCRUB_RESTARTS
    s2.event 0x0102 2 0xFF (s2.reg .LR_SCRUB_RESTARTS)
  else s

/-- LR_CLR (R457). -/
def State.lrClrCnt (s : State) (p : Nat) : State := s.clearRegs [.LR_CNT_REPAIR, .LR_CNT_GFIX, .LR_CNT_CMD] p

def execLrClr (pos : Fin 5) (src : Source) (s : State) : Host.Outcome State Fault Refusal := .next (s.busGate (RegId.offset .LR_CLR pos.val) src (s.lrClrCnt pos.val))

end Sys2Proof.Machine
end

