-- ==== Sys2Proof/Machine/Reset.lean ====
section
/-!
DEFINITION. What survives the loss of power, M-OFF and a module reset (R480, R483, R517, R518, Table 4.13 first row).
-/
namespace Sys2Proof.Machine

/-- Base address of the kind of a register key. -/
def keyBase (k : Nat) : Nat := (regDescs.getD (k % 512) ⟨0, [], []⟩).base

/-- Fused and non-volatile registers. -/
def fusedReg (k : Nat) : Bool :=
  [RegId.KEEPER_STAT, RegId.KEEPER_REVOKED, RegId.GLOBAL_SERIAL_LO, RegId.GLOBAL_SERIAL_HI].any (fun r => r.ctorIdx == k % 512)

/-- Registers on the standby supply (R481, R523). DEDUCED, log entry 46. -/
def standbyReg (k : Nat) : Bool :=
  (0x300000 ≤ keyBase k && keyBase k < 0x400000)
    || [RegId.GLOBAL_BOOT, RegId.GLOBAL_BOOT_TIME, RegId.GLOBAL_RESET_CAUSE].any (fun r => r.ctorIdx == k % 512)

/-- Registers of the TIME and DAC blocks. DEDUCED, log entry 46. -/
def timeReg (k : Nat) : Bool := 0x100000 ≤ keyBase k && keyBase k < 0x300000

/-- The state once power is gone: fuses and non-volatile memory stay (Table 20.1, R310, R399, R418, R431), and what the module
has already sent. With `standby` the standby supply stays, with `time` the time domain. DEDUCED, log entry 46. -/
def State.lose (s : State) (standby time : Bool) : State :=
  let t : State :=
    { pending := s.pending, freeCtr := s.freeCtr, hostOut := s.hostOut, msixOut := s.msixOut, replies := s.replies, reads := s.reads
      wire := s.wire, mgmtKey := s.mgmtKey
      regs := s.regs.filter (fun e => fusedReg e.1 || (standby && standbyReg e.1) || (time && timeReg e.1))
      kp := { slots := s.kp.slots, cred := s.kp.credNext.getD s.kp.cred, cert := s.kp.cert, serial := s.kp.serial
              identity := s.kp.identity, idCert := s.kp.idCert }
      fab := { nvNum := s.fab.nvNum }
      mg := { banks := s.mg.banks, nvCounter := s.mg.nvCounter, portCounter := s.mg.nvCounter + 65536, ownCounter := s.mg.ownCounter
              smbAlert := standby && s.mg.smbAlert }
      pw := if standby then { feedMv := s.pw.feedMv, powerFail := s.pw.powerFail, page := s.pw.page } else { feedMv := s.pw.feedMv }
      tm := if time then s.tm else { dacs := s.tm.dacs.map (fun (d : Dac) => ({ hoCode := d.hoCode } : Dac)) }
      bt := { perst := s.bt.perst } }
  (t.setFld Fld.KEEPER_STAT_BUSY 0 0).setFld Fld.STEWARD_STAT_BANK 0 (s.fld Fld.STEWARD_STAT_BANK)

/-- The grid stops with a module reset; pulse outputs in modes 0 and 1 go on (R518). DEDUCED, log entry 46. -/
def State.timeKept (s : State) : State :=
  let t : State := { s with tm := { s.tm with
    gridArm := false, gridStop := false, go := none
    tpo := (List.range 8).map (fun n =>
      if s.fld Fld.TPO_CTRL_MODE n ≤ 1 then s.tm.tpo.getD n {} else { s.tm.tpo.getD n {} with active := false }) } }
  let t := t.setFld Fld.TIME_STAT_GRID_RUN 0 0
  if t.servo = 1 ∨ t.servo = 2 then t.enterHoldover else t

/-- M-OFF (R483): everything but the standby supply is lost. -/
def State.moduleOff (s : State) : State := s.lose true false

/-- The module's state at the end of a module reset (R517, R518): all but the standby supply and D_TIME is lost. DEDUCED, log entry 40; DEDUCED, log entry 41; DEDUCED, log entry 46. -/
def State.moduleCleared (s : State) : State :=
  let t := (s.lose true true).timeKept
  (((((t.setReg .POWER_STAT 0 0).setReg .POWER_DOM 0 2).setReg .POWER_TILES_LO 0 0).setReg .POWER_TILES_HI 0 0))

/-- PERST_N is released: the configuration-retry window opens and step 5 completes (R451, R511); a window that opens after the
load has ended closes at once. DEDUCED, log entry 45. -/
def State.openWindow (s : State) : State :=
  ((({ s with lr := { s.lr with window := true, closed := false } }).setSspFlag 3 true).bootStep 5).lrSettled

/-- A trigger at T0 (R511): STEP reads 0, step 1 completes, and with PERST_N released step 5 and the retry window begin. -/
def State.trigger (s : State) (cause : Nat) : State :=
  let t : State := { s with bt := { started := true, perst := s.bt.perst } }
  let t := ((t.setReg .GLOBAL_BOOT 0 0).setFld Fld.GLOBAL_RESET_CAUSE_CAUSE 0 cause).bootStep 1
  if s.bt.perst then t.openWindow else t

end Sys2Proof.Machine
end

