-- ==== Sys2Proof/Machine/Power.lean ====
section
/-!
DEFINITION. Power states, their entries and exits, clock steps, pads, and the feeds (R478 to R495).
-/
namespace Sys2Proof.Machine

/-! ## Domains (R481, Table 19.1) -/

def State.tilesOn (s : State) : Nat := s.reg2 .POWER_TILES_LO .POWER_TILES_HI
/-- TRANSITION: 0 none, 1 entry, 2 exit, 3 clock step. DEDUCED, log entry 38. -/
def State.transition (s : State) : Nat := s.fld Fld.POWER_STAT_TRANSITION
def State.pwState (s : State) : Nat := s.fld Fld.POWER_STAT_STATE

/-- Bits of `a` that are not in `b`. -/
def andNot (a b : Nat) : Nat := a - (a &&& b)
/-- All tiles of the dies of a mask. -/
def dieTiles (dm : Nat) : Nat := (maskList dm 4).foldl (fun a d => a + 0xFFFF * 2 ^ (16 * d)) 0
def dieOf (doms : Nat) : Nat := doms / 4 % 16

/-- Domains and tiles that are on in a state (Table 19.2, R484). In M-HOLD D_HUB, D_TIME and D_CAVE keep power. -/
def pwTarget (st dm tm : Nat) : Nat × Nat :=
  if st = 0 then (0x3FF, 2 ^ 64 - 1)
  else if st = 1 then (0x3FF - dm * 4, andNot (2 ^ 64 - 1) (tm ||| dieTiles dm))
  else if st = 2 then (0x1C3, 0)
  else if st = 3 then (0x43, 0)
  else (0, 0)

/-! ## Refusals -/

/-- The reply bytes of POWER_STATE, CLOCK_STEP and a refused DBG_OPEN: REFUSER and INDEX. -/
def refuserBytes (refuser index : Nat) : List Byte := leBytes 1 refuser ++ zeros 1 ++ leBytes 2 index

def State.pwReply (s : State) (c : Option CmdCtx) (status refuser index : Nat) : State :=
  match c with
  | some c => s.lateReply c status (refuserBytes refuser index)
  | none => s

/-- A refusal or an abort is kept in POWER_LAST and counted; `st` is 5 for a clock step. DEDUCED, log entry 38. -/
def State.pwRecord (s : State) (status st refuser index : Nat) : State :=
  ((s.setReg .POWER_LAST 0 (status + 2 ^ 8 * st + 2 ^ 11 * refuser + 2 ^ 16 * index)).setReg .POWER_LAST_STAMP 0 s.stamp).bump
    .POWER_CNT (st * 6 + refuser)

def State.pwRefuse (s : State) (c : Option CmdCtx) (st refuser index : Nat) : State :=
  (s.pwRecord 0x24 st refuser index).pwReply c 0x24 refuser index

/-! ## Entry checks (Table 19.3) -/

/-- A debug session that refuses the entry (R508, Table 20.6). DEDUCED, log entry 38. -/
def State.sessRefuser (s : State) (st offTiles : Nat) : Option Nat :=
  (List.range 4).find? (fun n =>
    s.fld Fld.DBG_SESS_STATE n != 0 &&
      ((s.fld Fld.DBG_SESS_LEVEL n == 2 && (decide (2 ≤ st) || bitAt offTiles (s.fld Fld.DBG_SESS_TILE n)))
        || (s.fld Fld.DBG_SESS_LEVEL n == 3 && decide (1 ≤ st))))

/-- A cell that an entry takes capacity from, and what it takes: everything, or a share for tiles of a die that stays on. -/
def entryTakes (st dies tiles : Nat) (x : PoolCell) : Option (Option Nat) :=
  if 3 ≤ st then some none
  else if perDiePool x.pool && bitAt dies x.index then some none
  else
    let k := popCount (tiles / 2 ^ (16 * x.index)) 16
    if x.pool = 0 ∧ k ≠ 0 then some (some (4000 * k))
    else if x.pool = 1 ∧ k ≠ 0 then some (some (1000 * k))
    else none

/-- A cell of a column with margin `m` that stands in the way of the entry (Table 2.6). -/
def entryBlocked (st dies tiles m : Nat) (x : PoolCell) : Bool :=
  match entryTakes st dies tiles x with
  | none => false
  | some none => x.res != 0
  | some (some u) => decide (admitLess m u x < x.res)

/-- The first pool in the way, in the earliest column from E (Table 19.3 check 3): pool ID and index. -/
def State.calRefuser (s : State) (st dies tiles : Nat) : Option Nat :=
  ((s.columnsFrom s.firstAffected).findSome? (fun c => c.cells.find? (entryBlocked st dies tiles c.margin))).map
    (fun x => x.pool + 256 * x.index)

/-- A cell move into this module is pending, or a flow of it may still take a copy. DEDUCED, log entry 54. -/
def State.movesIn (s : State) (m : Move) : Bool :=
  !m.live || (List.range m.n).any (fun i => (s.flow (m.first + i)).state == 1 && (s.flow (m.first + i)).sbState == 0)

/-- The lowest peer with a cell move, or with a lease granted for this epoch or the next (check 4). -/
def State.peerRefuser (s : State) : Option Nat :=
  let e := epochOf s.beat
  (((s.fab.moveIn.filter s.movesIn).map Move.peer ++ s.fab.moveOut.map Move.peer
    ++ (s.fab.grants.filter (fun g => g.lease.epoch == e || g.lease.epoch == (e + 1) % 64)).map Grant.lessee)).foldl
    (fun a p => match a with | none => some p | some q => some (min p q)) none

/-- The domain bit of a queue's owner (Table 4.5): none for PCIe functions and for no owner. DEDUCED, log entry 38. -/
def ownerDomain (o : Nat) : Option Nat :=
  if o = 0x10 ∨ o = 0x20 ∨ o = 0x34 ∨ o = 0x60 then some 0
  else if 0x30 ≤ o ∧ o ≤ 0x33 then some (o - 0x30 + 2)
  else if 0x40 ≤ o ∧ o ≤ 0x4F then some 7
  else if 0x50 ≤ o ∧ o ≤ 0x5B then some 8
  else none

/-- The lowest queue of an owner that turns off, with FILLED or HELD descriptors (check 5). DEDUCED, log entry 38. -/
def State.queueRefuser (s : State) (st doms : Nat) : Option Nat :=
  (List.range 4096).find? (fun q =>
    (match ownerDomain (s.qOwner q) with | some b => bitAt doms b || (b == 0 && decide (3 ≤ st)) | none => false)
      && (decide (0 < s.qOcc q) || decide (0 < s.reg .Q_HELD q)))

/-- The first check that refuses an entry: REFUSER and INDEX. DEDUCED, log entry 38. -/
def State.entryRefused (s : State) (st doms tiles : Nat) : Option (Nat × Nat) :=
  if 2 ≤ st ∧ s.fld Fld.KEEPER_STAT_BUSY = 1 then some (5, 0)
  else match s.sessRefuser st tiles with
  | some n => some (4, n)
  | none => match s.calRefuser st (dieOf doms) tiles with
    | some i => some (1, i)
    | none => match (if bitAt doms 8 then s.peerRefuser else none) with
      | some p => some (3, p)
      | none => (s.queueRefuser st doms).map (fun q => (2, q))

/-! ## Entries (R487 to R489) -/

/-- A cell after the entry has taken its capacity. -/
def takeCell (st dies tiles m : Nat) (x : PoolCell) : PoolCell :=
  match entryTakes st dies tiles x with
  | none => x
  | some none => zeroCell x
  | some (some u) => shrinkCell m u x

/-- Capacity leaves every column from E on (R488). -/
def State.takeCapacity (s : State) (st doms tiles : Nat) : State :=
  { s with
    cal := s.cal.map (fun c =>
      if atOrAfter c.beat s.firstAffected then { c with cells := c.cells.map (takeCell st (dieOf doms) tiles c.margin) } else c)
    cap := { s.cap with
      closed := s.cap.closed || decide (3 ≤ st), dies := andNot s.cap.dies (dieOf doms), tiles := andNot s.cap.tiles tiles } }

/-- A cell given back after an abort: as it was, less what has been reserved since; in a column opened since, its full
capacity. -/
def giveBack (old : List Column) (cap : CapState) (c : Column) (x : PoolCell) : PoolCell :=
  match findCell old c.beat x.pool x.index with
  | some y => { x with admits := y.admits, free := y.admits - x.res, cap := y.cap }
  | none =>
    let k := cap.capacity x.pool x.index c.beat
    let a := cap.admits c.margin x.pool x.index c.beat
    { x with admits := a, free := a - x.res, cap := k }

/-- An entry is armed. DEDUCED, log entry 39. -/
def State.armEntry (s : State) (c : Option CmdCtx) (st doms tiles wd wt : Nat) : State :=
  let e : PwEntry :=
    { target := st, dies := dieOf doms, tiles := tiles, doms := doms, wakeDoms := wd, wakeTiles := wt
      atBeat := if s.gridRun then s.absFirst else 0, cal := s.cal, cap := s.cap, ctx := c }
  let t := (s.takeCapacity st doms tiles).setFld Fld.POWER_STAT_TRANSITION 0 1
  { t with pw := { t.pw with entry := some e } }

/-- An exit starts (R491). DEDUCED, log entry 39. -/
def State.armExit (s : State) (c : Option CmdCtx) (st doms tiles : Nat) : State :=
  let t := s.setFld Fld.POWER_STAT_TRANSITION 0 2
  { t with pw := { t.pw with exit := some { target := st, doms := doms, tiles := tiles, ctx := c } } }

/-- A change to state `st` with masks (R484, R487), on behalf of a command or of POWER_WAKE. DEDUCED, log entry 39. -/
def State.changeState (s : State) (c : Option CmdCtx) (st dm tm : Nat) : State :=
  let g := pwTarget st dm tm
  let d := s.reg .POWER_DOM; let t := s.tilesOn
  let offD := andNot d g.1; let offT := andNot t g.2
  let onD := andNot g.1 d; let onT := andNot g.2 t
  if st = s.pwState ∧ g = (d, t) then s.pwReply c 0 0 0
  else if offD = 0 ∧ offT = 0 then s.armExit c st onD onT
  else match s.entryRefused st offD offT with
    | some r => s.pwRefuse c st r.1 r.2
    | none => s.armEntry c st offD offT onD onT

/-- POWER_STATE (R484 to R490). -/
def State.powerState (s : State) (c : CmdCtx) : State :=
  let p := c.payload
  let st := u8 p 0; let dm := u8 p 1; let tm := u64 p 4
  if p.length ≠ 12 then s.replyWord c 0x22 (refuserBytes 0 0)
  else if 4 < st ∨ 15 < dm ∨ u16 p 2 ≠ 0 ∨ (st = 1 ∧ dm = 0 ∧ tm = 0) ∨ (st ≠ 1 ∧ 2 ≤ st ∧ (dm ≠ 0 ∨ tm ≠ 0)) then s.replyWord c 0x21 (refuserBytes 0 0)
  else if s.transition ≠ 0 then s.replyWord c 0x25 (refuserBytes 0 0)
  else (s.keep c true).changeState (some c) st dm tm

def execPowerState (c : CmdCtx) (s : State) : Host.Outcome State Fault Refusal := .next (s.served c (if s.inTurn c then s.powerState c else s))

/-- POWER_WAKE (R485): accepted in M-HOLD, with nothing in progress. -/
def State.powerWake (s : State) (v : Nat) (src : Source) : State :=
  if s.pwState ≠ 3 ∨ s.transition ≠ 0 ∨ !(v = 0 ∨ v = 2 ∨ v = 4) then s.werrReg .POWER_WAKE 0 src
  else s.changeState none v 0 0

def execPowerWake (value : Word) (src : Source) (s : State) : Host.Outcome State Fault Refusal :=
  .next (s.busGate (RegId.offset .POWER_WAKE 0) src (s.powerWake (value.toNat % 8) src))

/-- The proxy port of a domain: NOC_PORT of a tile, DL_PORT of a die. Domains are 0 to 63 tiles, 64 + bit of Table 19.1. DEDUCED, log entry 39. -/
def State.setPortState (s : State) (u v : Nat) : State :=
  if u < 64 then (if s.dieStat (u / 16) = 1 ∨ v = 2 then s.setReg .NOC_PORT u v else s)
  else if 66 ≤ u ∧ u ≤ 69 then (if s.dieStat (u - 66) = 1 ∨ v = 2 then s.setReg .DL_PORT (u - 66) v else s)
  else s

/-- Domains of an entry that have a proxy port. -/
def PwEntry.ports (e : PwEntry) : List Nat := maskList e.tiles 64 ++ (maskList e.dies 4).map (fun d => 66 + d)
/-- Every domain of an entry. -/
def PwEntry.units (e : PwEntry) : List Nat := maskList e.tiles 64 ++ (maskList e.doms 10).map (fun b => 64 + b)

/-- ENTRY_DRAIN_START (R488): at grain 1,000 of beat E − 1, or in the grain of arrival when that is later. The merge buffers of
the domains drain with them (R462). -/
def State.drainStart (s : State) : State :=
  match s.pw.entry with
  | none => s
  | some e =>
    if e.draining ∨ (s.gridRun ∧ s.tm.absGrain < (e.atBeat - 1) * 1024 + 1000) then s
    else
      let t := e.ports.foldl (fun (t : State) u => t.setPortState u 1) s
      let t := (t.drainAll (fun m =>
        (m.mem == 2 && bitAt e.tiles (m.word * 8 / 2 ^ 21)) || (m.mem == 3 && bitAt e.tiles (m.word * 8 / 2 ^ 21))
          || decide (3 ≤ e.target))).2
      { t with pw := { t.pw with entry := some { e with draining := true } } }

def execEntryDrainStart (s : State) : Host.Outcome State Fault Refusal := .next s.drainStart

/-- No request to or from a tile, or a die's tiles, is outstanding. -/
def State.tileQuiet (s : State) (t : Nat) : Bool :=
  (List.range 4).all (fun k => (s.core (4 * t + k)).csts.isEmpty)
    && (List.range 5).all (fun n => (Sparse.get {} s.tchans (t * 8 + n)).active.isNone)
def State.unitQuiet (s : State) (u : Nat) : Bool :=
  if u < 64 then s.tileQuiet u
  else if 66 ≤ u ∧ u ≤ 69 then s.dieStat (u - 66) != 1 || (List.range 16).all (fun t => s.tileQuiet (16 * (u - 66) + t))
  else true

/-- DRAIN_COMPLETE (R359). -/
def State.drainComplete (s : State) (u : Nat) : State :=
  match s.pw.entry with
  | none => s
  | some e =>
    if e.draining && e.units.contains u && !e.drained.contains u && s.unitQuiet u then
      let t := s.setPortState u 2
      { t with pw := { t.pw with entry := some { e with drained := e.drained ++ [u] } } }
    else s

def execDrainComplete (domain : Fin 74) (s : State) : Host.Outcome State Fault Refusal := .next (s.drainComplete domain.val)

/-- DRAIN_TIMEOUT (R489): the entry is aborted. -/
def State.drainTimeout (s : State) (u : Nat) : State :=
  match s.pw.entry with
  | none => s
  | some e =>
    if e.draining && e.units.contains u && !e.drained.contains u then
      let index := if u < 64 then 0x8100 + u else 0x8000 + (u - 64)
      let run := (List.range 4).foldl (fun a d => if s.dieStat d = 1 then a + 2 ^ d else a) 0
      let cap := { s.cap with
        closed := e.cap.closed, dies := e.cap.dies &&& (run ||| s.cap.dies), tiles := e.cap.tiles &&& (dieTiles run ||| s.cap.tiles) }
      let t : State := e.ports.foldl (fun (t : State) u => t.setPortState u 0) s
      let t : State := { t with
        cap := cap, pw := { t.pw with entry := none }
        cal := t.cal.map (fun c =>
          if atOrAfter c.beat s.firstAffected then
            { c with cells := c.cells.map (fun x =>
                if (entryTakes e.target (e.dies &&& run) (e.tiles &&& dieTiles run) x).isSome then giveBack e.cal cap c x else x) }
          else c) }
      (((t.setFld Fld.POWER_STAT_TRANSITION 0 0).event 0x0114 1 0xFF e.target index).pwRecord 0x25 e.target 0 index).pwReply e.ctx 0x25 0 index
    else s

def execDrainTimeout (domain : Fin 74) (s : State) : Host.Outcome State Fault Refusal := .next (s.drainTimeout domain.val)

/-! ## Removing power (R482, R483, R488, R493) -/

/-- A tile's domain is off: its cores' state is lost and their registers survive (R165). -/
def State.tileOff (s : State) (t : Nat) : State :=
  let s1 := (List.range 4).foldl (fun (x : State) k => x.setReg .CORE_STAT (4 * t + k) 0) s
  let s2 := (s1.setReg .BMU_STAT t 0).setReg .NOC_PORT t 2
  let r := if t < 32 then RegId.POWER_TILES_LO else RegId.POWER_TILES_HI
  let s3 := s2.setReg r 0 (putBit (s2.reg r) (t % 32) false)
  { s3 with
    cores := dropKeys s3.cores 4 t, bmus := dropKeys s3.bmus 1 t, tchans := dropKeys s3.tchans 8 t
    vm := dropKeys s3.vm (2 ^ 21) t, tsm := dropKeys s3.tsm (2 ^ 21) t
    bad := s3.bad.filter (fun b => !((b.mem == 2 || b.mem == 3) && b.word * 8 / 2 ^ 21 == t)) }

/-- A die's domain is off: its region is CLEARED (R482); the fence of an isolated die and its cause go with it. -/
def State.dieOff (s : State) (d : Nat) : State :=
  let s1 := (List.range 16).foldl (fun (x : State) e => (x.setReg .ENG_STAT (16 * d + e) 0)) s
  let s2 := (((s1.dieHalted d).setDieStat d 0).setReg .DL_PORT d 2).lrClear (d + 1)
  s2.setReg .GLOBAL_ISO_CAUSE 0 (putBits (s2.reg .GLOBAL_ISO_CAUSE) (8 * d + 7) (8 * d) 0)

/-- D_FH is off: its lanes are OFF, enabled ports are DOWN, and the pads latch. -/
def State.fhOff (s : State) : State :=
  let t := (List.range 16).foldl (fun (t : State) p =>
    if t.fhState p = 2 then t.fhDrop p else t) (s.lanesOff (List.range 32))
  t.setReg .POWER_PADS 0 (putBit (t.reg .POWER_PADS) 7 true)

/-- D_FAB is off: enabled links are in TRAINING with all credits at the sender. -/
def State.fabOff (s : State) : State :=
  let t := (List.range 12).foldl (fun (t : State) l =>
    if t.flState l = 0 then t else (((t.creditsReset l).flTrain l).zeroTt l).topoDirty) (s.lanesOff ((List.range 96).map (32 + ·)))
  (t.fabCap).setReg .POWER_PADS 0 (putBit (t.reg .POWER_PADS) 8 true)

/-- POWER_REMOVE (R488): at the tick that starts beat E, or when the drain is complete. DEDUCED, log entry 39. -/
def State.powerRemove (s : State) : State :=
  match s.pw.entry with
  | none => s
  | some e =>
    if !e.draining ∨ !(e.ports.all e.drained.contains) ∨ (s.gridRun ∧ s.absBeat < e.atBeat) then s
    else
      let t := (maskList e.tiles 64).foldl State.tileOff s
      let t := (maskList e.dies 4).foldl State.dieOff t
      let t := if bitAt e.doms 7 then t.fhOff else t
      let t := if bitAt e.doms 8 then t.fabOff else t
      let t := if bitAt e.doms 9 then (List.range 5).foldl State.lrClear t else t
      let t := if 3 ≤ e.target then (List.range 4).foldl (fun (t : State) n => t.closeSession n 2) t else t
      let t := t.setReg .POWER_DOM 0 (andNot (t.reg .POWER_DOM) e.doms)
      let t : State := if e.target = 3 then
          ({ t with kp := { t.kp with nonces := [] }, pw := { t.pw with refresh := 15 } } : State).setReg .POWER_PADS 0 (putBit (t.reg .POWER_PADS) 0 true)
        else t
      let t : State := ({ t with pw := { t.pw with entry := none } } : State)
      let t := ((t.setFld Fld.POWER_STAT_STATE 0 e.target).setFld Fld.POWER_STAT_TRANSITION 0 0).event 0x0113 0 0xFF e.target (t.reg .POWER_DOM)
      if e.wakeDoms ≠ 0 ∨ e.wakeTiles ≠ 0 then t.armExit e.ctx e.target e.wakeDoms e.wakeTiles
      else
        let t := t.pwReply e.ctx 0 0 0
        if e.target = 4 then t.moduleOff else t

def execPowerRemove (s : State) : Host.Outcome State Fault Refusal := .next s.powerRemove

/-! ## Waking (R491) -/

/-- A tile of a running die is on: its memories are filled with zero, its cores wait and its BMU is idle. -/
def State.tileStart (s : State) (t : Nat) : State :=
  let s1 := (List.range 4).foldl (fun (x : State) k => x.setReg .CORE_STAT (4 * t + k) 1) s
  let s2 := (s1.setReg .BMU_STAT t 1).setReg .NOC_PORT t 0
  { s2 with cap := { s2.cap with tiles := putBit s2.cap.tiles t true } }

/-- The registers that a die's control logic holds start from reset: those of its cores, matrix units, engines, tile channels
and routers (R174, R207, R229; Table 14.8). -/
def State.dieRegsReset (s : State) (d : Nat) : State :=
  let all := fun (rs : List RegId) (n : Nat) (t : State) => (List.range n).foldl (fun (x : State) k => x.clearRegs rs (n * d + k)) t
  all [.CORE_STAT, .CORE_CUR, .CORE_EXC, .CORE_EXC_PC, .CORE_EXC_HANDLE, .CORE_EXC_STAMP, .CORE_LATE, .CORE_LATE_PC, .CORE_CNT_EXC,
      .CORE_CNT_COLL, .CORE_CNT_LATE, .CORE_CNT_ROMCE, .CORE_CNT_SQUASH, .CORE_CNT_CURDS, .TDMA_STAT, .TDMA_DONE, .TDMA_CNT_XFER,
      .TDMA_CNT_ABORT] 64
    (all [.BMU_STAT, .BMU_CUR, .BMU_EXC, .BMU_EXC_HANDLE, .BMU_CNT_JOBS, .BMU_CNT_SAT, .BMU_CNT_NOTPD, .BMU_CNT_EXC, .ENG_STAT, .ENG_CUR,
      .ENG_EXC, .ENG_EXC_HANDLE, .ENG_CNT_JOBS, .ENG_CNT_CB, .ENG_CNT_ITER, .ENG_CNT_CBFAIL, .ENG_CNT_EXC, .ENG_CNT_FAULT,
      .ENG_CNT_MISMATCH, .ENG_CNT_CLIP, .NOC_CNT_PROXY, .NOC_CNT_DISCARD] 16 s)

/-- A die starts to run: its registers are at reset, its ports open, its engines are idle and unfenced (R228), its recorded clock step applies (R492) and
its region reloads (R482); its capacity returns in the columns that open from now on. -/
def State.dieStart (s : State) (d : Nat) : State :=
  let s1 := (((s.dieRegsReset d).setDieStat d 1).setReg .DL_PORT d 0).setReg .GLOBAL_ISO_CAUSE 0 (putBits (s.reg .GLOBAL_ISO_CAUSE) (8 * d + 7) (8 * d) 0)
  let s2 := (List.range 16).foldl (fun (x : State) e => (x.setEng (16 * d + e) {}).setReg .ENG_STAT (16 * d + e) 1) s1
  let s3 := (s2.setReg .ENG_FENCE d 0).setReg .ENG_FENCE_STAT d 0
  let st := s3.reg .POWER_STEP
  let s4 := s3.setReg .POWER_STEP 0 (putBits st (2 * d + 1) (2 * d) (bits st (8 + 2 * d + 1) (8 + 2 * d)))
  let s5 : State := { s4 with cap := { s4.cap with dies := putBit s4.cap.dies d true, engFence := setAt s4.cap.engFence d 0 } }
  ((List.range 16).foldl (fun (x : State) k => if x.tileOn (16 * d + k) then x.tileStart (16 * d + k) else x) s5).lrReload (d + 1)

def State.powerTiles (s : State) (tiles : Nat) : State :=
  let n := s.tilesOn ||| tiles
  s.setReg2 .POWER_TILES_LO .POWER_TILES_HI 0 n

/-- POWER_EXIT_DONE (R491). DEDUCED, log entry 39. -/
def State.powerExitDone (s : State) : State :=
  match s.pw.exit with
  | none => s
  | some x =>
    let hold := s.pwState = 3
    let t := (s.setReg .POWER_DOM 0 (s.reg .POWER_DOM ||| x.doms)).powerTiles x.tiles
    let t : State := { t with
      pw := { t.pw with exit := none, refresh := if x.target ≤ 1 then 0 else t.pw.refresh }
      cap := { t.cap with closed := false }
      credits := if hold then [] else t.credits }
    let t := (maskList (dieOf x.doms) 4).foldl State.dieStart t
    let t := (maskList (andNot x.tiles (dieTiles (dieOf x.doms))) 64).foldl (fun (t : State) n => if t.dieStat (n / 16) = 1 then t.tileStart n else t) t
    let t := if bitAt x.doms 9 then (List.range 5).foldl (fun (t : State) p => if p = 0 ∨ t.dieStat (p - 1) = 1 then t.lrReload p else t) t else t
    let t := if bitAt x.doms 7 then t.lanesBack (List.range 32) else t
    let t := if bitAt x.doms 8 then t.lanesBack ((List.range 96).map (32 + ·)) else t
    let t := if hold ∧ t.gridRun then t.openCalendar t.beat else t
    ((t.setFld Fld.POWER_STAT_STATE 0 x.target).setFld Fld.POWER_STAT_TRANSITION 0 0).pwReply x.ctx 0 0 0

def execPowerExitDone (s : State) : Host.Outcome State Fault Refusal := .next s.powerExitDone

/-- HBM_SELF_REFRESH_ENTRY (R483): in M-REST, after 1 µs without an access. -/
def execHbmSelfRefreshEntry (stack : Fin 4) (s : State) : Host.Outcome State Fault Refusal :=
  .next (if s.pwState = 2 then { s with pw := { s.pw with refresh := putBit s.pw.refresh stack.val true } } else s)

/-! ## Clock steps (R492) -/

def State.stepOf (s : State) (d : Nat) : Nat := bits (s.reg .POWER_STEP) (2 * d + 1) (2 * d)

/-- An order that reserves on die `d` from E on uses an image certified only above `step` (Table 2.6). DEDUCED, log entry 39; DEDUCED, log entry 40. -/
def State.stepNeeded (s : State) (d step : Nat) : Bool :=
  s.orders.any (fun o => decide (step < u8 (s.image o.slot).bytes 6)
    && o.tasks.any (fun t => atOrAfter t.beat s.firstAffected && t.costs.any (fun x => perDiePool x.1 && x.2.1 == d && x.2.2 != 0)))

/-- The step is taken: dies that are on change their step, a die that is off wakes with it. -/
def State.takeStep (s : State) : State :=
  match s.pw.step with
  | none => s
  | some x =>
    if s.gridRun ∧ s.absBeat < x.atBeat then s
    else
      let v := (maskList x.dies 4).foldl (fun a d => if s.domOn (2 + d) then putBits a (2 * d + 1) (2 * d) x.step else a) (s.reg .POWER_STEP)
      let t : State := { s with pw := { s.pw with step := none } }
      ((t.setReg .POWER_STEP 0 v).setFld Fld.POWER_STAT_TRANSITION 0 0).lateReply x.ctx 0 (refuserBytes 0 0)

/-- CLOCK_STEP (R492). DEDUCED, log entry 40. -/
def State.clockStep (s : State) (c : CmdCtx) : State :=
  let p := c.payload
  let dm := u8 p 0; let st := u8 p 1
  if padCheck p 4 2 ≠ 0 then s.replyWord c (padCheck p 4 2) (refuserBytes 0 0)
  else if dm = 0 ∨ 15 < dm ∨ 3 < st then s.replyWord c 0x21 (refuserBytes 0 0)
  else if s.transition ≠ 0 then s.replyWord c 0x25 (refuserBytes 0 0)
  else match (maskList dm 4).find? (fun d => decide (st < s.stepOf d) && s.stepNeeded d st) with
    | some d => s.pwRefuse (some c) 5 1 (256 * d)
    | none =>
      let v := (maskList dm 4).foldl (fun a d => putBits a (8 + 2 * d + 1) (8 + 2 * d) st) (s.reg .POWER_STEP)
      let t := ((s.keep c true).setReg .POWER_STEP 0 v).setFld Fld.POWER_STAT_TRANSITION 0 3
      let t : State := { t with pw := { t.pw with step := some { dies := dm, step := st, atBeat := s.absFirst, ctx := c } } }
      if s.gridRun then t else t.takeStep

def execClockStep (c : CmdCtx) (s : State) : Host.Outcome State Fault Refusal := .next (s.served c (if s.inTurn c then s.clockStep c else s))

/-! ## Pads, query and counters (R493 to R495) -/

/-- PAD_RELEASE (R493). -/
def execPadRelease (c : CmdCtx) (s : State) : Host.Outcome State Fault Refusal :=
  .next (s.served c (
    if c.payload.length ≠ 4 then s.reply c 0x22
    else if 1024 ≤ u32 c.payload 0 then s.reply c 0x21
    else
      let m := u32 c.payload 0 &&& 0x181 &&& s.reg .POWER_DOM
      (s.setReg .POWER_PADS 0 (andNot (s.reg .POWER_PADS) m)).reply c 0))

/-- POWER_QUERY (R494). The energy since reset is a free value. -/
def State.powerQueryBytes (s : State) : List Byte :=
  let mw := fun (n : Nat) => leBytes 4 (enc 32 (s.mg.sensors.getD n {}).value)
  leBytes 1 s.pwState ++ leBytes 1 s.transition ++ zeros 2 ++ leBytes 8 s.tilesOn ++ leBytes 2 (s.reg .POWER_DOM)
    ++ leBytes 2 (s.reg .POWER_PADS) ++ leBytes 1 (s.fld Fld.POWER_STEP_STEP) ++ leBytes 1 (s.fld Fld.POWER_STEP_PENDING)
    ++ leBytes 1 (s.fld Fld.POWER_FEED_FEEDS) ++ zeros 1 ++ mw 4 ++ mw 5 ++ leBytes 4 (s.pick (2 ^ 32))

def execPowerQuery (c : CmdCtx) (s : State) : Host.Outcome State Fault Refusal :=
  .next (s.served c (s.used.reply c (padCheck c.payload 0 0) s.powerQueryBytes))

/-- POWER_CLR_STATS (R495). -/
def State.pwClr (s : State) : State := (List.range 36).foldl (fun (t : State) i => t.setReg .POWER_CNT i 0) s
def execPowerClrStats (src : Source) (s : State) : Host.Outcome State Fault Refusal := .next (s.busGate (RegId.offset .POWER_CTRL 0) src s.pwClr)

/-! ## Feeds and temperatures (R478 to R480, R486) -/

def feedOk (mv : Nat) : Bool := 36000 ≤ mv && mv ≤ 75000

/-- A feed's voltage: FEEDS shows which are in range and which carries, the higher one (R478, Table 19.5). DEDUCED, log entry 40. -/
def State.feedSet (s : State) (feed mv : Nat) (ok : Bool) : State :=
  let l := setAt s.pw.feedMv feed mv
  let r := putBit (s.fld Fld.POWER_FEED_FEEDS) feed ok
  let a := natAt l 0; let b := natAt l 1
  ({ s with pw := { s.pw with feedMv := l } } : State).setFld Fld.POWER_FEED_FEEDS 0
    (r % 4 + 4 * b2n (decide (b ≤ a ∧ 0 < a)) + 8 * b2n (decide (a ≤ b ∧ 0 < b)))

/-- FEED_LOST (R479): out of range for 1 ms. -/
def State.feedLost (s : State) (feed mv : Nat) : State :=
  if feedOk mv ∨ !bitAt (s.fld Fld.POWER_FEED_FEEDS) feed then s else (s.feedSet feed mv false).event 0x0110 1 feed mv
def execFeedLost (feed : Fin 2) (mv : Nat) (s : State) : Host.Outcome State Fault Refusal := .next (s.feedLost feed.val mv)

/-- FEED_RESTORED (R479): back in range for 100 ms. -/
def State.feedRestored (s : State) (feed mv : Nat) : State :=
  if !feedOk mv ∨ bitAt (s.fld Fld.POWER_FEED_FEEDS) feed then s
  else
    let t := s.feedSet feed mv true
    ({ t with pw := { t.pw with powerFail := false } } : State).event 0x0111 0 feed mv
def execFeedRestored (feed : Fin 2) (mv : Nat) (s : State) : Host.Outcome State Fault Refusal := .next (s.feedRestored feed.val mv)

/-- POWER_FAIL (R480): both feeds below 36 V for 1 ms. -/
def State.powerFailed (s : State) (a b : Nat) : State :=
  if a < 36000 ∧ b < 36000 then
    let t := (s.feedSet 0 a false).feedSet 1 b false
    ({ t with pw := { t.pw with powerFail := true } } : State).event 0x0112 3 0xFF (max a b)
  else s
def execPowerFail (mvA mvB : Nat) (s : State) : Host.Outcome State Fault Refusal := .next (s.powerFailed mvA mvB)

/-- SUPPLY_COLLAPSE (R480): the joined input is below 33 V. -/
def execSupplyCollapse (mv : Nat) (s : State) : Host.Outcome State Fault Refusal := .next (if mv < 33000 then s.lose false false else s)

/-- THERMAL_TRIP (R486, R528): a die's hottest junction, in m°C, has reached its trip temperature. -/
def State.thermalTrip (s : State) (d : Nat) (t : Int) : State :=
  if t < 110000 ∨ s.dieStat d = 0 ∨ s.dieStat d = 2 then s else (s.event 0x0115 2 d (enc 32 t)).isolateDie d 4
def execThermalTrip (die : Fin 4) (temp : Int) (s : State) : Host.Outcome State Fault Refusal := .next (s.thermalTrip die.val temp)

/-- HUB_THERMAL_TRIP (R486). -/
def execHubThermalTrip (temp : Int) (s : State) : Host.Outcome State Fault Refusal :=
  .next (if temp < 110000 then s else s.event 0x0116 3 4 (enc 32 temp))

/-- DIE_ISOLATION (R520), for a cause of Table 21.3. DEDUCED, log entry 24. -/
def execDieIsolation (die : Fin 4) (cause : Fin 6) (s : State) : Host.Outcome State Fault Refusal :=
  .next (s.isolateDie die.val (cause.val + 1))

end Sys2Proof.Machine
end

