-- ==== Sys2Proof/Machine/Integrity.lean ====
section
/-!
DEFINITION. The events of memory integrity (chapter 18): drains, the scrub walk, the zero-fill, and the ECC statistics.
-/
namespace Sys2Proof.Machine

/-- MERGE_DRAIN (R462, R463): the entry of a code word drains. DEDUCED, log entry 47. -/
def execMergeDrain (mem word : Nat) (s : State) : Host.Outcome State Fault Refusal := .next (s.drainWord (mem, word))

/-- Cave lines of the walk: the deep tier, then the near tier (R467). -/
def scrubDeep : Nat := 0x60000000
def scrubTotal : Nat := 0x60300000
/-- On-die code words of a tile: 262,144 of the TSM, then as many of the four VMs. DESIGN CHOICE, log entry 37. -/
def scrubTileWords : Nat := 524288

/-- Address of a Cave line of the walk, and the line of an address. DESIGN CHOICE, log entry 37. -/
def scrubAddr (i : Nat) : Nat := if i < scrubDeep then i * 64 else 0x8000000000 + (i - scrubDeep) * 64
def scrubIndex (a : Nat) : Nat := if a < 0x8000000000 then a / 64 else scrubDeep + (a - 0x8000000000) / 64

/-- Tile and walk index of an on-die code word. DESIGN CHOICE, log entry 37. -/
def scrubOnDie (w : Nat × Nat) : Nat × Nat :=
  if w.1 = 2 then (w.2 / 262144, w.2 % 262144) else (w.2 / 262144, 262144 + w.2 % 262144)

/-- Whether a walk of `n` lines from line `p`, with `q` lines counted before it, visits a code word (R467). DESIGN CHOICE, log entry 37. -/
def State.scrubVisits (s : State) (p q n : Nat) (w : Nat × Nat) : Bool :=
  if w.1 ≤ 1 then (scrubIndex (wordAddr w.1 w.2) + scrubTotal - p) % scrubTotal < n
  else if w.1 ≤ 3 then
    s.tileOn (scrubOnDie w).1 && decide (((scrubOnDie w).2 + scrubTileWords - q / 8 % scrubTileWords) % scrubTileWords < (q + n) / 8 - q / 8)
  else false

/-- A scrub of one code word (R462, R468): its merge entry drains; a correctable error is corrected and recorded, an
uncorrectable one poisoned and recorded, and poison is left. -/
def State.scrubWord (s : State) (w : Nat × Nat) : State :=
  let t := s.drainWord w
  match t.wordErr w with
  | none => t
  | some b =>
    match b.err with
    | .poison => t
    | .ce => (t.readStored w 4 1 0x3F0 0).wordClean w
    | .ue => t.readStored w 4 1 0x3F0 0

/-- The walk of a beat (R466 to R468); `fit` lines fit the margin, and `found` are the errors that it is first to meet. DESIGN CHOICE, log entry 37. -/
def State.scrubWalk (s : State) (fit : Nat) (found : List FoundErr) : State :=
  if s.fld Fld.ECC_SCRUB_CFG_EN = 1 ∧ s.pwState ≤ 1 then
    let want := s.fld Fld.ECC_SCRUB_CFG_LINES
    let n := min want fit
    let p := scrubIndex (s.reg2 .ECC_SCRUB_POS_LO .ECC_SCRUB_POS_HI)
    let q := s.scrubLines
    let fresh := found.filter (fun f => s.scrubVisits p q n (f.mem, f.word) && (s.wordErr (f.mem, f.word)).isNone)
    let t : State := { s with bad := s.bad ++ fresh.map (fun f => ({ mem := f.mem, word := f.word, err := if f.ue then .ue else .ce } : BadWord)) }
    let t := (t.bad.filter (fun b => s.scrubVisits p q n (b.mem, b.word))).foldl (fun (u : State) b => u.scrubWord (b.mem, b.word)) t
    let t := if n < want then t.bump .ECC_SCRUB_DEFER else t
    let t := if scrubTotal ≤ p + n then t.bump .ECC_SCRUB_PASS else t
    { t.setReg2 .ECC_SCRUB_POS_LO .ECC_SCRUB_POS_HI 0 (scrubAddr ((p + n) % scrubTotal)) with scrubLines := (q + n) % (8 * scrubTileWords) }
  else s

/-- SCRUB_WALK (R467). -/
def execScrubWalk (fit : Nat) (found : List FoundErr) (s : State) : Host.Outcome State Fault Refusal := .next (s.scrubWalk fit found)

/-- One block filled with zeros: it reads 0, and its code words are valid. -/
def State.zeroBlock (s : State) (b : Nat) : State :=
  { s with
    cave := s.cave.filter (fun e => e.1 / 4096 != b)
    bad := s.bad.filter (fun w => !(w.mem ≤ 1 && wordAddr w.mem w.word / 4096 == b))
    merges := s.merges.filter (fun m => !(m.mem ≤ 1 && wordAddr m.mem m.word / 4096 == b)) }

/-- The first `n` blocks that await their fill are filled, in the order of their return (R91). DESIGN CHOICE, log entry 37. -/
def State.zeroFill (s : State) (n : Nat) : State :=
  let l := s.fillQ.take n
  let t := l.foldl State.zeroBlock s
  { t with fillQ := s.fillQ.drop n }

/-- ZERO_FILL (R91, R469). -/
def execZeroFill (blocks : Nat) (s : State) : Host.Outcome State Fault Refusal := .next (s.zeroFill blocks)

/-- ERROR_HANDLING_DONE (R475). DEDUCED, log entry 36. -/
def execErrorHandlingDone (domain : Fin 5) (s : State) : Host.Outcome State Fault Refusal :=
  .next { s.setFld Fld.ECC_D_STORE_HANDLING domain.val 0 with inHand := s.inHand.filter (fun x => x.1 != domain.val) }

/-- CLR_STATS of ECC_CTRL (R477). -/
def State.eccClr (s : State) : State :=
  (List.range 5).foldl (fun (t : State) d =>
    t.clearRegs [.ECC_D_CNT_CE, .ECC_D_CNT_UE, .ECC_D_CNT_POISON, .ECC_D_CNT_LOST, .ECC_D_CNT_ESC] d)
    (s.clearRegs [.ECC_SCRUB_DEFER, .ECC_SCRUB_PASS])

/-- ECC_CLR_STATS (R477). -/
def execEccClrStats (src : Source) (s : State) : Host.Outcome State Fault Refusal := .next (s.busGate (RegId.offset .ECC_CTRL 0) src s.eccClr)

end Sys2Proof.Machine
end

