-- ==== Sys2Proof/Machine/Keeper.lean ====
section
/-!
DEFINITION. The keeper's commands, the lifecycle, and debug sessions (R496 to R505, R507 to R509).
-/
namespace Sys2Proof.Machine

/-! ## Keeper commands (R501) -/

/-- What CRED_INSTALL does once its checks have passed. DEDUCED, log entry 41. -/
def State.credTake (s : State) (c : CmdCtx) : State :=
  let p := c.payload
  let slot := u8 p 1
  let data := slice p 4 (u16 p 2)
  let slots := s.fld Fld.KEEPER_STAT_SLOTS
  let t : State :=
    if u8 p 0 = 0 then ({ s with kp := { s.kp with credNext := some data } } : State).setFld Fld.KEEPER_STAT_CRED 0 1
    else if u8 p 0 = 1 then { s with kp := { s.kp with cert := data } }
    else if u8 p 0 = 2 then
      ({ s with kp := { s.kp with slots := Sparse.set [] s.kp.slots slot data } } : State).setFld Fld.KEEPER_STAT_SLOTS 0 (putBit slots slot true)
    else (s.setReg .KEEPER_REVOKED 0 (putBit (s.reg .KEEPER_REVOKED) slot true)).setFld Fld.KEEPER_STAT_SLOTS 0 (putBit slots slot false)
  t.reply c 0

/-- The length of a CRED_INSTALL payload without padding. DEDUCED, log entry 41. -/
def credLen (p : List Byte) : Nat := 4 + u16 p 2 + 96

/-- CRED_INSTALL's end in DEPLOYED: the signature under slot 0, over SERIAL and the payload before it. -/
def State.credVerified (s : State) (c : CmdCtx) : State :=
  let n := 4 + u16 c.payload 2
  let v := s.verifySig 4 0x10000 (leBytes 8 s.kp.serial ++ c.payload.take n) (slice c.payload n 96)
  if v.1 then v.2.credTake c else v.2.reply c 0x42

/-- CRED_INSTALL: in DEPLOYED its signature check starts. DEDUCED, log entry 41. -/
def State.credInstall (s : State) (c : CmdCtx) : State :=
  let p := c.payload
  let kind := u8 p 0; let slot := u8 p 1
  if p.length < 4 ∨ p.length ≠ ceilDiv (credLen p) 4 * 4 then s.reply c 0x22
  else if 3 < kind ∨ 2048 < u16 p 2 ∨ 15 < slot ∨ !allZero (p.drop (credLen p)) ∨ (kind = 2 ∧ u16 p 2 ≠ 97)
      ∨ (s.lifecycle ≠ 2 ∧ !allZero (slice p (4 + u16 p 2) 96)) then s.reply c 0x21
  else if s.lifecycle = 3
      ∨ (kind = 2 ∧ (bitAt (s.fld Fld.KEEPER_STAT_SLOTS) slot ∨ bitAt (s.reg .KEEPER_REVOKED) slot))
      ∨ (kind = 3 ∧ slot = 0 ∧ s.lifecycle = 2) then s.reply c 0x24
  else if s.lifecycle ≠ 2 then s.credTake c
  else s.checkStart c

def execCredInstall (c : CmdCtx) (s : State) : Host.Outcome State Fault Refusal := .next (s.served c (s.credInstall c))

/-- MGMT_KEY_INSTALL: the new key serves from the first packet after the reply. DEDUCED, log entry 41. -/
def State.mgmtKeyInstall (s : State) (c : CmdCtx) : State :=
  if c.payload.length ≠ 48 then s.reply c 0x22
  else if s.lifecycle = 3 then s.reply c 0x24
  else
    let t := s.reply c 0
    ({ t with mgmtKey := c.payload, mg := { t.mg with portCounter := 0, nvCounter := 0, portAccepts := 0 } } : State).setFld
      Fld.KEEPER_STAT_MGMT_KEY 0 1

def execMgmtKeyInstall (c : CmdCtx) (s : State) : Host.Outcome State Fault Refusal := .next (s.served c (s.mgmtKeyInstall c))

/-- KEEPER_QUERY. -/
def State.keeperBytes (s : State) : List Byte :=
  let fit := fun (b : List Byte) => (b ++ zeros 8).take 8
  let cred := s.kp.credNext.getD s.kp.cred
  leBytes 1 s.lifecycle
    ++ leBytes 1 (s.fld Fld.KEEPER_STAT_BUSY + 2 * s.fld Fld.KEEPER_STAT_CRED + 4 * s.fld Fld.KEEPER_STAT_MGMT_KEY + 8 * b2n (s.kp.cert != []))
    ++ leBytes 2 (s.fld Fld.KEEPER_STAT_SLOTS) ++ leBytes 2 (s.reg .KEEPER_REVOKED) ++ zeros 2
    ++ (if cred = [] then zeros 8 else fit (Config.sha384 cred)) ++ fit (Config.sha384 s.kp.identity)

def execKeeperQuery (c : CmdCtx) (s : State) : Host.Outcome State Fault Refusal :=
  .next (s.served c (s.reply c (padCheck c.payload 0 0) s.keeperBytes))

/-! ## Lifecycle (R499, R500) -/

/-- A transition of Table 20.2 whose requirement holds. DEDUCED, log entry 41. -/
def State.lifeOk (s : State) (to' : Nat) : Bool :=
  let l := s.lifecycle
  (to' == 1 && l == 0 && s.slotValid 0) || (to' == 2 && l == 1 && s.slotValid 0)
    || (to' == 3 && l != 3 && s.fld Fld.RENNET_CTRL_OPEN == 0 && s.sentArmed == 0)

/-- LIFECYCLE_SET. DEDUCED, log entry 41. -/
def State.lifecycleSet (s : State) (c : CmdCtx) : State :=
  let p := c.payload
  if padCheck p 4 1 ≠ 0 then s.reply c (padCheck p 4 1)
  else if !s.lifeOk (u8 p 0) then s.reply c 0x24
  else if s.transition ≠ 0 ∨ s.fld Fld.KEEPER_STAT_BUSY = 1 then s.reply c 0x25
  else
    let t := s.keep c true
    ({ t with kp := { t.kp with lifeCtx := some (c, u8 p 0) } } : State).keeperBusy

def execLifecycleSet (c : CmdCtx) (s : State) : Host.Outcome State Fault Refusal := .next (s.served c (s.lifecycleSet c))

/-- FUSE_WRITE_DONE. -/
def State.fuseDone (s : State) : State :=
  match s.kp.lifeCtx with
  | none => s
  | some (c, st) =>
    let t := (List.range 4).foldl (fun (t : State) n => t.closeSession n 3) (s.setFld Fld.KEEPER_STAT_LIFECYCLE 0 st)
    let t := ({ t with kp := { t.kp with lifeCtx := none, wipe := st == 3 } } : State).keeperBusy
    (t.event 0x0122 1 0xFF st).lateReply c 0 []

def execFuseWriteDone (s : State) : Host.Outcome State Fault Refusal := .next s.fuseDone

/-- RETURNED_WIPE (R500): the secrets are destroyed and the module is reset. -/
def State.returnedWipe (s : State) : State :=
  if s.kp.wipe then
    let t := (s.setFld Fld.KEEPER_STAT_SLOTS 0 0).setFld Fld.KEEPER_STAT_CRED 0 0 |>.setFld Fld.KEEPER_STAT_MGMT_KEY 0 0
    let t : State := { t with
      mgmtKey := [], mg := { t.mg with nvCounter := 0 }
      kp := { t.kp with slots := [], cred := [], credNext := none, cert := [], identity := [], idCert := [], wipe := false } }
    t.moduleCleared.trigger 4
  else s

def execReturnedWipe (s : State) : Host.Outcome State Fault Refusal := .next s.returnedWipe

/-! ## Debug sessions (R502 to R504) -/

/-- A transport, as DBG_SESS_SRC and DBG_SESS_IP name it. -/
def transport (src : CmdSource) : Nat × Nat :=
  match src with | .pair p => (p, 0) | .port ip _ => (0x100, ip) | _ => (0x1FF, 0)

/-- DBG_CHALLENGE (R502): the transport's nonce is replaced. -/
def State.challenge (s : State) (c : CmdCtx) : State :=
  if c.payload ≠ [] then s.reply c 0x22
  else
    let tr := transport c.src
    let b := (Config.nonce s.freeCtr ++ zeros 32).take 32
    let l := s.kp.nonces.filter (fun n => !(n.src == tr.1 && n.ip == tr.2))
    ({ s.used with kp := { s.kp with nonces := l ++ [⟨tr.1, tr.2, b, s.tm.epochCount⟩] } } : State).reply c 0 b

def execDbgChallenge (c : CmdCtx) (s : State) : Host.Outcome State Fault Refusal := .next (s.served c (s.challenge c))

/-- A nonce is void 8 epochs after it was issued. -/
def Nonce.live (n : Nonce) (epoch : Nat) : Bool := epoch < n.epoch + 8

def State.dbgRefuse (s : State) (c : CmdCtx) (st : Nat) (rest : List Byte) : State := (s.bump .DBG_CNT_REFUSED).replyWord c st rest

/-- Table 20.6: a session of a level opens in this power state. -/
def levelHere (lvl st : Nat) : Bool := if lvl = 1 then st ≤ 2 else if lvl = 2 then st ≤ 1 else st == 0

/-- A session starts: ACTIVE, DEBUG_OPEN raised, the reply written. DEDUCED, log entry 42. -/
def State.sessionOn (s : State) (n : Nat) (c : CmdCtx) : State :=
  let t := (s.setFld Fld.DBG_SESS_STATE n 2).bump .DBG_CNT_OPEN
  let t : State := { t with kp := { t.kp with sess := setAt t.kp.sess n {} } }
  (t.event 0x0120 0 n (t.fld Fld.DBG_SESS_LEVEL n) (t.fld Fld.DBG_SESS_TILE n)).lateReply c 0 (leBytes 1 n ++ zeros 3 ++ leBytes 4 s.stamp)

/-- Checks 4 to 8 of R503, and the session. DEDUCED, log entry 42. -/
def State.openSession (s : State) (c : CmdCtx) : State :=
  let p := c.payload
  let lvl := u8 p 40; let tile := u8 p 41
  let tr := transport c.src
  let holder := (List.range 4).find? (fun n => s.fld Fld.DBG_SESS_STATE n != 0 && s.fld Fld.DBG_SESS_LEVEL n == 2 && s.fld Fld.DBG_SESS_TILE n == tile)
  match (List.range 4).find? (fun n => s.fld Fld.DBG_SESS_STATE n == 0) with
  | none => s.dbgRefuse c 0x25 []
  | some n =>
    if s.transition ≠ 0 then s.dbgRefuse c 0x25 []
    else if !levelHere lvl s.pwState then s.dbgRefuse c 0x24 []
    else if lvl = 2 ∧ (!s.tileOn tile ∨ s.dieStat (tile / 16) ≠ 1 ∨ s.kp.fills.contains tile) then s.dbgRefuse c 0x24 (refuserBytes 0 0)
    else if lvl = 2 ∧ holder.isSome then s.dbgRefuse c 0x24 (refuserBytes 4 (holder.getD 0))
    else match (if lvl = 2 then s.calRefuser 1 0 (2 ^ tile) else none) with
    | some i => s.dbgRefuse c 0x24 (refuserBytes 1 i)
    | none =>
      if lvl = 3 ∧ (s.fld Fld.RENNET_CTRL_OPEN = 1 ∨ s.sentArmed ≠ 0) then s.dbgRefuse c 0x24 []
      else
        let t := ((s.setReg .DBG_SESS n (1 + 4 * lvl + 16 * tile + 2 ^ 16 * u16 p 42)).setReg .DBG_SESS_SRC n tr.1).setReg .DBG_SESS_IP n tr.2
        if lvl ≠ 2 then t.sessionOn n c
        else
          let t := (t.takeCapacity 1 0 (2 ^ tile)).keep c true
          let x : Sess := { atBeat := if s.gridRun then s.absFirst else 0, filling := !s.gridRun, ctx := some c }
          { t with kp := { t.kp with sess := setAt t.kp.sess n x } }

/-- DBG_OPEN when its check completes: check 3, the signature over bytes 0 to 63 of the token. DEDUCED, log entry 42. -/
def State.dbgVerified (s : State) (c : CmdCtx) : State :=
  let v := s.verifySig 3 (u32 c.payload 44) (c.payload.take 64) (slice c.payload 64 96)
  if v.1 then v.2.openSession c else v.2.dbgRefuse c 0x42 []

/-- DBG_OPEN (R502, R503): checks 1 and 2, and the start of the signature check. A token's nonce is void once used. -/
def State.dbgOpen (s0 : State) (c : CmdCtx) : State :=
  let p := c.payload
  let tr := transport c.src
  let lvl := u8 p 40
  let mine := fun (n : Nonce) => n.src == tr.1 && n.ip == tr.2 && n.bytes == slice p 8 32
  let fresh := s0.kp.nonces.any (fun n => mine n && n.live s0.tm.epochCount)
  let s : State := { s0 with kp := { s0.kp with nonces := s0.kp.nonces.filter (fun n => !mine n) } }
  if p.length ≠ 160 then s0.dbgRefuse c 0x22 []
  else if u64 p 0 ≠ s.kp.serial ∨ !fresh ∨ lvl = 0 ∨ 3 < lvl ∨ (if lvl = 2 then 63 < u8 p 41 else u8 p 41 ≠ 0) ∨ u16 p 42 = 0
      ∨ !allZero (slice p 48 16) then s.dbgRefuse c 0x21 []
  else if lvl = 3 ∧ (s.lifecycle = 1 ∨ s.lifecycle = 2) then s.dbgRefuse c 0x24 []
  else s.checkStart c

def execDbgOpen (c : CmdCtx) (s : State) : Host.Outcome State Fault Refusal := .next (s.served c (s.dbgOpen c))

/-- SIGNATURE_CHECK_DONE (R497): the oldest check completes, and its command goes on. -/
def State.checkDone (s : State) : State :=
  match s.kp.checks with
  | [] => s
  | c :: r =>
    let t := ({ s with kp := { s.kp with checks := r } } : State).keeperBusy
    if c.opcode = 0x0021 then t.fwVerified c
    else if c.opcode = 0x0500 then t.credVerified c
    else t.dbgVerified c

def execSignatureCheckDone (s : State) : Host.Outcome State Fault Refusal := .next s.checkDone

/-- A tile's memories and its cores' register files are zero (R504). -/
def State.fillTile (s : State) (t : Nat) : State :=
  { s with
    cores := dropKeys s.cores 4 t, vm := dropKeys s.vm (2 ^ 21) t, tsm := dropKeys s.tsm (2 ^ 21) t
    bad := s.bad.filter (fun b => !((b.mem == 2 || b.mem == 3) && b.word * 8 / 2 ^ 21 == t)) }

/-- At a beat tick, D2 sessions whose beat E has come withdraw their tile and start the fill (R504). DEDUCED, log entry 42. -/
def State.sessionTick (s : State) : State :=
  (List.range 4).foldl (fun (t : State) n =>
    let x : Sess := t.kp.sess.getD n {}
    if t.fld Fld.DBG_SESS_STATE n = 1 ∧ !x.filling ∧ x.atBeat ≤ t.absBeat then
      { t with kp := { t.kp with sess := setAt t.kp.sess n { x with filling := true } } }
    else t) s

/-- DEBUG_FILL_DONE (R504): an opening fill makes the session ACTIVE; a closing fill frees the tile. -/
def State.debugFill (s : State) (tile : Nat) : State :=
  if s.kp.fills.contains tile then
    let t := s.fillTile tile
    { t with kp := { t.kp with fills := t.kp.fills.erase tile } }
  else
    match (List.range 4).find? (fun n => s.fld Fld.DBG_SESS_STATE n == 1 && s.fld Fld.DBG_SESS_TILE n == tile && (s.kp.sess.getD n {}).filling) with
    | none => s
    | some n => match (s.kp.sess.getD n {}).ctx with
      | some c => (s.fillTile tile).sessionOn n c
      | none => s

def execDebugFillDone (tile : Fin 64) (s : State) : Host.Outcome State Fault Refusal := .next (s.debugFill tile.val)

/-- At an epoch boundary: DURATION counts down, and a session whose DURATION runs out closes (R503). Void nonces go (R502), and
an installed credential governs from here on (R501). DEDUCED, log entry 42. -/
def State.debugEpoch (s : State) : State :=
  let t := (List.range 4).foldl (fun (t : State) n =>
    if t.fld Fld.DBG_SESS_STATE n ≠ 2 then t
    else if t.fld Fld.DBG_SESS_EPOCHS_LEFT n ≤ 1 then (t.closeSession n 1).bump .DBG_CNT_EXPIRED
    else t.setFld Fld.DBG_SESS_EPOCHS_LEFT n (t.fld Fld.DBG_SESS_EPOCHS_LEFT n - 1)) s
  { t with kp := { t.kp with
      nonces := t.kp.nonces.filter (fun x => x.live t.tm.epochCount), cred := t.kp.credNext.getD t.kp.cred, credNext := none } }

/-- The command's transport holds session `n`. -/
def State.ownsSession (s : State) (c : CmdCtx) (n : Nat) : Bool :=
  s.fld Fld.DBG_SESS_STATE n != 0 && s.reg .DBG_SESS_SRC n == (transport c.src).1 && s.reg .DBG_SESS_IP n == (transport c.src).2

/-- DBG_CLOSE (R503). -/
def State.dbgClose (s : State) (c : CmdCtx) : State :=
  let n := u8 c.payload 0
  if padCheck c.payload 4 1 ≠ 0 then s.reply c (padCheck c.payload 4 1)
  else if 3 < n then s.reply c 0x21
  else if !s.ownsSession c n then s.reply c 0x24
  else (s.closeSession n 0).reply c 0

def execDbgClose (c : CmdCtx) (s : State) : Host.Outcome State Fault Refusal := .next (s.served c (s.dbgClose c))

/-- DBG_QUERY. -/
def execDbgQuery (c : CmdCtx) (s : State) : Host.Outcome State Fault Refusal :=
  .next (s.served c (s.reply c (padCheck c.payload 0 0)
    ((List.range 4).flatMap (fun n => leBytes 4 (s.reg .DBG_SESS n) ++ leBytes 4 (s.reg .DBG_SESS_SRC n)))))

/-- CLOSE_ALL (R503): every session closes at the next beat tick. -/
def execCloseAll (src : Source) (s : State) : Host.Outcome State Fault Refusal := .next (s.busGate (RegId.offset .DBG_CTRL 0) src { s with kp := { s.kp with closeAll := true } })

/-- What CLOSE_ALL does at the tick. -/
def State.closeAllTick (s : State) : State :=
  if s.kp.closeAll then
    let t := (List.range 4).foldl (fun (t : State) n => t.closeSession n 5) s
    { t with kp := { t.kp with closeAll := false } }
  else s

/-- A session of level `l` is ACTIVE. -/
def State.levelActive (s : State) (l : Nat) : Bool :=
  (List.range 4).any (fun n => s.fld Fld.DBG_SESS_STATE n == 2 && s.fld Fld.DBG_SESS_LEVEL n == l)

/-! ## Test access, console and error injection (R505, R507) -/

/-- JTAG_INSTRUCTION: an instruction that may act is in effect; IDCODE gives its 32 bits. PRESUMED, log entry 44. -/
def State.jtag (s : State) (i : JtagInstr) : State :=
  let d3 := s.levelActive 3
  let ok := match i with
    | .bypass | .idcode | .sample => true
    | .extest => d3 || s.fld Fld.STEWARD_STAT_STATE == 0
    | .privateScan | .privateMemory => d3
  let t : State := { s with kp := { s.kp with tap := if ok then some i else none } }
  match i with
  | .idcode => { t with reads := t.reads ++ [leBytes 4 0x15120A63] }
  | _ => t

def execJtagInstruction (i : JtagInstr) (s : State) : Host.Outcome State Fault Refusal := .next (s.jtag i)

/-- UART_INPUT (R505). -/
def execUartInput (input : List Byte) (s : State) : Host.Outcome State Fault Refusal :=
  .next (if s.lifecycle = 0 ∨ s.lifecycle = 3 then { s with kp := { s.kp with console := s.kp.console ++ input } } else s)

/-- The keeper permits an injection into `target` by `source` (R507). -/
def State.flipAllowed (s : State) (target source : Nat) : Bool :=
  let l := s.lifecycle
  if l = 0 ∨ l = 3 then true
  else if l = 1 then s.levelActive 1 || s.levelActive 2
  else (target == 2 || target == 3) && decide (source < 256) && (List.range 4).any (fun n =>
    s.fld Fld.DBG_SESS_STATE n == 2 && s.fld Fld.DBG_SESS_LEVEL n == 2 && s.fld Fld.DBG_SESS_TILE n == source / 4)

/-- A write of ECC_FLIP_CFG (R476, R477): a 1 in ARM that the keeper refuses discards it; while the injector runs its RWL fields
are discarded, and ARM takes the written value. -/
def State.flipCfg (s : State) (v : Nat) (src : Source) : State :=
  let new := v % 65536
  if s.fld Fld.ECC_FLIP_CFG_ARM = 1 then (s.setFld Fld.ECC_FLIP_CFG_ARM 0 (new % 2)).werrReg .ECC_FLIP_CFG 0 src
  else if bitAt new 0 ∧ !s.flipAllowed (bits new 3 1) (bits new 12 4) then s.werrReg .ECC_FLIP_CFG 0 src
  else s.setReg .ECC_FLIP_CFG 0 new

def execEccFlipArm (value : Word) (src : Source) (s : State) : Host.Outcome State Fault Refusal := .next (s.busGate (RegId.offset .ECC_FLIP_CFG 0) src (s.flipCfg value.toNat src))

end Sys2Proof.Machine
end

