-- ==== Sys2Proof/Machine/Ledger.lean ====
section
/-!
DEFINITION. The ledger (R111 to R115, R377): the terms of every conserved quantity, the check of each beat, breaches, and the
snapshot registers.
-/
namespace Sys2Proof.Machine

/-! ## Quantities (Table 4.12) -/

/-- The instance of QTY 0x06 that names the module sum. -/
def allFlows : Nat := 0x7FFFFF

/-- QTY and INSTANCE of a LEDGER_SEL write are listed in Table 4.12 (R115, R354). DEDUCED, log entry 23. -/
def ledgerSelOk (q i : Nat) : Bool :=
  if q = 3 then i < 1024
  else if q = 4 then i < 8
  else if q = 5 then i < 64 && i % 16 < 12
  else if q = 6 then i < 5242880 || i == allFlows
  else if q = 7 then i < 4096
  else if q = 9 then i < 320
  else if q = 0xA then i < 16
  else 1 ≤ q && q ≤ 0xB && i == 0

/-- Terms of a credit quantity. -/
def creditList (d : Nat) (c : Option CreditTerms) : List Nat := match c with | some t => [t.atSender, t.inFlight, t.inBuffer] | none => [d, 0, 0]

/-- Credits that make up a quantity. -/
def creditTotalOf (q i : Nat) : Nat := if q = 5 then natAt vlCredits (i / 16) else Config.creditTotal q i

/-- Flows whose token is out, and curds and jobs that hold one. -/
def State.flowsOut (s : State) : Nat := (s.flows.filter (fun e => e.2.out)).length
def State.holders (s : State) : Nat := (s.curds.filter (fun c => c.token)).length

/-- A port's granules, both directions: 8,192 of each, 16,384 of each on a merged even port (R282). -/
def State.granTotal (s : State) (p : Nat) : Nat := 2 * s.granules p

/-- A DMA channel's descriptors that are armed and running (R377): hub channels 0 to 63, tile channels from 64. -/
def State.dmaTerms (s : State) (i : Nat) : Nat × Nat :=
  if i < 64 then (let x := Sparse.get {} s.dmas i; (x.armed.length, b2n x.active.isSome))
  else (let x := Sparse.get {} s.tchans ((i - 64) / 4 * 8 + (i - 64) % 4); (b2n x.armed.isSome, b2n x.active.isSome))
def dmaTotal (i : Nat) : Nat := if i < 64 then 3 else 2

/-- The terms of a quantity's invariant in the order of Table 4.12, and its total. `pool` is (pool, index, beat) of LEDGER_SEL2. DEDUCED, log entry 23. -/
def State.ledgerTerms (s : State) (q i : Nat) (pool : Nat × Nat × Nat) : List Nat × Nat :=
  if q = 1 then ([s.blk.freeArena, s.blk.freeGen, s.blk.order, s.blk.queue, s.blk.flow, s.blk.image, s.blk.system], 25165824)
  else if q = 2 then ([s.blk.nearFree, s.blk.nearQueue, s.blk.nearSystem], 49152)
  else if q ≤ 5 then
    let k := q * 2 ^ 24 + i
    (creditList (creditTotalOf q i) (Sparse.get none s.credits k), creditTotalOf q i)
  else if q = 6 then (if i = allFlows then ([s.flowsOut], s.holders) else ([b2n (s.flow i).atFlow, b2n (s.flow i).out], 1))
  else if q = 7 then (if s.qState i = 0 then ([0, 0, 0], 0) else ([s.qFree i, s.reg .Q_HELD i, s.qOcc i], s.qDepth i))
  else if q = 8 then
    match findCell s.cal pool.2.2 pool.1 pool.2.1 with
    | some x => ([x.free, x.res], x.admits)
    | none => ([0, 0], 0)
  else if q = 9 then
    let d := s.dmaTerms i
    ([dmaTotal i - d.1 - d.2, d.1, d.2], dmaTotal i)
  else if q = 0xA then
    let rx := ((s.port i).held.map FhHeld.granules).sum
    let tx := ((s.port i).txOut.map Prod.snd).sum
    ([s.fld Fld.FH_GRAN_RX_FREE i + s.fld Fld.FH_GRAN_TX_FREE i, rx, tx], s.granTotal i)
  else if q = 0xB then ([s.sentArmed, s.sentFree], 16384)
  else ([], 0)

/-- Sum of the terms less the total. DEDUCED, log entry 23. -/
def ledgerDelta (t : List Nat × Nat) : Int := (t.1.sum : Int) - (t.2 : Int)

/-! ## Breaches (R112, R113) -/

/-- What a breach isolates. -/
inductive LedgerUnit where
  | die (d : Nat) | hub | port (p : Nat) | link (l : Nat)
  deriving DecidableEq, Repr

/-- The compute die of an executor (Table 4.7). -/
def execDie (e : Nat) : Option Nat :=
  if e < 256 then some (e / 64) else if e < 320 then some ((e - 256) / 16) else if e < 352 then some ((e - 320) / 8)
  else if e < 368 then some ((e - 352) / 4) else if e < 376 then some ((e - 368) / 2) else if e < 384 then some ((e - 376) / 2) else none

/-- Last column of Table 4.12. -/
def State.ledgerUnit (s : State) (q i : Nat) (pool : Nat × Nat × Nat) : LedgerUnit :=
  if q = 3 then .die (bits i 5 4)
  else if q = 4 then .die (bits i 1 0)
  else if q = 5 then .link (i % 16)
  else if q = 6 then
    if i ≠ allFlows ∧ (s.flow i).out then (match execDie (s.flow i).holder with | some d => .die d | none => .hub) else .hub
  else if q = 8 then (if perDiePool pool.1 then .die pool.2.1 else .hub)
  else if q = 9 then (if 64 ≤ i then .die ((i - 64) / 64) else .hub)
  else if q = 0xA then .port i
  else .hub

/-- UNIT of the LEDGER_BREACH event. -/
def LedgerUnit.code : LedgerUnit → Nat
  | .die d => d | .hub => 4 | .port p => 0x10 + p | .link l => 0x20 + l

/-- The quantity as the hub's own records give it (R113): owner counts, sender counters, and holdings. DEDUCED, log entry 24. -/
def State.ledgerRepair (s : State) (q i : Nat) (pool : Nat × Nat × Nat) : State :=
  if q = 1 ∨ q = 2 then
    let n := fun (near : Bool) (p : Owner → Bool) =>
      (s.own.filter (fun e => decide (e.1 ≥ 0x8000000) == near && (match e.2 with | some o => p o | none => false))).length
    let ord := n false (fun o => match o with | .order _ => true | _ => false)
    let que := n false (fun o => match o with | .queue _ => true | _ => false)
    let flw := n false (fun o => match o with | .flow _ => true | _ => false)
    let img := n false (fun o => match o with | .image _ _ => true | _ => false)
    let nq := n true (fun _ => true)
    { s with blk := { freeArena := arenaN - ord, freeGen := genN - que - flw - img, order := ord, queue := que, flow := flw, image := img
                      nearFree := ringN - nq, nearQueue := nq } }
  else if q ≤ 5 then { s with credits := Sparse.set none s.credits (q * 2 ^ 24 + i) none }
  else if q = 6 then
    if i = allFlows then
      let held := fun f => s.curds.any (fun c => c.token && c.flow == f)
      { s with flows := s.flows.map (fun e => (e.1, { e.2 with out := held e.1, atFlow := !held e.1 })) }
    else s.setFlow i { s.flow i with atFlow := !(s.flow i).out }
  else if q = 7 then
    -- slots held: those of admitted orders, of commands whose reply is due, and of enqueues not yet settled
    let held := (s.orders.filter (fun o => o.resultQ == i)).length
      + ((s.mg.held.filter (fun h => s.fld Fld.CMD_PAIR_CFG_REPLY_Q h.1 == i)).map (fun h => h.2.2)).sum
      + (s.qEnqs.map (fun x => match x with | .put e => if e.queue = i then e.held else 0 | _ => 0)).sum
    s.setReg .Q_HELD i (min held (s.qDepth i - s.qOcc i))
  else if q = 9 then
    if i < 64 then (let x := Sparse.get {} s.dmas i; { s with dmas := Sparse.set {} s.dmas i { x with armed := x.armed.eraseDups.take 2 } }) else s
  else if q = 8 then
    { s with cal := mapCells s.cal (· == pool.2.2) (fun x => x.pool == pool.1 && x.index == pool.2.1) (fun x =>
        { x with free := x.admits - x.res, res := min x.res x.admits }) }
  else if q = 0xA then s.granReset i
  else if q = 0xB then { s with sentArmed := s.orders.length, sentFree := 16384 - s.orders.length }
  else s

/-- INSTANCE of the registers, the record and the event: for the calendar the layout of LEDGER_SEL2 does not fit 24 bits, and
0 stands. DEDUCED, log entry 24. -/
def State.breach (s : State) (q i : Nat) (pool : Nat × Nat × Nat) : State :=
  let d := ledgerDelta (s.ledgerTerms q i pool)
  let u := s.ledgerUnit q i pool
  let id := q + i * 256
  let t := ((((s.setReg .LEDGER_LAST_QTY 0 id).setReg .LEDGER_LAST_STAMP 0 s.stamp).setReg .LEDGER_LAST_DELTA 0 (enc 32 d)).bump
    .LEDGER_BREACHES).errStore 4 ⟨s.stamp, 0x50, 0xF0, 4, 0, id, 0x3FF, 0x7F, 0, none, 1, 0, s.absBeat, id⟩
  let t := match u with
    | .die d => t.isolateDie d 2
    | .port p => t.fhLinkDown p
    | .link l => if 2 ≤ t.flState l ∧ t.flState l ≤ 4 then t.flLose l else t
    | .hub => t.closeRennet
  (t.event 0x0010 (match u with | .hub => 3 | _ => 2) u.code q i).ledgerRepair q i pool

/-- The check of one quantity. DEDUCED, log entry 23. -/
def State.ledgerCheck (s : State) (x : Nat × Nat × Nat × Nat × Nat) : State :=
  if ledgerDelta (s.ledgerTerms x.1 x.2.1 x.2.2) = 0 then s else s.breach x.1 x.2.1 x.2.2

/-- Every quantity and instance whose terms can differ from their initial state. DEDUCED, log entry 23. -/
def State.ledgerAll (s : State) : List (Nat × Nat × Nat × Nat × Nat) :=
  [(1, 0, 0, 0, 0), (2, 0, 0, 0, 0)] ++ s.credits.map (fun e => (e.1 / 2 ^ 24, e.1 % 2 ^ 24, 0, 0, 0))
    ++ s.flows.map (fun e => (6, e.1, 0, 0, 0)) ++ [(6, allFlows, 0, 0, 0)]
    ++ (List.range 4096).map (fun q => (7, q, 0, 0, 0))
    ++ (s.cal.filter (fun c => c.beat != s.beat)).flatMap (fun c => c.cells.map (fun x => (8, 0, x.pool, x.index, c.beat)))
    ++ s.dmas.map (fun e => (9, e.1, 0, 0, 0))
    ++ (s.tchans.filter (fun e => e.1 % 8 < 4)).map (fun e => (9, 64 + e.1 / 8 * 4 + e.1 % 8, 0, 0, 0))
    ++ (List.range 16).map (fun p => (0xA, p, 0, 0, 0)) ++ [(0xB, 0, 0, 0, 0)]

/-- LEDGER_SEL2 as (pool, index, beat). -/
def State.ledgerPool (s : State) : Nat × Nat × Nat :=
  (s.fld Fld.LEDGER_SEL2_POOL, s.fld Fld.LEDGER_SEL2_INDEX, s.fld Fld.LEDGER_SEL2_BEAT)

/-- The snapshot that a write of LEDGER_SEL requested (R115). DEDUCED, log entry 23. -/
def State.ledgerSnap (s : State) : State :=
  let q := s.fld Fld.LEDGER_SEL_QTY
  if q = 0 ∨ s.fld Fld.LEDGER_SNAP_VALID = 1 then s
  else
    let t := s.ledgerTerms q (s.fld Fld.LEDGER_SEL_INSTANCE) s.ledgerPool
    ((List.range 8).foldl (fun (u : State) n => u.setReg .LEDGER_SUM n (natAt (t.1 ++ [t.2]) n % 2 ^ 32)) s).setFld Fld.LEDGER_SNAP_VALID 0 1

/-- The ledger at grain 1,012 (R33, R111, R115). -/
def State.ledgerBeat (s : State) : State :=
  if s.gridRun ∧ s.grain = 1012 then (s.ledgerAll.foldl State.ledgerCheck s).ledgerSnap else s

/-- LEDGER_BEAT_CHECK (R111). -/
def execLedgerBeatCheck (s : State) : Host.Outcome State Fault Refusal := .next s.ledgerBeat

/-- A write of LEDGER_SEL (R115). -/
def State.ledgerSel (s : State) (v : Nat) (src : Source) : State :=
  if ledgerSelOk (bits v 7 0) (bits v 31 8) then (s.setReg .LEDGER_SEL 0 v).setReg .LEDGER_SNAP 0 0 else s.werrReg .LEDGER_SEL 0 src

/-- LEDGER_SEL_WRITE (R115). -/
def execLedgerSelWrite (value : Word) (src : Source) (s : State) : Host.Outcome State Fault Refusal := .next (s.busGate (RegId.offset .LEDGER_SEL 0) src (s.ledgerSel value.toNat src))

end Sys2Proof.Machine
end

