-- ==== Sys2Proof/Machine/Time.lean ====
section
/-!
DEFINITION. The grid, the pulse outputs and capture inputs, the steering DACs, and the messages of the boundary clock
(R380, R382, R384 to R387, R395 to R406).
-/
namespace Sys2Proof.Machine

/-! ## The grid (R386) -/

/-- GRID_ENABLE: the grid starts at the first beat start after the write. -/
def execGridEnable (src : Source) (s : State) : Host.Outcome State Fault Refusal := .next (s.busGate (RegId.offset .TIME_CTRL 0) src s.gridArm)

/-- GRID_DISABLE: only while the calendar is closed and no sentinel is armed. -/
def State.gridDisable (s : State) (src : Source) : State :=
  if s.fld Fld.RENNET_CTRL_OPEN = 0 ∧ s.sentArmed = 0 then
    let t := s.setFld Fld.TIME_CTRL_GRID_EN 0 0
    { t with tm := { t.tm with gridArm := false, gridStop := s.gridRun } }
  else s.werrReg .TIME_CTRL 0 src

def execGridDisable (src : Source) (s : State) : Host.Outcome State Fault Refusal := .next (s.busGate (RegId.offset .TIME_CTRL 0) src (s.gridDisable src))

/-- GRID_START: at the first beat start after GRID_EN was written; the calendar's columns open, and step 10 of Table 21.1 completes. TIME_INCR keeps to R381 from
here on. RWS and RWE words accepted while the grid was stopped take effect at this first beat tick and, where it is one, epoch boundary (R7). DEDUCED, log entry 30. -/
def State.gridStart (s : State) : State :=
  if s.tm.gridArm ∧ !s.gridRun then
    let s1 := s.setIncr (s.clampIncr s.incr)
    let b := s1.beatOfNs s1.tm.ns + 1
    let s2 := (s1.advanceTo (s1.grainPair (b * 1024))).setFld Fld.TIME_STAT_GRID_RUN 0 1
    let s3 : State := { s2 with tm := { s2.tm with gridArm := false, absGrain := b * 1024, ticked := none, epochAt := none } }
    let s4 : State := { s3 with rwsLatched := overlay s3.rwsLatched s3.rwsNew, rwsNew := [] }
    let s5 : State := if s3.beat % 1280 = 0 then { s4 with rweLatched := overlay s4.rweLatched s4.rweNew, rweNew := [] } else s4
    (s5.openCalendar s5.beat).bootStep 10
  else s

def execGridStart (s : State) : Host.Outcome State Fault Refusal := .next s.gridStart

/-- TIME_STEP (R380): the step is added at the next edge. -/
def State.timeStep (s : State) (src : Source) : State :=
  if s.gridRun then s.werrReg .TIME_CTRL 0 src
  else
    { s with tm := { s.tm with
        stepPending := some (s.tm.stepPending.getD 0 + sext 64 (s.reg2 .TIME_STEP_LO .TIME_STEP_HI)) } }

def execTimeStep (src : Source) (s : State) : Host.Outcome State Fault Refusal := .next (s.busGate (RegId.offset .TIME_CTRL 0) src (s.timeStep src))

/-- TIME_CLR_STATS (R405). -/
def State.timeClr (s : State) : State :=
  (List.range 4).foldl (fun (t : State) n => t.setReg .TRIG_CNT_OVF n 0)
    (s.clearRegs [.TIME_CNT_SWITCH, .TIME_CNT_HOLDOVER, .TIME_CNT_LOSS])

def execTimeClrStats (src : Source) (s : State) : Host.Outcome State Fault Refusal := .next (s.busGate (RegId.offset .TIME_CTRL 0) src s.timeClr)

/-- A read of TIME_NS_LO latches the other two registers from the same edge (R382). DEDUCED, log entry 58. -/
def State.timeLatch (s : State) : State :=
  (s.setReg .TIME_NS_HI 0 (s.tm.ns / 2 ^ 32 % 2 ^ 32)).setReg .TIME_FRAC 0 s.tm.frac

/-! ## Pulse outputs (R400) -/

/-- The 80-bit MASK of a generator. -/
def State.tpoMask (s : State) (n : Nat) : Nat :=
  s.reg .TPO_MASK0 n + s.reg .TPO_MASK1 n * 2 ^ 32 + s.fld Fld.TPO_MASK2_BEATS n * 2 ^ 64

/-- The level before POL that a generator's settings give at the present time. A PERIOD and WIDTH outside R400 give a free
level. -/
def State.tpoLevel (s : State) (n : Nat) : Bool :=
  let st := s.reg2 .TPO_START_LO .TPO_START_HI n
  let w := s.reg .TPO_WIDTH n
  let t := s.tm.ns
  let en := (s.tm.tpo.getD n {}).enNs
  if s.fld Fld.TPO_CTRL_EN n = 0 then false
  else match s.fld Fld.TPO_CTRL_MODE n with
    | 0 => decide (en < st ∧ st ≤ t ∧ t < st + w)
    | 1 =>
      let p := s.reg .TPO_PERIOD_LO n + 2 ^ 32 * s.fld Fld.TPO_PERIOD_HI_NS n
      if w = 0 ∨ p ≤ w then s.pick 2 == 1
      else decide (st ≤ t ∧ en < st + (t - st) / p * p ∧ (t - st) % p < w)
    | 2 =>
      let f := (((t : Int) - sext 32 (s.reg .TPO_OFS n) - s.frame0) / 125000).toNat % 80
      s.gridRun && bitAt (s.tpoMask n) f
    | _ => s.pick 2 == 1

/-- Output TPOn. -/
def State.tpoPin (s : State) (n : Nat) : Bool := xor (s.tm.tpo.getD n {}).active (s.fld Fld.TPO_CTRL_POL n == 1)

/-- TPO_EDGE: the output takes the level of this time. DESIGN CHOICE, log entry 57. -/
def State.tpoEdge (s : State) (n : Nat) : State :=
  { s.used with tm := { s.tm with tpo := modAt s.tm.tpo n (fun (g : PulseGen) => { g with active := s.tpoLevel n }) } }

def execTpoEdge (gen : Fin 8) (s : State) : Host.Outcome State Fault Refusal := .next (s.tpoEdge gen.val)

/-- What a change of EN does: a START that is not in the future gives no pulse and sets MISSED. -/
def State.tpoEnable (s : State) (n : Nat) (en : Bool) : State :=
  let s1 := (s.setFld Fld.TPO_CTRL_EN n (b2n en)).setFld Fld.TPO_STAT_RUN n (b2n en)
  if en = (s.fld Fld.TPO_CTRL_EN n == 1) then s1
  else
    let s2 : State := { s1 with tm := { s1.tm with tpo := modAt s1.tm.tpo n (fun (_ : PulseGen) => ⟨false, s.tm.ns⟩) } }
    let s3 := s2.tpoEdge n
    if en ∧ s.fld Fld.TPO_CTRL_MODE n = 0 ∧ s.reg2 .TPO_START_LO .TPO_START_HI n ≤ s.tm.ns then s3.setFld Fld.TPO_STAT_MISSED n 1 else s3

/-! ## Capture inputs (R401) -/

/-- TRIG_EDGE: `short` says that the edge belongs to a pulse shorter than 8 ns. DESIGN CHOICE, log entry 57. -/
def State.trigEdge (s : State) (n : Nat) (rise short : Bool) : State :=
  let e := s.fld Fld.TRIG_CFG_EDGE n
  let sel := if e = 0 then rise else if e = 1 then !rise else if e = 2 then true else s.pick 2 == 1
  if s.fld Fld.TRIG_CFG_EN n = 0 ∨ short ∨ !sel then s.used
  else if 16 ≤ (s.tm.trig.getD n []).length then s.used.bump .TRIG_CNT_OVF n
  else
    { s.used with tm := { s.tm with trig := modAt s.tm.trig n (fun (q : List TrigEntry) => q ++ [⟨s.tm.ns, s.tm.frac / 2 ^ 16, rise⟩]) } }

def execTrigEdge (input : Fin 4) (rise short : Bool) (s : State) : Host.Outcome State Fault Refusal :=
  .next (s.trigEdge input.val rise short)

/-- TRIG_POP. -/
def State.trigPop (s : State) (n : Nat) : State :=
  match s.tm.trig.getD n [] with
  | [] => s.setFld Fld.TRIG_TS_INFO_VALID n 0
  | x :: r =>
    let t : State := { s with tm := { s.tm with trig := setAt s.tm.trig n r } }
    (t.setReg2 .TRIG_TS_LO .TRIG_TS_HI n x.ns).setReg .TRIG_TS_INFO n (1 + 2 * b2n x.rise + x.frac * 2 ^ 16)

def execTrigPop (input : Fin 4) (src : Source) (s : State) : Host.Outcome State Fault Refusal := .next (s.busGate (RegId.offset .TRIG_POP input.val) src (s.trigPop input.val))

/-! ## Steering DACs (R395, R398, R399, R402 to R404) -/

/-- A code held within CODE_MIN to CODE_MAX (R402). -/
def State.dacClamp (s : State) (n code : Nat) : Nat :=
  max (s.fld Fld.DAC_CODE_MIN_CODE n) (min (s.fld Fld.DAC_CODE_MAX_CODE n) code)

/-- STEER1 follows STEER0. DESIGN CHOICE, log entry 57. -/
def State.mirror (s : State) : Bool := s.fld Fld.DAC_CFG_MIRROR 1 == 1

/-- A code takes effect on a DAC, and in MIRROR on STEER1 too. DESIGN CHOICE, log entry 57. -/
def State.dacApply (s : State) (n code : Nat) : State :=
  let s1 := s.setReg .DAC_CODE n (s.dacClamp n code)
  if n = 0 ∧ s.mirror ∧ s.fld Fld.DAC_CFG_RUN 1 = 1 ∧ s.fld Fld.DAC_STAT_FAULT 1 = 0 then
    s1.setReg .DAC_CODE 1 (s.dacClamp 1 code)
  else s1

/-- The STEER0 loop appends codes now (R392, R395): the recovered clock of a port that is not UP, or whose QL is DNU, holds it. -/
def State.loopRuns (s : State) : Bool :=
  let p := s.fld Fld.TIME_FREQ_SRC_PORT
  s.fld Fld.TIME_CTRL_STEER_EN == 1 && s.servoAuto && (s.servo == 1 || s.servo == 2) && s.fld Fld.DAC_STAT_FAULT 0 == 0
    && (s.fld Fld.TIME_FREQ_SRC_SYNCE == 0 || (s.fhState p == 2 && s.fld Fld.TIME_SRC_STAT_RX_QL p != 0xF))

/-- The next k (R395), for a correction in 2^-32 of nominal; a RATE or TAU of 0 gives a free one. DESIGN CHOICE, log entry 57. -/
def State.loopK (s : State) (dev : Int) : Int :=
  let lo : Int := (s.fld Fld.DAC_CODE_MIN_CODE 0 * 2 ^ 16 : Nat)
  let hi : Int := (s.fld Fld.DAC_CODE_MAX_CODE 0 * 2 ^ 16 : Nat)
  let den := 2 ^ 24 * s.fld Fld.DAC_TAU_SECONDS 0 * s.fld Fld.DAC_CFG_RATE 0
  if den = 0 then clampI lo hi (s.pick (2 ^ 40) : Nat)
  else clampI lo hi ((s.dac 0).k + s.roundFree (sext 32 (s.reg .DAC_KSENS 0) * dev * 10 ^ 9) den)

/-- The loop's part of a sample instant. DESIGN CHOICE, log entry 57. -/
def State.loopSample (s : State) (sync : Int) : State :=
  if s.loopRuns then
    let dev := if s.fld Fld.TIME_FREQ_SRC_SYNCE = 1 then sync else (s.incr : Int) - (2 ^ 32 : Nat)
    let k := s.loopK dev
    s.used.setDac 0 { s.dac 0 with k := k, queue := (s.dac 0).queue ++ [((k + 2 ^ 15) / (2 ^ 16 : Nat)).toNat] }
  else s

/-- The oldest queue entry takes effect. While the loop does not steer, k follows the code in force. -/
def State.dacTake (s : State) (n : Nat) : State :=
  match (s.dac n).queue with
  | [] => s.bump .DAC_CNT_UNDER n
  | c :: r =>
    let s1 := s.dacApply n c
    let a := s1.fld Fld.DAC_CODE_CODE n
    if n = 0 ∧ s.fld Fld.TIME_CTRL_STEER_EN = 1 then
      let s2 := s1.setDac 0 { s1.dac 0 with queue := r }
      { s2 with tm := { s2.tm with curSum := s2.tm.curSum + a, curN := s2.tm.curN + 1 } }
    else s1.setDac n { s1.dac n with queue := r, k := (a * 2 ^ 16 : Nat) }

/-- DAC_SAMPLE (R395, R403) at a sample instant of a DAC; `sync` is the recovered clock's frequency relative to REFCLK_IN over
the sample period, in 2^-32. In MIRROR, STEER1 takes its codes from STEER0. -/
def State.dacSample (s : State) (n : Nat) (sync : Int) : State :=
  if s.fld Fld.DAC_CFG_RUN n = 0 ∨ (n = 1 ∧ s.mirror) then s
  else (if n = 0 then s.loopSample sync else s).dacTake n

def execDacSample (dac : Fin 2) (sync : Int) (s : State) : Host.Outcome State Fault Refusal := .next (s.dacSample dac.val sync)

/-- Host writes to a DAC's queue and to its holdover code are refused: STEER0 under STEER_EN, STEER1 in MIRROR. -/
def State.dacOwned (s : State) (n : Nat) : Bool := if n = 0 then s.fld Fld.TIME_CTRL_STEER_EN == 1 else s.mirror

/-- DAC_QUEUE_WRITE (R403). -/
def State.dacQueue (s : State) (n v : Nat) (src : Source) : State :=
  if s.dacOwned n then s.werrReg .DAC_QUEUE n src
  else if 16 ≤ (s.dac n).queue.length then s.bump .DAC_CNT_OVF n
  else s.setDac n { s.dac n with queue := (s.dac n).queue ++ [v % 2 ^ 24] }

def execDacQueueWrite (dac : Fin 2) (value : Word) (src : Source) (s : State) : Host.Outcome State Fault Refusal :=
  .next (s.busGate (RegId.offset .DAC_QUEUE dac.val) src (s.dacQueue dac.val value.toNat src))

/-- A holdover code into non-volatile memory. DESIGN CHOICE, log entry 57. -/
def State.hoWrite (s : State) (n code : Nat) : State :=
  ((s.setDac n { s.dac n with hoCode := some code }).setFld Fld.DAC_STAT_HO_VALID n 1).setReg .DAC_HO n code

/-- DAC_HO_SET (R406): at once, which is within one epoch. -/
def execDacHoSet (dac : Fin 2) (value : Word) (src : Source) (s : State) : Host.Outcome State Fault Refusal :=
  .next (s.busGate (RegId.offset .DAC_HO_SET dac.val) src (if s.dacOwned dac.val then s.werrReg .DAC_HO_SET dac.val src else s.hoWrite dac.val (value.toNat % 2 ^ 24)))

/-- DAC_RESTART (R404): `gone` says that the fault condition has gone. DEDUCED, log entry 63. -/
def execDacRestart (dac : Fin 2) (gone : Bool) (src : Source) (s : State) : Host.Outcome State Fault Refusal :=
  .next (s.busGate (RegId.offset .DAC_CTRL dac.val) src (if gone then s.setFld Fld.DAC_STAT_FAULT dac.val 0 else s))

/-- DAC_CLR_STATS (R406). -/
def execDacClrStats (dac : Fin 2) (src : Source) (s : State) : Host.Outcome State Fault Refusal :=
  .next (s.busGate (RegId.offset .DAC_CTRL dac.val) src (s.clearRegs [.DAC_CNT_OVF, .DAC_CNT_UNDER, .DAC_CNT_HO_WR] dac.val))

/-- The output returns to the holdover code, 0x80_0000 without a record (R404). -/
def State.dacHold (s : State) (n : Nat) : State :=
  let c := (s.dac n).hoCode.getD 0x800000
  (s.setDac n { s.dac n with queue := [], k := (c * 2 ^ 16 : Nat) }).setReg .DAC_CODE n c

/-- DAC_FAULT (R404). -/
def execDacFault (dac : Fin 2) (s : State) : Host.Outcome State Fault Refusal :=
  .next (((s.dacHold dac.val).setFld Fld.DAC_STAT_FAULT dac.val 1).event 0x0003 2 dac.val)

/-- HOLDOVER_CODE_WRITE (R399): a refresh that is due; one that falls due while the steward restarts is missed. DESIGN CHOICE, log entry 57. -/
def State.holdoverWrite (s : State) : State :=
  match s.tm.hoDue with
  | none => s
  | some m =>
    let s1 : State := { s with tm := { s.tm with hoDue := none } }
    let l := s.tm.epochs.filter (fun e => e.locked)
    let sum := (l.map (fun e => e.sum)).sum
    let n := (l.map (fun e => e.n)).sum
    if s.fld Fld.TIME_CTRL_STEER_EN = 1 ∧ s.fld Fld.STEWARD_STAT_STATE = 1 ∧ m ≤ l.length ∧ n ≠ 0 then
      let c := if 2 * (sum % n) = n then sum / n + s.pick 2 else (2 * sum + n) / (2 * n)
      let s2 := (s1.used.hoWrite 0 c).bump .DAC_CNT_HO_WR 0
      if s.mirror then (s2.hoWrite 1 c).bump .DAC_CNT_HO_WR 1 else s2
    else s1

def execHoldoverCodeWrite (s : State) : Host.Outcome State Fault Refusal := .next s.holdoverWrite

/-! ## Boundary clock and SyncE (R396, R397) -/

/-- Ports that carry PTP. -/
def State.ptpOn (s : State) (p : Nat) : Bool := s.fld Fld.FH_CFG_PTP_EN p == 1 && s.fhState p == 2

/-- IEEE 1588 state of a port (R396): 3 DISABLED, 4 LISTENING while its link is not UP, 6 MASTER, 7 PASSIVE, 9 SLAVE. PRESUMED, log entry 31. -/
def State.ptpState (s : State) (p : Nat) : Nat :=
  if s.fld Fld.FH_CFG_PTP_EN p = 0 then 3
  else if s.fhState p ≠ 2 then 4
  else if s.fld Fld.TIME_PTP_PORT_MASTER_ONLY p = 1 then 6
  else if s.srcCur = some p then 9
  else
    let q := s.source p
    if s.sourceOk p && lexLt [q.cls, q.accuracy, q.variance, q.prio2, q.steps] s.advertised then 7 else 6

/-- PTP_MESSAGE_TX (R300, R396): 0 Announce, 1 Sync in one step, 2 Delay_Req. An Announce carries the quality of Table 15.3, the
module's clockIdentity as the grandmaster's unless it follows a source, and UTC_OFS; what the spec does not give of it is a free
value. PRESUMED, log entry 31. -/
def State.ptpSend (s : State) (p kind : Nat) : State :=
  let st := s.ptpState p
  let s1 := s.setFld Fld.TIME_PTP_PORT_STATE p st
  let a := s.advertised
  let quality := leBytes 1 (natAt a 0) ++ leBytes 1 (natAt a 1) ++ beBytes 2 (natAt a 2) ++ leBytes 1 (natAt a 3)
  let gm := if s.srcCur = none then s.kp.serial else s.pick (2 ^ 64)
  let body := if kind = 0 then
      ptpStamp s.tm.ns ++ beBytes 2 (s.fld Fld.TIME_UTC_UTC_OFS) ++ zeros 1 ++ leBytes 1 128 ++ quality ++ beBytes 8 gm
        ++ beBytes 2 (natAt a 4) ++ leBytes 1 (s.pick 256)
    else ptpStamp (s.asymNs p s.tm.ns)
  let note := if kind = 0 then quality ++ beBytes 2 (natAt a 4) ++ beBytes 2 (s.fld Fld.TIME_UTC_UTC_OFS) else []
  if s.ptpOn p && (if kind = 2 then st == 9 else st == 6) then
    s1.ptpOut p kind (natAt [0xB, 0, 1] kind) (if kind = 0 then s.tm.ns else s.asymNs p s.tm.ns) (s.ptpSent p kind) note body
  else s1

def execPtpMessageTx (port : Fin 16) (kind : Fin 3) (s : State) : Host.Outcome State Fault Refusal := .next (s.ptpSend port.val kind.val)

/-- PTP_MESSAGE_RX (R300): the message from its first byte, timestamped at `ns`.`frac` where it passes the timestamp point. -/
def execPtpMessageRx (port : Fin 16) (ns frac : Nat) (msg : List Byte) (s : State) : Host.Outcome State Fault Refusal :=
  .next (if s.ptpOn port.val then
      (s.setFld Fld.TIME_PTP_PORT_STATE port.val (s.ptpState port.val)).ptpMessage port.val ns frac msg
    else s)

/-- The port whose received clock the STEER0 loop follows. -/
def State.syncePort (s : State) : Option Nat :=
  if s.fld Fld.TIME_CTRL_STEER_EN = 1 ∧ s.fld Fld.TIME_FREQ_SRC_SYNCE = 1 ∧ (s.servoRead = 1 ∨ s.servoRead = 2) then
    some (s.fld Fld.TIME_FREQ_SRC_PORT)
  else none

/-- The SSM code that a port sends (R397): 0xF is DNU, 0xB that of an eEEC. PRESUMED, log entry 31. -/
def State.txQl (s : State) (p : Nat) : Nat :=
  match s.syncePort with
  | some q => if q = p then 0xF else s.fld Fld.TIME_SRC_STAT_RX_QL q
  | none => 0xB

/-- Ports in modes 1 to 3 with their link up exchange ESMC PDUs. -/
def State.esmcOn (s : State) (p : Nat) : Bool := 1 ≤ s.fld Fld.FH_CFG_MODE p && s.fld Fld.FH_CFG_MODE p ≤ 3 && s.fhState p == 2

/-- An ESMC PDU (ITU-T G.8264): slow-protocol address and subtype 0x0A, ITU-T's OUI, version 1 with the event flag, and the QL TLV.
PRESUMED, log entry 31. -/
def State.esmcFrame (s : State) (p : Nat) (change : Bool) : List Byte :=
  beBytes 6 0x0180C2000002 ++ beBytes 6 (macOf (s.reg .FH_MAC_LO p) (s.reg .FH_MAC_HI p)) ++ beBytes 2 0x8809
    ++ leBytes 1 0x0A ++ beBytes 3 0x0019A7 ++ beBytes 2 1 ++ leBytes 1 (0x10 + 8 * b2n change) ++ zeros 3
    ++ leBytes 1 1 ++ beBytes 2 4 ++ leBytes 1 (s.txQl p)

/-- ESMC_PDU_TX (R397): an information PDU, or an event PDU after a change. -/
def execEsmcPduTx (port : Fin 16) (change : Bool) (s : State) : Host.Outcome State Fault Refusal :=
  .next (if s.esmcOn port.val then
      { s.sendFrame port.val (s.esmcFrame port.val change) (s.secTime port.val) with
        tm := { s.tm with ptpTx := s.tm.ptpTx ++ [⟨port.val, if change then 11 else 10, s.tm.ns, s.tm.frac, leBytes 1 (s.txQl port.val)⟩] } }
    else s)

/-- ESMC_PDU_RX (R301): a PDU from its subtype byte on. -/
def execEsmcPduRx (port : Fin 16) (pdu : List Byte) (s : State) : Host.Outcome State Fault Refusal :=
  .next (if s.esmcOn port.val then s.esmcPdu port.val s.tm.ns pdu else s)

/-- SYNCE_CLK_OUT0 and 1 (R397): the port whose clock it carries and whether at 156.25 MHz; none while held low. -/
def State.synceOut (s : State) (n : Nat) : Option (Nat × Bool) :=
  let w := s.reg .TIME_SYNCE_OUT
  let p := bits w (8 * n + 3) (8 * n)
  if bitAt w (8 * n + 4) && s.fhState p == 2 then some (p, bitAt w (8 * n + 5)) else none

/-! ## PPS_IN and TOD_IN (Table 15.1) -/

/-- PPS_EDGE (R387). A pulse outside 1 s ± 1 µs after the last one loses source 17. -/
def State.ppsEdge (s : State) (rise : Bool) : State :=
  if rise ≠ (s.fld Fld.TIME_PPS_POL == 0) then s
  else
    let t := ((s.tm.ns : Int) - sext 16 (s.fld Fld.TIME_PPS_PPS_DELAY)).toNat
    let ok := match s.tm.lastPps with
      | some l => decide (l + 999999000 ≤ t ∧ t ≤ l + 1000001000)
      | none => false
    let s1 := if s.tm.lastPps.isSome ∧ !ok then s.sourceLost 17 else s
    { s1 with tm := { s1.tm with
        lastPps := some t, todOk := false
        ppsRun := if ok && s.tm.todOk then s.tm.ppsRun + 1 else 0 } }

def execPpsEdge (rise : Bool) (s : State) : Host.Outcome State Fault Refusal := .next (s.ppsEdge rise)

/-- Splits a sentence at its commas. PRESUMED, log entry 31. -/
def nmeaFields (p : List Nat) : List (List Nat) :=
  p.foldr (fun c r => if c = 0x2C then [] :: r else match r with | f :: t => (c :: f) :: t | [] => [[c]]) [[]]

/-- A decimal number of digits, none when another character stands among them. -/
def decNum (f : List Nat) : Option Nat :=
  if f.isEmpty || f.any (fun c => c < 0x30 || 0x39 < c) then none else some (f.foldl (fun a c => a * 10 + (c - 0x30)) 0)

def hexDigit (c : Nat) : Option Nat :=
  if 0x30 ≤ c ∧ c ≤ 0x39 then some (c - 0x30) else if 0x41 ≤ c ∧ c ≤ 0x46 then some (c - 0x37)
  else if 0x61 ≤ c ∧ c ≤ 0x66 then some (c - 0x57) else none

/-- Days from 1970-01-01 to a date. -/
def daysFromDate (y m d : Nat) : Nat :=
  let leap := fun (y : Nat) => y % 4 = 0 ∧ (y % 100 ≠ 0 ∨ y % 400 = 0)
  let mdays := [31, if leap y then 29 else 28, 31, 30, 31, 30, 31, 31, 30, 31, 30, 31]
  (y - 1970) * 365 + ((y - 1) / 4 - (y - 1) / 100 + (y - 1) / 400 - 477) + (mdays.take (m - 1)).sum + (d - 1)

/-- The UTC second that an NMEA 0183 ZDA or RMC sentence carries, when its checksum is valid. PRESUMED, log entry 31. -/
def nmeaSecond (text : List Byte) : Option Nat :=
  let p := text.map BitVec.toNat
  match p with
  | 0x24 :: r =>
    let body := r.takeWhile (· != 0x2A)
    let tail := r.drop (body.length + 1)
    let sum := match tail with
      | a :: b :: _ => (match hexDigit a, hexDigit b with | some x, some y => some (16 * x + y) | _, _ => none)
      | _ => none
    if sum ≠ some (body.foldl Nat.xor 0) then none
    else
      let f := nmeaFields body
      let ty := (f.getD 0 []).drop 2
      let hms := decNum ((f.getD 1 []).take 6)
      let date := if ty = [0x5A, 0x44, 0x41] then
          (match decNum (f.getD 2 []), decNum (f.getD 3 []), decNum (f.getD 4 []) with
            | some d, some m, some y => some (y, m, d) | _, _, _ => none)
        else if ty = [0x52, 0x4D, 0x43] then
          (match decNum (f.getD 9 []) with
            | some v => some (2000 + v % 100, v / 100 % 100, v / 10000) | none => none)
        else none
      match hms, date with
      | some h, some (y, m, d) =>
        if 1970 ≤ y ∧ 1 ≤ m ∧ m ≤ 12 ∧ 1 ≤ d ∧ d ≤ 31 then
          some (daysFromDate y m d * 86400 + h / 10000 * 3600 + h / 100 % 100 * 60 + h % 100)
        else none
      | _, _ => none
  | _ => none

/-- TOD_SENTENCE (R387), received at 115,200 baud when `fast`: it names a second in TAI; one that does not follow the second
named before loses source 17. PRESUMED, log entry 31. -/
def State.todSentence (s : State) (fast : Bool) (text : List Byte) : State :=
  if fast ≠ (s.fld Fld.TIME_PPS_TOD_BAUD == 1) then s
  else match nmeaSecond text with
    | none => s
    | some u =>
      -- the TAI second that began at the pulse before the sentence (TOD_EDGE)
      let n := u + s.fld Fld.TIME_UTC_UTC_OFS - s.fld Fld.TIME_PPS_TOD_EDGE
      let bad := match s.tm.todSecond with | some l => !s.tm.todOk && n != l + 1 || s.tm.todOk && n != l | none => false
      let s1 := if bad then s.sourceLost 17 else s
      { s1 with tm := { s1.tm with todSecond := some n, todOk := true } }

def execTodSentence (fast : Bool) (text : List Byte) (s : State) : Host.Outcome State Fault Refusal := .next (s.todSentence fast text)

end Sys2Proof.Machine
end

