-- ==== Sys2Proof/Machine/Startup.lean ====
section
/-!
DEFINITION. Start-up, resets, re-admission and function level resets (R511 to R523).
-/
namespace Sys2Proof.Machine

/-! ## Triggers (R511, R517) -/

/-- POWER_ON: a feed has been in range for 10 ms after a total loss of power. DEDUCED, log entry 45. -/
def State.powerOn (s : State) (a b : Nat) : State :=
  if s.bt.started ∨ s.pwState = 4 ∨ !(feedOk a ∨ feedOk b) then s
  else ((s.feedSet 0 a (feedOk a)).feedSet 1 b (feedOk b)).trigger 0

def execPowerOn (mvA mvB : Nat) (s : State) : Host.Outcome State Fault Refusal := .next (s.powerOn mvA mvB)

/-- PERST_RELEASE: the retry window opens; in M-OFF it is the trigger of a start, which clears every pad latch (R493). -/
def State.perstRelease (s : State) : State :=
  if s.bt.perst then s
  else
    let t : State := { s with bt := { s.bt with perst := true } }
    if s.pwState = 4 then ((t.setReg .POWER_STAT 0 0).setReg .POWER_PADS 0 0).trigger 1
    else if s.bt.started then t.openWindow
    else t

def execPerstRelease (s : State) : Host.Outcome State Fault Refusal := .next s.perstRelease

/-- PERST_ASSERT (R517): a module reset starts in any state above M-OFF. -/
def execPerstAssert (s : State) : Host.Outcome State Fault Refusal :=
  .next { s with bt := { s.bt with
    perst := false, resetAt := if s.bt.started ∧ s.pwState ≠ 4 then some (2, s.tm.ns) else s.bt.resetAt } }

/-- MODULE_RESET_REQUEST (R523): 1 ms after the write. -/
def execModuleResetRequest (src : Source) (s : State) : Host.Outcome State Fault Refusal :=
  .next (s.busGate (RegId.offset .GLOBAL_RST 0) src { s with bt := { s.bt with resetAt := match s.bt.resetAt with | some x => some x | none => some (3, s.tm.ns + 1000000) } })

/-- MODULE_RESET (R517, R518): a reset that is due ends, and start-up runs from step 2. -/
def State.moduleReset (s : State) : State :=
  match s.bt.resetAt with
  | some (c, at') => if at' ≤ s.tm.ns then s.moduleCleared.trigger c else s
  | none => s

def execModuleReset (s : State) : Host.Outcome State Fault Refusal := .next s.moduleReset

/-! ## Steps 2 to 4 (Table 21.1) -/

/-- RAIL_SEQUENCE: `fail` is none, or 1 with the rail that is out of regulation, or 2 for an absent REFCLK_IN. The third failure
is a stop. D_TIME, when it was not already on, starts with the DACs at their holdover codes (R404, R518). -/
def State.railSequence (s : State) (fail : Option (Nat × Nat)) : State :=
  if !s.bootDone 1 ∨ s.bootDone 2 ∨ s.bt.stopped ∨ s.bt.retry then s
  else
    let n := s.fld Fld.GLOBAL_BOOT_ATTEMPT + 1
    let t := s.setFld Fld.GLOBAL_BOOT_ATTEMPT 0 n
    match fail with
    | some (code, unit) =>
      let t := ((t.setReg .POWER_DOM 0 0).setReg .POWER_TILES_LO 0 0).setReg .POWER_TILES_HI 0 0
      if 3 ≤ n then t.startStop 2 (if code = 2 then 2 else 1) unit
      else { t with bt := { t.bt with retry := true } }
    | none =>
      let t := if t.domOn 1 then t else (t.dacHold 0).dacHold 1
      let t := ((t.setReg .POWER_DOM 0 0x3FF).setReg2 .POWER_TILES_LO .POWER_TILES_HI 0 (2 ^ 64 - 1)).setReg .GLOBAL_DIESTAT 0 0xFF
      -- the hub's own engines are idle from here on (R277)
      ((List.range 4).foldl (fun (t : State) d => (t.setReg .DL_PORT d 3).setReg .PX_STAT d 1) t).bootStep 2

def execRailSequence (fail : Option (Nat × Nat)) (s : State) : Host.Outcome State Fault Refusal := .next (s.railSequence fail)

/-- RAIL_RETRY: one second later sequencing is attempted again. -/
def execRailRetry (s : State) : Host.Outcome State Fault Refusal := .next { s with bt := { s.bt with retry := false } }

/-- BOOT_SELFTEST: step 3. -/
def State.bootSelftest (s : State) (rom keeper : Bool) : State :=
  if !s.bootDone 2 ∨ s.bootDone 3 ∨ s.bt.stopped then s
  else if !rom then s.startStop 3 3 0
  else if !keeper then s.startStop 3 4 0
  else (s.bootStep 3).readyUpdate

def execBootSelftest (rom keeper : Bool) (s : State) : Host.Outcome State Fault Refusal := .next (s.bootSelftest rom keeper)

/-- GOLDEN_FILL_DONE (R450, R464, R465). -/
def execGoldenFillDone (s : State) : Host.Outcome State Fault Refusal :=
  .next (if !s.bootDone 2 ∨ s.bt.stopped then s else (s.setFld Fld.ECC_FILL_GOLDEN 0 1).readyUpdate)

/-- MEMORY_FILL_DONE (R464, R465): `fail` is the stack whose training or fill fails. -/
def State.fillDone (s : State) (fail : Option (Fin 4)) : State :=
  if !s.bootDone 2 ∨ s.bt.stopped ∨ s.bootDone 4 then s
  else match fail with
    | some st => s.startStop 4 5 st.val
    | none => if s.fld Fld.ECC_FILL_GOLDEN = 0 then s
      else ((s.setFld Fld.ECC_FILL_DONE 0 1).setFld Fld.ECC_FILL_PERCENT 0 100).bootStep 4

def execMemoryFillDone (fail : Option (Fin 4)) (s : State) : Host.Outcome State Fault Refusal := .next (s.fillDone fail)

/-! ## Step 8: the steward's bank (R514) -/

/-- The bank that the boot ROM chooses next. DEDUCED, log entry 45. -/
def State.bankChoice (s : State) : Option Nat :=
  let n := s.runBank
  if (s.bank n).state = 4 then some n else if (s.bank (1 - n)).state = 4 then some (1 - n) else none

/-- A bank that ran as TRIAL is rolled back (R432). DEDUCED, log entry 45. -/
def State.bootRollback (s : State) : State :=
  let n := s.runBank
  if (s.bank n).state = 3 then (s.setBank n { s.bank n with state := 5 }).event 0x0031 1 n (s.bank n).version else s

/-- No bank is left: recovery mode. -/
def State.noBank (s : State) : State :=
  if s.fld Fld.GLOBAL_BOOT_FAIL = 6 then s else (s.setFld Fld.GLOBAL_BOOT_FAIL 0 6).event 0x0130 2 8 6

/-- Q_CFG of a system queue: a type that a station, a port, a link or hub DMA has (Table 4.3), a depth, and an owner of that kind
(Table 4.5); which of them is free. -/
def sysQueueCfg (q : Nat) : Nat :=
  let x := Config.systemQueueCfg q
  let y := x / 256
  let t := natAt [1, 4, 5, 6, 7] (x % 5)
  let owner := if t = 1 then 0x30 + y % 5 else if t = 6 then 0x50 + y % 12 else if t = 7 then 0x60 else 0x40 + y % 16
  t + 16 * (6 + x / 5 % 15) + 2 ^ 16 * owner

/-- The steward that starts creates the system queues (R93), each configured and started under R98. -/
def State.systemQueues (s : State) : State :=
  (List.range 256).foldl (fun (t : State) q => (t.setReg .Q_CFG q (sysQueueCfg q)).qStart q) s

/-- STEWARD_BANK_START: the bank chosen is verified and runs. -/
def State.bankStart (s0 : State) : State :=
  if !s0.bootDone 3 ∨ s0.bootDone 8 ∨ s0.bt.stopped ∨ s0.fld Fld.ECC_FILL_DONE = 0 then s0
  else
    let s := s0.bootRollback
    match s.bankChoice with
    | none => s.noBank
    | some m =>
      let v := s.verifyBank (s.bank m).data
      if v.1 then
        let t := ((v.2.setFld Fld.STEWARD_STAT_STATE 0 1).setFld Fld.STEWARD_STAT_BANK 0 m).setFld Fld.STEWARD_STAT_TRIAL 0 0
        ((if t.fld Fld.GLOBAL_BOOT_FAIL = 6 then t.setFld Fld.GLOBAL_BOOT_FAIL 0 0 else t).bootStep 8).systemQueues
      else
        let t := v.2.setBank m { v.2.bank m with state := 5 }
        if t.bankChoice = none then t.noBank else t

def execStewardBankStart (s : State) : Host.Outcome State Fault Refusal := .next s.bankStart

/-! ## Steps 9 and 10 -/

/-- DIE_RELEASE: bit d of `fails` is set when CDd fails its self-test. -/
def State.dieRelease (s : State) (fails : Nat) : State :=
  if !s.bootDone 8 ∨ s.bootDone 9 ∨ s.bt.stopped then s
  else ((List.range 4).foldl (fun (t : State) d => if bitAt fails d then t.isolateDie d 5 else t.dieStart d) s).bootStep 9

def execDieRelease (fails : Fin 16) (s : State) : Host.Outcome State Fault Refusal := .next (s.dieRelease fails.val)

/-- TIME_GO (R515): accepted only while GRID_RUN is 0 and STEP is at least 9. -/
def State.timeGo (s : State) (src : Source) : State :=
  if s.gridRun ∨ s.fld Fld.GLOBAL_BOOT_STEP < 9 then s.werrReg .GLOBAL_BOOT_CTRL 0 src
  else { s with tm := { s.tm with go := some 0 } }

def execTimeGo (src : Source) (s : State) : Host.Outcome State Fault Refusal := .next (s.busGate (RegId.offset .GLOBAL_BOOT_CTRL 0) src (s.timeGo src))

/-- TIME_WAIT_EXPIRED (R515): the grid starts with the servo in FREERUN and STEER0 at its holdover code. -/
def State.timeWaitExpired (s : State) : State :=
  match s.tm.go with
  | none => s
  | some n =>
    if n < s.fld Fld.GLOBAL_BOOT_CTRL_TIME_WAIT ∨ s.srcCur.isSome ∨ s.gridRun then s
    else ((if s.servo = 0 then s else s.setServo 0).dacHold 0).gridArm

def execTimeWaitExpired (s : State) : Host.Outcome State Fault Refusal := .next s.timeWaitExpired

/-! ## Re-admission (R521) -/

/-- One die of a READMIT write. -/
def State.readmitOne (s : State) (d : Nat) : State :=
  let hot := bits (s.reg .GLOBAL_ISO_CAUSE) (8 * d + 7) (8 * d) == 4 && decide (100000 < (s.mg.sensors.getD (9 + d) {}).value)
  let r := s.fld Fld.GLOBAL_DIE_CTRL_REFUSED
  if s.dieStat d ≠ 2 ∨ s.transition ≠ 0 ∨ hot then s.setFld Fld.GLOBAL_DIE_CTRL_REFUSED 0 (putBit r d true)
  else
    let t := (s.setFld Fld.GLOBAL_DIE_CTRL_REFUSED 0 (putBit r d false)).setDieStat d 3
    { t with bt := { t.bt with readmit := putBit t.bt.readmit d true } }

def State.readmit (s : State) (v : Nat) : State := (maskList v 4).foldl State.readmitOne s

def execReadmit (dies : Fin 16) (src : Source) (s : State) : Host.Outcome State Fault Refusal := .next (s.busGate (RegId.offset .GLOBAL_DIE_CTRL 0) src (s.readmit dies.val))

/-- READMIT_DONE: the die runs, its memories filled; or it is isolated again with SELFTEST. -/
def State.readmitDone (s : State) (d : Nat) (ok : Bool) : State :=
  if !bitAt s.bt.readmit d then s
  else
    let t : State := { s with bt := { s.bt with readmit := putBit s.bt.readmit d false } }
    if ok then
      let t : State := (List.range 16).foldl (fun (t : State) k =>
        { t with vm := dropKeys t.vm (2 ^ 21) (16 * d + k), tsm := dropKeys t.tsm (2 ^ 21) (16 * d + k)
                 bad := t.bad.filter (fun b => !((b.mem == 2 || b.mem == 3) && b.word * 8 / 2 ^ 21 == 16 * d + k)) }) (t.lrClear (d + 1))
      (t.dieStart d).event 0x0131 0 d
    else t.isolateDie d 5

def execReadmitDone (die : Fin 4) (ok : Bool) (s : State) : Host.Outcome State Fault Refusal := .next (s.readmitDone die.val ok)

/-! ## Function level resets (R519) -/

/-- FLR of one function. DEDUCED, log entry 28. -/
def State.flrOne (s : State) (f : Nat) : State :=
  let s1 := ((List.range 4096).filter (fun q => s.qOwner q == f && s.qState q != 0)).foldl State.qStop s
  let mine := (List.range 256).filter (fun p => s.fld Fld.CMD_PAIR_CFG_EN p == 1 && s.qOwner (s.fld Fld.CMD_PAIR_CFG_ORDER_Q p) == f)
  let s2 := mine.foldl State.disablePair s1
  let s3 := (List.range 4).foldl (fun (t : State) n => if mine.contains (t.reg .DBG_SESS_SRC n) then t.closeSession n 5 else t) s2
  let s4 : State := { s3 with flr := s3.flr.filter (fun g => g != f) ++ [f] }
  s4.flrFlows

/-- FLR: that of PF0 covers every VF. -/
def execFlr (func : Fin 16) (s : State) : Host.Outcome State Fault Refusal :=
  .next (if func.val = 0 then (List.range 16).foldl State.flrOne s else s.flrOne func.val)

/-- PCIE_HOT_RESET (R517): a hot reset or link down is an FLR of every function. -/
def execPcieHotReset (s : State) : Host.Outcome State Fault Refusal := .next ((List.range 16).foldl State.flrOne s)

/-- FLR_COMPLETE: Q_HELD of every queue of the function reads 0. DEDUCED, log entry 28. -/
def State.flrComplete (s : State) (f : Nat) : State :=
  if s.flr.contains f && (List.range 4096).all (fun q => s.qOwner q != f || s.reg .Q_HELD q == 0) then
    let t := s.flrFlows
    { t with flr := t.flr.filter (fun g => g != f) }
  else s

def execFlrComplete (func : Fin 16) (s : State) : Host.Outcome State Fault Refusal := .next (s.flrComplete func.val)

end Sys2Proof.Machine
end

