-- ==== Sys2Proof/Machine/BusWrite.lean ====
section
/-!
DEFINITION. A register write (R7, R8, R23, R24, R34, R425, R426): what each register does with a word written to it, by
field class or by its own rule, and the 32-bit and 64-bit accesses that reach it.
-/
namespace Sys2Proof.Machine

/-! ## Writes by access class (Table 0.5) -/

/-- The fields of one class of register `i`, taken from `v`. DEDUCED, log entry 13. -/
def State.putClass (s : State) (r : RegId) (i : Nat) (a : Access) (v : Nat) : State :=
  s.setReg r i (takeFields r.desc.fields (fun f => f.acc == a) (s.reg r i) v)

/-- A register kind has a field of a class. -/
def RegId.has (r : RegId) (a : Access) : Bool := r.desc.fields.any (fun f => f.acc == a)

/-- RWL fields: taken while their block is stopped; while it runs they are discarded and the offset recorded. `run` is judged as
the write arrives. DEDUCED, log entry 13. -/
def State.putRwl (s : State) (r : RegId) (i v : Nat) (src : Source) (run : Bool) : State :=
  if !r.has .rwl then s else if run then s.werrReg r i src else s.putClass r i .rwl v

/-- W1C fields: each bit written as 1 clears. -/
def State.putW1c (s : State) (r : RegId) (i v : Nat) : State :=
  s.setReg r i (r.desc.fields.foldl (fun w f =>
    if f.acc = .w1c then putBits w f.hi f.lo (bits w f.hi f.lo - (bits w f.hi f.lo &&& bits v f.hi f.lo)) else w) (s.reg r i))

/-- RWS and RWE fields: the word waits. DEDUCED, log entry 18; DEDUCED, log entry 30. -/
def State.putShadow (s : State) (r : RegId) (i v : Nat) : State :=
  let s1 := if r.has .rws then s.pendRws (r.key i) v else s
  if r.has .rwe then s1.pendRwe (r.key i) v else s1

/-- A write of register `i`, every field by its class. DEDUCED, log entry 13; DEDUCED, log entry 14. -/
def State.storeWord (s : State) (r : RegId) (i v : Nat) (src : Source) : State :=
  (((s.putRwl r i v src (s.blockRuns r i)).putClass r i .rw v).putW1c r i v).putShadow r i v

/-- An action where bit `n` of the written word is 1. -/
def State.onBit (s : State) (v n : Nat) (f : State → State) : State := if bitAt v n then f s else s

/-! ## Registers with rules of their own -/

/-- Q_CTRL (R98 to R100). -/
def State.qCtrl (s : State) (q v : Nat) : State :=
  (if bitAt v 0 then s.qStart q else s.qStop q).onBit v 1 (fun t => t.setReg .Q_DROPS q 0)

/-- TIME_INCR_FRAC and TIME_INCR_NS (R381): only with SERVO_AUTO 0 and, while the grid runs, within the slew limit. DEDUCED, log entry 58. -/
def State.incrWrite (s : State) (r : RegId) (v : Nat) (src : Source) : State :=
  let n : Nat := if r = .TIME_INCR_FRAC then s.incr / 2 ^ 32 * 2 ^ 32 + v else s.incr % 2 ^ 32 + v * 2 ^ 32
  if s.fld Fld.TIME_CTRL_SERVO_AUTO = 0 ∧ (!s.gridRun ∨ s.clampIncr (n : Int) = n) then s.setIncr n else s.werrReg r 0 src

/-- TIME_CTRL: GRID_EN by R386, SERVO_AUTO and STEER_EN as RWS fields, STEP and CLR_STATS. -/
def State.timeCtrl (s : State) (v : Nat) (src : Source) : State :=
  (((if bitAt v 0 then s.gridArm else s.gridDisable src).putShadow .TIME_CTRL 0 v).onBit v 3 (fun t => t.timeStep src)).onBit v 4
    State.timeClr

/-- CMD_PAIR_CFG: its RWL fields first, then EN (R412, R437). -/
def State.pairCfg (s : State) (p v : Nat) (src : Source) : State :=
  let t := s.putRwl .CMD_PAIR_CFG p v src (s.blockRuns .CMD_PAIR_CFG p)
  if bitAt v 31 then t.pairEnable p src else t.disablePair p

/-- MGMT_CFG: lane 144 leaves its test modes as the port starts (R347). -/
def State.mgmtCfg (s : State) (v : Nat) (src : Source) : State :=
  let t := s.storeWord .MGMT_CFG 0 v src
  if s.fld Fld.MGMT_CFG_EN = 0 ∧ bitAt v 0 then t.endTestModes [144] else t

/-- TPO_CTRL: MODE and POL, then EN (R400). -/
def State.tpoCtrl (s : State) (n v : Nat) (src : Source) : State :=
  (s.putRwl .TPO_CTRL n v src (s.blockRuns .TPO_CTRL n)).tpoEnable n (bitAt v 0)

/-- LN_CTRL (R345, R347, R349). PCIe lanes have none of its RWL fields. -/
def State.lnCtrl (s : State) (i v : Nat) (src : Source) : State :=
  let t := if 128 ≤ i ∧ i < 144 then s else if s.laneOwnerRuns i then s.werrReg .LN_CTRL i src else s.laneCtrl i v
  t.onBit v 7 (fun t => t.laneClr i)

/-- DAC_CTRL (R404, R406). Whether the fault's condition has gone is not the host's to say: a free value. DEDUCED, log entry 63. -/
def State.dacCtrl (s : State) (n v : Nat) : State :=
  (s.onBit v 0 (fun t => if t.pick 2 = 1 then t.used.setFld Fld.DAC_STAT_FAULT n 0 else t.used)).onBit v 1
    (fun t => t.clearRegs [.DAC_CNT_OVF, .DAC_CNT_UNDER, .DAC_CNT_HO_WR] n)

/-- DMA_CH_CTRL (R370, R375, R378). -/
def State.dmaCtrl (s : State) (c v : Nat) (src : Source) : State :=
  ((((s.onBit v 0 (fun t => t.dmaArm c 0 src)).onBit v 1 (fun t => t.dmaArm c 1 src)).onBit v 2 (fun t => t.dmaAbort c)).onBit v 3
    (fun t => t.setDma c { t.dma c with halted := false })).onBit v 4 (fun t => t.dmaClr c)

/-- FH_CTRL (R280, R302). -/
def State.fhCtrl (s : State) (p v : Nat) (src : Source) : State :=
  (if bitAt v 0 then s.fhEnable p src else s.fhDisable p).onBit v 1 (fun t => t.fhClr p)

/-- MODE and the rest of FH_CFG are stored (R279, R282): a pair that merges or parts shares its granules anew, and the counters of
a merged odd port are zero. -/
def State.fhCfg (s : State) (p v : Nat) (src : Source) : State :=
  let t := s.storeWord .FH_CFG p v src
  if t.fld Fld.FH_CFG_MODE p = s.fld Fld.FH_CFG_MODE p then t
  else
    let u := t.granReset p
    if p % 2 = 1 then u
    else
      let w := u.granReset (p + 1)
      if t.fhShadowed (p + 1) then w.fhClr (p + 1) else w

/-- FL_CTRL (R308, R311, R337). -/
def State.flCtrl (s : State) (l v : Nat) : State :=
  ((if bitAt v 0 then s.flEnable l else s.flDisable l).onBit v 1 (fun t => t.flClr l)).onBit v 2 (fun t => t.rekey l)

/-- GLOBAL_WERR.VALID clears MORE with it (Table 16.7). -/
def State.werrClear (s : State) (v : Nat) : State :=
  if bitAt v 31 then (s.setFld Fld.GLOBAL_WERR_VALID 0 0).setFld Fld.GLOBAL_WERR_MORE 0 0 else s

/-- GLOBAL_BOOT_CTRL: TIME_WAIT is stored, TIME_GO acts (R515). -/
def State.bootCtrl (s : State) (v : Nat) (src : Source) : State :=
  (s.putClass .GLOBAL_BOOT_CTRL 0 .rw v).onBit v 0 (fun t => t.timeGo src)

/-- RENNET_CTRL (R59, R516). -/
def State.rennetCtrl (s : State) (v : Nat) (src : Source) : State :=
  (s.rennetOpen (bitAt v 0) src).onBit v 1 State.rennetClr

/-- DISP_CTRL: PRESTAGE is reserved on the hub station (R141). -/
def State.dispCtrl (s : State) (st v : Nat) : State :=
  (if st = 4 then s else s.putShadow .DISP_CTRL st v).onBit v 1 (fun t => t.dispClr st)

/-- GLOBAL_RST.MODULE (R523): 1 ms after the write. -/
def State.rstWrite (s : State) : State :=
  { s with bt := { s.bt with resetAt := match s.bt.resetAt with | some x => some x | none => some (3, s.tm.ns + 1000000) } }

/-- A word written to register `i` of kind `r`, which the write reaches. DEDUCED, log entry 13. -/
def State.wordWrite (s : State) (r : RegId) (i v : Nat) (src : Source) : State :=
  match r with
  | .GLOBAL_WERR => s.werrClear v
  | .GLOBAL_BOOT_CTRL => s.bootCtrl v src
  | .GLOBAL_DIE_CTRL => s.readmit (v % 16)
  | .GLOBAL_RST => s.onBit v 0 State.rstWrite
  | .MGMT_CFG => s.mgmtCfg v src
  | .CMD_PAIR_CFG => s.pairCfg i v src
  | .TIME_CTRL => s.timeCtrl v src
  | .TIME_INCR_FRAC | .TIME_INCR_NS => s.incrWrite r v src
  | .TRIG_POP => s.onBit v 0 (fun t => t.trigPop i)
  | .TPO_CTRL => s.tpoCtrl i v src
  | .DAC_CFG => s.storeWord .DAC_CFG i (if i = 0 then putBit v 2 false else v) src
  | .DAC_QUEUE => s.dacQueue i v src
  | .DAC_HO_SET => if s.dacOwned i then s.werrReg .DAC_HO_SET i src else s.hoWrite i (v % 2 ^ 24)
  | .DAC_CTRL => s.dacCtrl i v
  | .POWER_CTRL => s.onBit v 0 State.pwClr
  | .POWER_WAKE => s.powerWake (v % 8) src
  | .DBG_CTRL => s.onBit v 0 (fun t => { t with kp := { t.kp with closeAll := true } })
  | .Q_CTRL => s.qCtrl i v
  | .Q_HEAD => s.headWrite i v src
  | .Q_TAIL => s.tailWrite i v src
  | .LEDGER_SEL => s.ledgerSel v src
  | .RENNET_CTRL => s.rennetCtrl v src
  | .RENNET_COLSEL => (s.setReg .RENNET_COLSEL 0 (putBits v 19 17 0)).setFld Fld.RENNET_COLCAP_VALID 0 0
  | .DISP_CTRL => s.dispCtrl i v
  | .ENG_FENCE => s.engFence i v
  | .ENG_CLR => s.onBit v 0 (fun t => t.engClr i)
  | .DMA_CH_CTRL => s.dmaCtrl i v src
  | .ECC_CTRL => s.onBit v 0 State.eccClr
  | .ECC_FLIP_CFG => s.flipCfg v src
  | .FH_CTRL => s.fhCtrl i v src
  | .FH_CFG => s.fhCfg i v src
  | .FH_SEC_SAK => s.sakWrite i v
  | .FAB_CTRL => s.onBit v 0 State.fabClr
  | .FL_CTRL => s.flCtrl i v
  | .LN_CTRL => s.lnCtrl i v src
  | .LN_EQ => if 128 ≤ i ∧ i < 144 then s else s.storeWord .LN_EQ i v src
  | .LN_MARGIN_CTRL => if bitAt v 31 then s.marginStart i v else s.storeWord .LN_MARGIN_CTRL i v src
  | .SP_CTRL => s.onBit v 0 State.spClr
  | .SE_LOG_HEAD => s.seLogHead v src
  | .PX_FENCE => s.pxFence v
  | .PX_CLR => s.onBit v 0 (fun t => t.pxClr i)
  | .LR_CLR => s.onBit v 0 (fun t => t.lrClrCnt i)
  | .CORE_CLR => s.onBit v 0 (fun t => t.coreClr i)
  | .BMU_CLR => s.onBit v 0 (fun t => t.bmuClr i)
  | _ => s.storeWord r i v src

/-! ## Accesses -/

/-- A 32-bit write that reaches a BAR0 offset: a proxy answers for a die or tile that is off (R25), an offset without a register
and a refused value are discarded and recorded. -/
def State.offsetWrite (s : State) (off v : Nat) (src : Source) : State :=
  match s.proxyAt off with
  | some p => (s.werr off src).bump p.1 p.2
  | none => match regAt off with
    | none => s.werr off src
    | some (r, i) => if s.writeRefused r i v src then s.werr off src else s.wordWrite r i v src

/-- A 32-bit write to a BAR0 offset. -/
def State.busWord (s : State) (off v : Nat) (src : Source) : State := s.busGate off src (s.offsetWrite off (v % 2 ^ 32) src)

/-- A BAR0 write (R23): aligned 32 and 64 bits, the lower register first; any other is discarded and recorded. -/
def State.busWrite (s : State) (w : BusWrite) : State :=
  if w.len = 4 ∧ w.offset % 4 = 0 then s.busWord w.offset w.value w.src
  else if w.len = 8 ∧ w.offset % 8 = 0 then
    (s.busWord w.offset w.value w.src).busWord (w.offset + 4) (w.value / 2 ^ 32) w.src
  else s.busGate w.offset w.src (s.werr w.offset w.src)

/-- REGISTER_WRITE (R7, R8, R23): a write to BAR0, or to a doorbell in BAR2. -/
def execRegisterWrite (w : BusWrite) (bar2 : Bool) (s : State) : Host.Outcome State Fault Refusal :=
  .next (if bar2 then s.doorbell w else s.busWrite w)

end Sys2Proof.Machine
end

