-- ==== Sys2Proof/Machine/FabRoute.lean ====
section
/-!
DEFINITION. The module in the fabric (R312 to R321, R331, R333): beacons and the coordinator, module reports and numbers,
route computation and timetables, and the change of route generation.
-/
namespace Sys2Proof.Machine

/-! ## Coordinator (R313) -/

def State.isCoord (s : State) : Bool := s.fld Fld.FAB_MODNUM_COORD == 1

/-- BEACON: the peer's candidate, with the beat of its arrival. -/
def execBeacon (link : Fin 12) (f : FabFrame) (serial hops : Nat) (s : State) : Host.Outcome State Fault Refusal :=
  .next (match s.localRx link.val 0x12 f with
    | (none, t) => t
    | (some _, t) => t.setFl link.val { t.fl link.val with beacon := some (serial, hops, t.absBeat) })

/-- Candidates compare by serial, then by hops. -/
def candLess (a b : Nat × Nat) : Bool := if a.1 = b.1 then a.2 < b.2 else a.1 < b.1

/-- The best candidate of beacon_tick. -/
def State.bestCand (s : State) : Nat × Nat :=
  s.upLinks.foldl (fun b l =>
    match (s.fl l).beacon with
    | some (x, h, t) => if s.absBeat - t ≤ 320 ∧ h + 1 < 64 ∧ candLess (x, h + 1) b then (x, h + 1) else b
    | none => b) (s.kp.serial, 0)

/-- BEACON_TICK (R313): at grain 0 of every 80th beat. FAB_COORD names this module while it is coordinator. -/
def State.beaconTick (s : State) : State :=
  if s.gridRun ∧ s.grain = 0 ∧ s.beat % 80 = 0 then
    let b := s.bestCand
    let st := if b.1 = s.kp.serial then s.fab.stable + 1 else 0
    let s1 := s.upLinks.foldl (fun (t : State) l => t.sendLocal l 0x12 (Config.beaconBytes b.1 b.2)) s
    let s2 := { s1 with fab := { s1.fab with best := b, stable := st } }
    let c := decide (8 ≤ st)
    let s3 := s2.setFld Fld.FAB_MODNUM_COORD 0 (b2n c)
    if c then ((s3.setFld Fld.FAB_COORD_NUMBER 0 s.srcNum).setFld Fld.FAB_COORD_VALID 0 (s.fld Fld.FAB_MODNUM_VALID))
    else if s.isCoord then (s3.setFld Fld.FAB_COORD_NUMBER 0 0x3FF).setFld Fld.FAB_COORD_VALID 0 0
    else s3
  else s

def execBeaconTick (s : State) : Host.Outcome State Fault Refusal := .next s.beaconTick

/-! ## Reports (R314) -/

def State.ownReport (s : State) : TopoReport :=
  { serial := s.kp.serial, number := s.modNum, stored := s.fab.nvNum
    links := s.upLinks.map (fun l => (l, s.reg2 .FL_PEER_SERIAL_LO .FL_PEER_SERIAL_HI l, s.fld Fld.FL_PEER_LINK l))
    quality := s.topoQuality, seen := s.tm.epochCount }

/-- The coordinator takes a report. -/
def State.takeReport (s : State) (r : TopoReport) : State :=
  let old := s.fab.reports.find? (fun x => x.serial == r.serial)
  let same := match old with | some x => x.links == r.links && x.number == r.number | none => false
  { s with fab := { s.fab with
      reports := s.fab.reports.filter (fun x => x.serial != r.serial) ++ [{ r with seen := s.tm.epochCount }]
      changed := s.fab.changed || !same } }

/-- The lowest UP link whose peer has a number. -/
def State.numberedPeer (s : State) : Option Nat := s.upLinks.find? (fun l => s.fld Fld.FL_PEER_VALID l == 1)

/-- A report on its way to the coordinator: routed, or through the lowest UP link whose peer has a number. -/
def State.sendReport (s : State) (r : TopoReport) : State :=
  if s.isCoord then s.takeReport r
  else
    let p := Config.topoBytes r.serial r.number r.stored r.links r.quality
    let d := s.fld Fld.FAB_COORD_NUMBER
    if s.modNum.isSome ∧ s.fld Fld.FAB_COORD_VALID = 1 ∧ (s.pickRoute d 0).isSome then s.fabMsg 6 d p
    else match s.numberedPeer with
      | some l => s.sendRouted l 0 { kind := 6, vl := 1, dst := s.fld Fld.FL_PEER_NUMBER l, src := 0, payload := p }
      | none => s

/-- TOPO_REPORT (R314): once each epoch, and after a link change. -/
def State.topoReport (s : State) : State :=
  if s.gridRun ∧ (s.fab.dirty.isSome ∨ s.fab.reported ≠ some s.tm.epochCount) then
    { s.sendReport s.ownReport with fab := { (s.sendReport s.ownReport).fab with dirty := none, reported := some s.tm.epochCount } }
  else s

def execTopoReport (s : State) : Host.Outcome State Fault Refusal := .next s.topoReport

/-- TOPO: the coordinator takes a report; another module relays it. DEDUCED, log entry 53. -/
def execTopo (link : Fin 12) (f : FabFrame) (rep : TopoReport) (s : State) : Host.Outcome State Fault Refusal :=
  .next (match s.routedRx link.val 6 f with
    | (none, t) => t
    | (some _, t) => t.sendReport rep)

/-! ## Numbers -/

/-- Reports in ascending order of serial. -/
def insertRep (r : TopoReport) : List TopoReport → List TopoReport
  | [] => [r]
  | x :: l => if r.serial < x.serial then r :: x :: l else x :: insertRep r l
def sortReps (l : List TopoReport) : List TopoReport := l.foldr insertRep []

/-- Modules that keep the number they report: on a clash, the lower serial. -/
def keptNums (l : List TopoReport) : List (Nat × Nat) :=
  l.foldl (fun a r => match r.number with
    | some n => if a.any (fun x => x.2 == n) then a else a ++ [(r.serial, n)]
    | none => a) []

/-- The number of every reporting module (R314): kept, else the stored one if free, else the lowest free one. -/
def assignNums (l : List TopoReport) : List (Nat × Nat) :=
  (sortReps l).foldl (fun a r =>
    if a.any (fun x => x.1 == r.serial) then a
    else
      let free := fun n => !(a.any (fun x => x.2 == n))
      let n := match r.stored with
        | some k => if free k then some k else (List.range 1024).find? free
        | none => (List.range 1024).find? free
      match n with | some k => a ++ [(r.serial, k)] | none => a) (keptNums (sortReps l))

def numOf (a : List (Nat × Nat)) (serial : Nat) : Option Nat := (a.find? (fun x => x.1 == serial)).map Prod.snd

/-! ## Route computation (R315) -/

/-- A directed link of the fabric: from module `u` over its link `link` to module `v`. -/
structure Edge where
  u : Nat
  v : Nat
  link : Nat
  up : Bool := false
  deriving DecidableEq, Repr

/-- Links that both ends report. -/
def edgesOf (l : List TopoReport) (nums : List (Nat × Nat)) : List Edge :=
  l.flatMap (fun r => r.links.filterMap (fun k =>
    match numOf nums r.serial, numOf nums k.2.1 with
    | some u, some v => if l.any (fun q => q.serial == k.2.1 && q.links.any (fun b => b.1 == k.2.2 && b.2.1 == r.serial)) then some ⟨u, v, k.1, false⟩ else none
    | _, _ => none))

/-- Distances (module, hops) of `n` rounds of relaxation from the seeds. -/
def hopDist (es : List Edge) : Nat → List (Nat × Nat) → List (Nat × Nat)
  | 0, d => d
  | n + 1, d => hopDist es n (es.foldl (fun a e =>
      match a.find? (fun x => x.1 == e.u) with
      | some x => if a.any (fun y => y.1 == e.v) then a else a ++ [(e.v, x.2 + 1)]
      | none => a) d)

/-- Rank of a module: (hop distance from the coordinator, number), 1,024 for a module out of reach. -/
def rankOf (d : List (Nat × Nat)) (m : Nat) : Nat × Nat := (((d.find? (fun x => x.1 == m)).map Prod.snd).getD 1024, m)
def withPhase (d : List (Nat × Nat)) (es : List Edge) : List Edge :=
  es.map (fun e => { e with up := candLess (rankOf d e.v) (rankOf d e.u) })

/-- A row of distances to one destination: module, from the up phase, from the down phase; 4,096 for none. -/
abbrev DistTab := List (Nat × Nat × Nat)
def distIn (t : DistTab) (m : Nat) (down : Bool) : Nat :=
  match t.find? (fun x => x.1 == m) with | some x => if down then x.2.2 else x.2.1 | none => 4096

/-- Distance over a hop in a phase: an UP hop is legal only in the up phase. -/
def viaHop (t : DistTab) (down : Bool) (e : Edge) : Nat := if down && e.up then 4096 else min 4096 (1 + distIn t e.v (down || !e.up))

/-- `n` rounds of relaxation towards destination `d`. -/
def legalDist (es : List Edge) (d : Nat) : Nat → DistTab → DistTab
  | 0, t => t
  | n + 1, t => legalDist es d n (t.map (fun x =>
      if x.1 = d then (d, 0, 0)
      else
        let mine := es.filter (fun e => e.u == x.1)
        (x.1, mine.foldl (fun a e => min a (viaHop t false e)) 4096, mine.foldl (fun a e => min a (viaHop t true e)) 4096)))

/-- next[u][ph]: the first link of a shortest legal path; ties go to the lowest peer number, then the lowest link. -/
def nextLink (es : List Edge) (t : DistTab) (d u : Nat) (down : Bool) : Nat :=
  if u = d then 0xE
  else
    let best := distIn t u down
    let c := es.filter (fun e => e.u == u && viaHop t down e == best)
    if 4096 ≤ best then 0xF
    else (c.foldl (fun a e => match a with | none => some (e.v, e.link) | some x => if candLess (e.v, e.link) x then some (e.v, e.link) else a)
      (none : Option (Nat × Nat))).elim 0xF Prod.snd

/-- The entries of one destination: for each module its table entry, over routes `r` on. -/
def routesTo (mods : List Nat) (d : Nat) : Nat → Nat → List Edge → List (Nat × Nat)
  | 0, _, _ => mods.map (fun u => (u, 0))
  | n + 1, r, es =>
    let t := legalDist es d (2 * mods.length) (mods.map (fun m => (m, 4096, 4096)))
    let nx := mods.map (fun u => (u, nextLink es t d u false, nextLink es t d u true))
    let es' := es.filter (fun e => !(nx.any (fun x => x.1 == e.u && (x.2.1 == e.link || x.2.2 == e.link))))
    (routesTo mods d n (r + 1) es').map (fun x =>
      match nx.find? (fun y => y.1 == x.1) with
      | some y => (x.1, x.2 + y.2.1 * 2 ^ (4 * r) + y.2.2 * 2 ^ (16 + 4 * r))
      | none => x)

/-- Hops of route 0 from `u` to `d`: (module, link). -/
def routePath (es : List Edge) (t : DistTab) (d : Nat) : Nat → Nat → Bool → List (Nat × Nat)
  | 0, _, _ => []
  | n + 1, u, down =>
    let l := nextLink es t d u down
    if 12 ≤ l then []
    else match es.find? (fun e => e.u == u && e.link == l) with
      | some e => (u, l) :: routePath es t d n e.v (down || !e.up)
      | none => []

/-- Windows for the requests, in order: window w + 2k of hop k (R320). Which free windows are taken the spec leaves open:
the search starts at `start`. DEDUCED, log entry 53. -/
def planWindows (es : List Edge) (mods : List Nat) (start : Nat) (ws : List TtWish) : List (Nat × Nat × Nat × Nat) :=
  ws.foldl (fun tt w =>
    let t := legalDist es w.dst (2 * mods.length) (mods.map (fun m => (m, 4096, 4096)))
    let p := routePath es t w.dst 1024 w.src false
    if p = [] then tt
    else
      ((List.range 1024).foldl (fun (a : Nat × List (Nat × Nat × Nat × Nat)) i =>
        let hops := (List.range p.length).map (fun k => ((p.getD k (0, 0)).1, (p.getD k (0, 0)).2, (start + i + 2 * k) % 1024))
        if a.1 = 0 ∨ hops.any (fun h => a.2.any (fun x => x.1 == h.1 && x.2.1 == h.2.1 && x.2.2.1 == h.2.2)) then a
        else (a.1 - 1, a.2 ++ hops.map (fun h => (h.1, h.2.1, h.2.2, w.src)))) (w.n, tt)).2) []

/-! ## The change of generation (R318) -/

/-- The epoch in progress and the one after it. -/
def State.epoch (s : State) : Nat := epochOf s.beat
def nextEpoch (e : Nat) : Nat := (e + 1) % 64
/-- The last 128 beats of an epoch have begun (R318, R325, R330): a request "before beat 1,280 × (e + 1) − 128" is late. -/
def State.epochLate (s : State) : Bool := 1152 ≤ s.beat % 1280

/-- Writes routes and timetables into the inactive bank (R318, R321). -/
def State.loadBank (s : State) (rows : RouteRows) : State :=
  let g := 1 - s.gen
  let s1 := { s with regs := s.regs.filter (fun e =>
    !((e.1 % 512 == RegId.ctorIdx .ROUTE && e.1 / 512 / 1024 == g) || (e.1 % 512 == RegId.ctorIdx .FL_TT && e.1 / 512 / 1024 % 2 == g))) }
  let s2 := rows.routes.foldl (fun (t : State) r => if r.1 < 1024 then t.setReg .ROUTE (g * 1024 + r.1) (r.2 % 2 ^ 32) else t) s1
  let s3 := rows.windows.foldl (fun (t : State) w =>
    if w.1 < 12 ∧ w.2.1 < 1024 then t.setReg .FL_TT ((w.1 * 2 + g) * 1024 + w.2.1) (w.2.2 % 2 ^ 11) else t) s2
  let both := (List.range 12).map (fun l => ((s3.ownedIn l s.gen).filter (fun w => (s3.ownedIn l g).contains w)).length)
  let s4 := s3.setFld Fld.FAB_GEN_PENDING 0 1
  { s4 with
    cap := { s4.cap with fabNext := some (nextEpoch s.epoch, both) }
    fab := { s4.fab with
      loadEpoch := some (nextEpoch s.epoch), commitEpoch := none, down := setAt s4.fab.down g rows.down
      timeSrc := rows.timeSrc, pendNum := match rows.number with | some n => some n | none => s4.fab.pendNum } }

/-- A commit for a load that is held. DEDUCED, log entry 53. -/
def State.commit (s : State) (e : Nat) : State :=
  if s.fab.loadEpoch = some e then { s with fab := { s.fab with commitEpoch := some e } } else s

/-- The rows that module `m` gets. -/
def rowsFor (tab : List (Nat × List (Nat × Nat))) (tt : List (Nat × Nat × Nat × Nat)) (es : List Edge) (ts : Option Nat) (m : Nat) : RouteRows :=
  { routes := tab.filterMap (fun d => (d.2.find? (fun x => x.1 == m)).map (fun x => (d.1, x.2)))
    windows := (tt.filter (fun x => x.1 == m)).map (fun x => (x.2.1, x.2.2.1, 1 + 2 * x.2.2.2))
    down := (es.filter (fun e => e.u == m && !e.up)).map Edge.link
    timeSrc := ts }

/-- The fabric time source (R333): the best reported quality, on a tie the lower serial. -/
def timeSource (l : List TopoReport) : Option TopoReport :=
  (sortReps l).foldl (fun a r => match a with | none => some r | some x => if r.quality < x.quality then some r else a) none

/-- ROUTE_COMPUTE (R314, R315, R318, R321): the coordinator's one computation of an epoch, for the next one, unless an overlap or
another change is in force; every module that has a number gets its load, and direct peers without one over their link. DEDUCED, log entry 53. -/
def State.routeCompute (s : State) : State :=
  if !s.isCoord || !s.fab.changed || s.fab.computed == some s.tm.epochCount || s.fab.change.isSome || s.fld Fld.FAB_GEN_OVERLAP == 1 || s.epochLate || !s.gridRun then s
  else
    let reps := sortReps (s.ownReport :: s.fab.reports.filter (fun r => r.serial != s.kp.serial && s.tm.epochCount < r.seen + 64))
    let nums := assignNums reps
    let mods := nums.map Prod.snd
    match numOf nums s.kp.serial with
    | none => s
    | some me =>
      let es0 := edgesOf reps nums
      let es := withPhase (hopDist es0 mods.length [(me, 0)]) es0
      let tab := mods.map (fun d => (d, routesTo mods d 4 0 es))
      let tt := planWindows es mods (s.pick 1024) s.fab.wishes
      let ts := (timeSource reps).bind (fun r => numOf nums r.serial)
      let rows := fun m (r : TopoReport) =>
        { rowsFor tab tt es ts m with number := if r.number = numOf nums r.serial then none else some (numOf nums r.serial) }
      let members := (reps.filter (fun r => r.number.isSome && r.serial != s.kp.serial)).filterMap (fun r => r.number)
      let s1 := { s.used with fab := { s.fab with
        reports := reps, changed := false, computed := some s.tm.epochCount
        change := some { epoch := nextEpoch s.epoch, gen := s.gen == 0, acked := [], members := members } } }
      let s2 := s1.loadBank (rows me s.ownReport)
      reps.foldl (fun (t : State) r =>
        if r.serial = s.kp.serial then t
        else
          let w := rows ((numOf nums r.serial).getD 0x3FF) r
          let p := Config.routeBytes w.routes w.windows w.down w.timeSrc (w.number.getD r.number)
          match r.number with
          | some n => t.fabMsg 7 n p
          | none => match t.upLinks.find? (fun l => t.reg2 .FL_PEER_SERIAL_LO .FL_PEER_SERIAL_HI l == r.serial) with
            | some l => t.sendRouted l 0 { kind := 7, vl := 1, dst := 0x3FF, src := 0, payload := p }
            | none => t) s2

def execRouteCompute (s : State) : Host.Outcome State Fault Refusal := .next s.routeCompute

/-- The module with a number is the coordinator, or a direct peer (Table 12.11). DEDUCED, log entry 53. -/
def State.trusted (s : State) (m : Nat) : Bool :=
  (s.fld Fld.FAB_COORD_VALID == 1 && s.fld Fld.FAB_COORD_NUMBER == m)
    || s.upLinks.any (fun l => s.fld Fld.FL_PEER_VALID l == 1 && s.fld Fld.FL_PEER_NUMBER l == m)

/-- A frame of kind `kind` for this module; a module without a number takes those its peers send it. -/
def State.ctlRx (s : State) (l kind : Nat) (f : FabFrame) : Option FabHdr × State :=
  if s.modNum.isSome then s.routedRx l kind f
  else match s.linkRx l f with
    | (some h, t) => if h.kind = kind then (some h, t) else (none, t)
    | r => r

/-- ROUTE_LOAD (R318): writes the inactive bank, or refuses a late load; the answer goes to the sender. -/
def execRouteLoad (link : Fin 12) (f : FabFrame) (rows : RouteRows) (s : State) : Host.Outcome State Fault Refusal :=
  .next (match s.ctlRx link.val 7 f with
    | (none, t) => t
    | (some h, t) =>
      if !t.trusted h.src then t.bump .FAB_CNT_BADHDR
      else if 1152 < t.beat % 1280 ∨ t.fld Fld.FAB_GEN_OVERLAP = 1 then t.fabMsg 3 h.src (Config.routeAck false 0x24)
      else (((t.loadBank rows).setFld Fld.FAB_COORD_NUMBER 0 h.src).setFld Fld.FAB_COORD_VALID 0 1).fabMsg 3 h.src (Config.routeAck false 0))

/-- ROUTE_COMMIT (R318): arms the switch, and confirms it. -/
def execRouteCommit (link : Fin 12) (f : FabFrame) (s : State) : Host.Outcome State Fault Refusal :=
  .next (match s.ctlRx link.val 8 f with
    | (none, t) => t
    | (some h, t) =>
      if t.fab.loadEpoch = some (u32 f.bytes 32) then (t.commit (u32 f.bytes 32)).fabMsg 3 h.src (Config.routeAck true 0) else t)

/-- The coordinator takes an acknowledgement: a refusal abandons the change, the last one brings the commit (R318). -/
def State.routeAcked (s : State) (m : Nat) (isCommit : Bool) (status : Nat) : State :=
  match s.fab.change with
  | none => s
  | some c =>
    if isCommit then { s with fab := { s.fab with change := some { c with confirmed := m :: c.confirmed } } }
    else if c.committed then s
    else if status ≠ 0 then { s with fab := { s.fab with change := none, changed := true } }
    else
      let c1 := { c with acked := m :: c.acked }
      if c1.members.all (fun x => c1.acked.contains x) then
        let s1 := ({ s with fab := { s.fab with change := some { c1 with committed := true } } }).commit c.epoch
        c1.members.foldl (fun (t : State) x => t.fabMsg 8 x (leBytes 4 c.epoch)) s1
      else { s with fab := { s.fab with change := some c1 } }

/-- A coordinator alone, or with no one to wait for, commits at once. -/
def State.routeAlone (s : State) : State :=
  match s.fab.change with
  | some c => if c.members = [] ∧ !c.committed then ({ s with fab := { s.fab with change := some { c with committed := true } } }).commit c.epoch else s
  | none => s

/-- The switch to the new generation (R318): at a tick in the commit's epoch. -/
def State.routeSwitch (s : State) : State :=
  if s.fab.commitEpoch = some s.epoch then
    let s1 := ((s.setFld Fld.FAB_GEN_ACTIVE 0 (1 - s.gen)).setFld Fld.FAB_GEN_OVERLAP 0 1).setFld Fld.FAB_GEN_PENDING 0 0
    ({ s1 with
      cap := { s1.cap with fabNext := none }
      fab := { s1.fab with loadEpoch := none, commitEpoch := none, expireEpoch := some (nextEpoch s.epoch) } }).fabCap
  else s

/-- What a beat tick does to the fabric: the switch, the members that have not confirmed by beat 640, and VL1 budgets. -/
def State.fabTick (s : State) : State :=
  let s1 := s.routeAlone.routeSwitch
  let s2 := match s1.fab.change with
    | some c =>
      if c.committed ∧ c.epoch = s1.epoch ∧ 640 ≤ s1.beat % 1280 then
        { s1 with fab := { s1.fab with
          change := none
          reports := s1.fab.reports.filter (fun r => match r.number with
            | some n => !(c.members.contains n) || c.confirmed.contains n
            | none => true) } }
      else s1
    | none => s1
  { s2 with fab := { s2.fab with links := s2.fab.links.map (fun e => (e.1, { e.2 with vl1 := 0 })) } }

/-- What an epoch boundary does (R314, R318): the old generation expires, numbers change, an uncommitted change is
abandoned. -/
def State.fabEpoch (s : State) : State :=
  let s1 := if s.fab.expireEpoch = some s.epoch then
      { s.setFld Fld.FAB_GEN_OVERLAP 0 0 with fab := { s.fab with expireEpoch := none } } else s
  let s2 := match s1.fab.pendNum with
    | some n =>
      let t := (s1.setFld Fld.FAB_MODNUM_NUMBER 0 (n.getD 0x3FF)).setFld Fld.FAB_MODNUM_VALID 0 (b2n n.isSome)
      { t with fab := { t.fab with pendNum := none, nvNum := match n with | some k => some k | none => t.fab.nvNum } }
    | none => s1
  let s3 := match s2.fab.change with
    | some c => if !c.committed then { s2 with fab := { s2.fab with change := none, changed := true } } else s2
    | none => s2
  s3.fabCap.flEpoch

/-! ## Time (R332) -/

/-- The fabric parent (R333): the route-0 link toward the fabric time source. -/
def State.parentLink (s : State) : Option Nat :=
  match s.fab.timeSrc with
  | some d => if s.isTimeSource then none else some (s.routeLink s.gen d 0 false)
  | none => none

/-- TIME (R332, R389), received at `t4`, in 2^-32 ns: the payload's T2 is the peer's stamp t2 of this side's last frame, sent
at t1, and its T1 the peer's stamp t3 of its own previous frame, which arrived at `timeRx`. The parent's frames bring the
quality of source 16. DEDUCED, log entry 54. -/
def State.fabTime (s : State) (l : Nat) (f : FabFrame) (at4 : Nat) : State :=
  match s.localRx l 0x13 f with
  | (none, t) => t
  | (some _, t) =>
    let p := f.bytes.drop 32
    let t3 : Nat := u64 p 0 * 2 ^ 32 + u32 p 8
    let t2 : Nat := u64 p 12 * 2 ^ 32 + u32 p 20
    let x := t.fl l
    let t1 : Int := (x.sentAt : Nat)
    let s1 := t.setFl l { x with timeRx := some at4 }
    let s2 := match x.timeRx with
      | some t4 =>
        if t3 = 0 ∨ t2 = 0 ∨ x.sentAt = 0 then s1
        else
          let num := ((t4 : Int) - t1 - ((t3 : Int) - t2)) * 1000
          let d := s1.roundFree num (2 ^ 33) + sext 16 (s1.fld Fld.FL_ASYM_ASYM l)
          let o := s1.used.roundFree (((t2 : Int) - t1) * 1000) (2 ^ 32) - d
          (s1.used.used.setReg .FL_DELAY l (enc 32 d)).setReg .FL_T_OFFSET l (enc 32 o)
      | none => s1
    if s.parentLink = some l then
      let s3 := s2.setSource 16 ⟨(s2.source 16).qualified, u8 p 24, u8 p 25, u16 p 26, 128, u8 p 28⟩
      { s3 with tm := { s3.tm with parentFrames := if s3.tm.parentOf = some l then s3.tm.parentFrames + 1 else 1, parentOf := some l } }
    else s2

/-- Source 16 is lost with its link, or without a TIME frame for 1 ms (Table 15.1). -/
def State.parentWatch (s : State) : State :=
  if !(s.source 16).qualified then s
  else match s.tm.parentOf with
    | some l =>
      let late := match (s.fl l).timeRx with | some t => decide (t + 1000000 * 2 ^ 32 ≤ s.timePair) | none => true
      if !s.flUp l || late then s.sourceLost 16 else s
    | none => s

def execFabTime (link : Fin 12) (f : FabFrame) (at4 : Nat) (s : State) : Host.Outcome State Fault Refusal :=
  .next (s.fabTime link.val f at4)

/-- TIME_FRAME_SEND (R332): once per beat on each UP link. -/
def execTimeFrameSend (s : State) : Host.Outcome State Fault Refusal :=
  .next (s.upLinks.foldl (fun (t : State) l => t.timeFrame l) s)

/-! ## Queries and requests (R331, Table 12.8) -/

/-- FAB_QUERY: number, coordinator number and serial, generation, UP links. -/
def State.fabQuery (s : State) (c : CmdCtx) : State :=
  if c.payload ≠ [] then s.reply c 0x22
  else s.reply c 0 (leBytes 4 (s.reg .FAB_MODNUM) ++ leBytes 4 (s.reg .FAB_COORD) ++ leBytes 8 s.fab.best.1 ++ leBytes 4 (s.reg .FAB_GEN)
    ++ leBytes 4 (s.upLinks.foldl (fun m l => m + 2 ^ l) 0))

def execFabQuery (c : CmdCtx) (s : State) : Host.Outcome State Fault Refusal := .next (s.served c (s.fabQuery c))

/-- ROUTE_QUERY: both entries of a destination. -/
def State.routeQuery (s : State) (c : CmdCtx) : State :=
  let d := u16 c.payload 0
  if c.payload.length ≠ 4 then s.reply c 0x22
  else if 1024 ≤ d ∨ u16 c.payload 2 ≠ 0 then s.reply c 0x21
  else s.reply c 0 (leBytes 4 (s.reg .ROUTE d) ++ leBytes 4 (s.reg .ROUTE (1024 + d)))

def execRouteQuery (c : CmdCtx) (s : State) : Host.Outcome State Fault Refusal := .next (s.served c (s.routeQuery c))

/-- The number of the module whose host a command speaks for. -/
def State.asker (s : State) (c : CmdCtx) : Nat := match c.src with | .fabric m => m | _ => s.srcNum

/-- Sends a command to another module, FLAGS.FABRIC set (Table 16.1), and keeps it until the reply comes. DEDUCED, log entry 54. -/
def State.forwardCmd (s : State) (c : CmdCtx) (m : Nat) (p : List Byte) : State :=
  (s.keep c false).fabMsg 2 m (mkPacket 2 c.opcode c.tag p)

/-- TT_REQUEST (R321): the coordinator plans the windows with the next generation, and answers with its GEN value. DEDUCED, log entry 53; DEDUCED, log entry 54. -/
def State.ttRequest (s : State) (c : CmdCtx) : State :=
  let d := u16 c.payload 0
  if c.payload.length ≠ 4 then s.reply c 0x22
  else if 1024 ≤ d ∨ 1024 < u16 c.payload 2 then s.reply c 0x21
  else if s.isCoord then
    let me := s.asker c
    let ws := s.fab.wishes.filter (fun w => !(w.src == me && w.dst == d)) ++ [⟨me, d, u16 c.payload 2⟩]
    ({ s with fab := { s.fab with wishes := ws, changed := true } }).reply c 0 (leBytes 4 (1 - s.gen))
  else if s.fld Fld.FAB_COORD_VALID = 1 ∧ (s.pickRoute (s.fld Fld.FAB_COORD_NUMBER) 0).isSome then
    s.forwardCmd c (s.fld Fld.FAB_COORD_NUMBER) c.payload
  else s.reply c 0x25

def execTtRequest (c : CmdCtx) (s : State) : Host.Outcome State Fault Refusal := .next (s.served c (s.ttRequest c))

end Sys2Proof.Machine
end

