-- ==== Sys2Proof/Machine/FabJobs.lean ====
section
/-!
DEFINITION. Work over the fabric (R322 to R331): streams and FABRIC jobs, commands and replies between stewards, leases,
remote orders, and cell moves.
-/
namespace Sys2Proof.Machine

/-! ## Streams (R322, R323) -/

/-- The open order and input that a stream tag of a module is bound to. -/
def State.fabInput (s : State) (src stag : Nat) : Option (Order × InputSt) :=
  s.orders.findSome? (fun o => (o.inputs.find? (fun i => i.kind == 3 && fabKey i.ref == (src, stag))).map (fun i => (o, i)))

/-- Chunks of a stream of `n` bytes. -/
def nChunks (n : Nat) : Nat := ceilDiv n 2048

/-- A chunk is written into its input; the input arrives with its last chunk (R53). -/
def State.takeChunk (s : State) (l : Nat) (h : FabHdr) (p : List Byte) (o : Order) (i : InputSt) : State :=
  let n := bits i.ref 47 32 * 64
  let k := h.off / 2048
  if i.got.contains k || n < h.off + h.len || (h.len != 2048 && k + 1 != nChunks n) then s.bump .FAB_CNT_BADHDR
  else if i.closed then s.bump .FAB_CNT_CLOSED
  else
    let got := i.got ++ [k]
    let done := decide (got.length = nChunks n)
    let late := done && !stampAtOrAfter i.ready s.stamp && o.remote.isNone
    (s.hubWrite o.handle (i.buf + h.off) (469 + l) p).modOrder o.handle (fun o =>
      { (o.modInput i.port (fun i => { i with got := got, arrived := i.arrived || done, late := i.late || late })) with
        fault := o.fault || (h.last && h.status != 0 && h.status != 0x10) })

/-- Cave address of byte `off` of a flow's soft buffer, through its map block (R102). -/
def State.sbAddr (s : State) (f off : Nat) : Nat :=
  leNat (s.caveRead ((s.flow f).sbMap + off / 4096 * 4) 4) * 4096 + off % 4096

/-- A frame of a soft-buffer copy (R330): installed while the flow's soft buffer is EMPTY, else discarded. DESIGN CHOICE, log entry 69. -/
def State.takeCopy (s : State) (h : FabHdr) (p : List Byte) (f : Nat) : State :=
  if s.fab.moveIn.any (fun m => m.live && m.peer == h.src && m.first ≤ f && f < m.first + m.n) then
    let x := s.flow f
    if x.sbState = 0 ∧ x.state = 1 ∧ h.off + h.len ≤ x.sbBlocks * 4096 then
      let s1 := s.caveWrite (s.sbAddr f h.off) p
      if h.last then s1.setFlow f { x with sbState := 1 } else s1
    else if h.last then s.bump .FAB_CNT_MOVE_DISC else s
  else s.bump .FAB_CNT_NOINPUT

/-- DATA (R323, R330); `flow` is the flow that a frame of a soft-buffer copy belongs to. -/
def State.fabData (s : State) (l : Nat) (f : FabFrame) (flow : Nat) : State :=
  match s.routedRx l 1 f with
  | (none, t) => t
  | (some h, t) =>
    let p := f.bytes.drop 32
    if h.stag = 0xFFFF then t.takeCopy h p flow
    else match t.fabInput h.src h.stag with
      | none => t.bump .FAB_CNT_NOINPUT
      | some (o, i) => t.takeChunk l h p o i

def execFabData (link : Fin 12) (f : FabFrame) (flow : Fin 5242880) (s : State) : Host.Outcome State Fault Refusal :=
  .next (s.fabData link.val f flow.val)

/-! ## Jobs (R324, R327) -/

/-- Frames of a byte string from stream offset `off`. -/
def streamFrames (vl dst stag off : Nat) (curd : Option Nat) (status : Nat) (b : List Byte) : List TxFrame :=
  let n := nChunks b.length
  (List.range n).map (fun k =>
    let last := k + 1 == n
    { kind := 1, vl := vl, last := last, dst := dst, src := 0, stag := stag, off := off + 2048 * k, status := if last then status else 0
      payload := slice b (2048 * k) 2048, curd := curd })

/-- Table 12.7: the descriptor of a FABRIC job is valid; with SCHED, LEN fits the windows that the task reserved. -/
def fabDescOk (d : List Byte) (windows : Nat) : Bool :=
  let sched := bitAt (u8 d 1) 0
  u8 d 0 == 0x0A && u8 d 1 ≤ 1 && u16 d 2 < 1024 && u16 d 4 ≤ 0xFEFF && u8 d 6 ≤ 3 && (!sched || u8 d 6 == 0) && u8 d 7 == 0
    && engAddrOk (u64 d 8) && decide (1 ≤ u32 d 16 ∧ u32 d 16 ≤ 4194240) && (!sched || decide (u32 d 16 ≤ 2048 * windows))
    && u32 d 20 % 2048 == 0 && allZero (slice d 24 40)

/-- FAB_TT units that a curd's task reserved. -/
def State.taskWindows (s : State) (c : Curd) : Nat :=
  match s.orderOf c.handle with
  | none => 0
  | some o => (((o.tasks.getD c.task default).costs.filter (fun x => x.1 == 0xF)).map (fun x => x.2.2)).sum

/-- A job notes that its frames are queued. -/
def State.noteJob (s : State) (curd peer : Nat) : State := { s with fab := { s.fab with jobs := s.fab.jobs ++ [{ curd := curd, lessor := peer }] } }

/-- A FABRIC job starts (R324): its link is chosen, its descriptor read and checked, and its frames queued. -/
def State.fabStart (s0 : State) (c : Curd) : State :=
  let d := s0.caveRead c.args 64
  let rt := s0.pickRoute (u16 d 2 % 1024) (u8 d 6 % 4)
  let s := s0.runHub c (match rt with | some (l, _) => 469 + l | none => 0x3FF)
  if !s.rangeOk 0 c.args 64 then (s.readBad 0 c.args 64 4 0x3FF c.handle).endCurd c.addr 0x12
  else if !fabDescOk d (s.taskWindows c) then s.endCurd c.addr 0x12
  else match rt with
    | none => s.endCurd c.addr 0x12
    | some (l, r) =>
      let a := u64 d 8; let n := u32 d 16
      if !s.rangeOk 0 a n then (s.readBad 0 a n 4 (469 + l) c.handle).endCurd c.addr 0x12
      else
        let fs := streamFrames (if bitAt (u8 d 1) 0 then 0 else 1) (u16 d 2) (u16 d 4) (u32 d 20) (some c.addr) 0 (s.caveRead a n)
        fs.foldl (fun (t : State) f => t.sendRouted l r f) (s.noteJob c.addr (u16 d 2))

/-- Table 12.9: the fields of a REMOTE descriptor or payload from LSLOT on, OP and IN_ADDR apart, are in range. -/
def remoteOk (d : List Byte) : Bool :=
  u8 d 1 ≤ 15 && decide (1 ≤ u16 d 6 ∧ u16 d 6 ≤ 64) && decide (1 ≤ u16 d 8 ∧ u16 d 8 ≤ 999) && u16 d 10 ≤ 0xFEFF && u32 d 12 ≤ 1048576
    && u32 d 16 ≤ 16384 && u32 d 28 == 0

/-- A REMOTE job starts (R327): REMOTE_RUN to the lessor of its slot, then the IN stream. -/
def State.remoteStart (s0 : State) (c : Curd) : State :=
  let d := s0.caveRead c.args 64
  let z := (s0.fab.leases.getD (u8 d 1) none).filter (fun z => z.epoch == epochOf (beatAdd s0.beat 1))
  let rt := z.bind (fun z => s0.pickRoute z.lessor 0)
  let s := s0.runHub c (match rt with | some (l, _) => 469 + l | none => 0x3FF)
  if !s.rangeOk 0 c.args 64 then (s.readBad 0 c.args 64 4 0x3FF c.handle).endCurd c.addr 0x12
  else if !(u8 d 0 == 0x0B && remoteOk d && u64 d 20 < 2 ^ 40) then s.endCurd c.addr 0x12
  else match z, rt with
    | some z, some (l, r) =>
      let a := u64 d 20; let n := u32 d 12
      if !s.rangeOk 0 a n then (s.readBad 0 a n 4 (469 + l) c.handle).endCurd c.addr 0x12
      else
        let p := zeros 1 ++ slice d 1 19 ++ zeros 12 ++ slice d 32 32
        let run : TxFrame := { kind := 4, vl := 1, dst := z.lessor, src := 0, payload := p, curd := some c.addr }
        (run :: streamFrames 1 z.lessor (0xFF00 + u8 d 1) 0 (some c.addr) 0 (s.caveRead a n)).foldl
          (fun (t : State) f => t.sendRouted l r f) (s.noteJob c.addr z.lessor)
    | _, _ => s.endCurd c.addr 0x12

/-- Frames of a job that wait to leave. -/
def State.jobQueued (s : State) (a : Nat) : Bool := s.fab.links.any (fun e => e.2.txQ.any (fun f => f.curd == some a))

/-- A job's last frame has left its link. -/
def State.jobSent (s : State) (c : Curd) : Bool :=
  !s.jobQueued c.addr && s.fab.jobs.all (fun j => j.curd != c.addr || j.leftNs ≤ s.tm.ns)

def State.dropJob (s : State) (a : Nat) : State := { s with fab := { s.fab with jobs := s.fab.jobs.filter (fun j => j.curd != a) } }

/-- FABRIC_JOB_END (R324). -/
def State.fabricEnd (s : State) (a : Nat) : State :=
  match s.curdAt a with
  | none => s
  | some c =>
    if c.cls = 10 ∧ c.st = .running ∧ s.fab.jobs.any (fun j => j.curd == a) ∧ s.jobSent c then (s.endCurd a 0x10).dropJob a else s

def execFabricJobEnd (curd : Nat) (s : State) : Host.Outcome State Fault Refusal := .next (s.fabricEnd curd)

/-- REMOTE jobs that are acknowledged and have sent everything end DONE (R327). -/
def State.remoteDone (s : State) : State :=
  s.fab.jobs.foldl (fun (t : State) j =>
    match t.curdAt j.curd with
    | some c => if c.cls = 11 ∧ c.st = .running ∧ j.acked ∧ t.jobSent c then (t.endCurd j.curd 0x10).dropJob j.curd else t
    | none => t) s

/-- Jobs that no longer run are forgotten, with their frames. DEDUCED, log entry 34. -/
def State.fabSweep (s : State) : State :=
  let live := fun (a : Nat) => match s.curdAt a with | some c => c.st == .running | none => false
  { s with fab := { s.fab with
      jobs := s.fab.jobs.filter (fun j => live j.curd)
      links := s.fab.links.map (fun e => (e.1, { e.2 with txQ := e.2.txQ.filter (fun f => match f.curd with | some a => live a | none => true) })) } }

/-- What each grain does on the links: acknowledgements and re-keys that are due, and waiting frames as their windows and credits allow. -/
def State.fabGrain (s : State) : State :=
  ((List.range 12).foldl (fun (t : State) l => ((t.ackDue l).seqRekey l).flDrain l) s.fabSweep.fabFlush).remoteDone

/-- REMOTE_ACK (R327): acknowledges the oldest unanswered REMOTE_RUN to its sender. -/
def State.remoteAck (s : State) (l : Nat) (f : FabFrame) : State :=
  match s.routedRx l 5 f with
  | (none, t) => t
  | (some h, t) =>
    match t.fab.jobs.find? (fun j => j.lessor == h.src && !j.acked && (match t.curdAt j.curd with | some c => c.cls == 11 && c.st == .running | none => false)) with
    | none => t
    | some j =>
      if u8 f.bytes 32 = 1 then
        ({ t with fab := { t.fab with jobs := t.fab.jobs.map (fun (x : RemoteJob) => if x.curd = j.curd then { x with acked := true } else x) } }).remoteDone
      else (t.endCurd j.curd 0x12).dropJob j.curd

def execRemoteAck (link : Fin 12) (f : FabFrame) (s : State) : Host.Outcome State Fault Refusal := .next (s.remoteAck link.val f)

/-! ## Remote orders (R328, R329) -/

/-- What remote orders of a lease slot already use of it in beat `b`: units of its pool, CAVE, LINK_UP and LINK_DN. -/
def State.leaseUsed (s : State) (lessee slot b : Nat) : List Nat :=
  s.orders.foldl (fun a o => match o.remote with
    | some r => if r.lessee = lessee ∧ r.slot = slot ∧ stampBeat o.promised = b then List.zipWith (· + ·) a (r.cost :: r.side) else a
    | none => a) [0, 0, 0, 0]

/-- What the curds of a REMOTE_RUN need (R38, R328): their budgets in the lease's pool, and what the task's cost table charges
to CAVE, LINK_UP and LINK_DN. DEDUCED, log entry 54. -/
def remoteNeed (img p : List Byte) (die : Nat) : List Nat :=
  let par := (List.range 16).map (fun i => u16 p (32 + 2 * i))
  let cs := taskCosts img (imgTaskAt img (u16 p 4)).costOff par die
  u16 p 6 * quantumOf (u16 p 8) :: [8, 6, 7].map (fun q => ((cs.filter (fun c => c.1 == q)).map (fun c => c.2.2)).sum)

/-- They fit what the lease still has. -/
def State.leaseFits (s : State) (lessee slot b : Nat) (z : Lease) (need : List Nat) : Bool :=
  (List.zipWith (· + ·) (s.leaseUsed lessee slot b) need).zip [z.amount, z.cave, z.link, z.link] |>.all (fun x => decide (x.1 ≤ x.2))

/-- Takes a remote order into the arena: its curds, its IN stream, its OUT area (zero until written), its sentinel. -/
def State.takeRemote (s : State) (p : List Byte) (lessee : Nat) (z : Lease) (slot : Nat) (need : List Nat) : Nat × State :=
  let b := beatAdd s.beat 1
  let img := (s.image slot).bytes
  let h := s.chooseSentinel + s.orderSeq * 16384
  let tk := u16 p 4
  let par := (List.range 16).map (fun i => u16 p (32 + 2 * i))
  let inp : InputSt :=
    { port := 0, kind := 3, ref := lessee + (0xFF00 + u8 p 1) * 2 ^ 16 + ceilDiv (u32 p 12) 64 * 2 ^ 32, len := 0, ready := mkStamp b 0, firstBeat := b }
  let r := s.setAside (u32 p 16)
  let t0 := r.1
  let o : Order :=
    { handle := h, func := 0xFF, pair := 0, slot := slot, dl := false, deadline := mkStamp b 1012, promised := mkStamp b 1012, resultQ := 0
      msix := 0xFFFF, resultBuf := 0, resultLen := 0, user := 0, tag := 0, prio := 0, homeDie := z.die, dieMask := 2 ^ z.die, params := par
      inputs := if u32 p 12 = 0 then [] else [inp], allocs := []
      tasks := (List.range (imgNTask img)).map (fun k =>
        { cls := (imgTaskAt img k).cls, beat := b, die := z.die, count := if k = tk then u16 p 6 else 0, budget := u16 p 8, costs := [], flowGated := false })
      ranges := [r.2]
      remote := some ⟨lessee, u8 p 1, u16 p 10, t0, u32 p 16, need.headD 0, need.drop 1⟩ }
  let s1 := { s.used.used with
    orders := s.orders ++ [o], orderSeq := (s.orderSeq + 1) % 2 ^ 18, rank := s.rank + 1, sentArmed := s.sentArmed + 1, sentFree := s.sentFree - 1 }
  let s2 := (s1.placeInputs h (o.inputs.map InputSt.port)).hubWrite h t0 0x3FF (zeros (u32 p 16))
  (h, s2.expand ((s2.orderOf h).getD o) s.rank)

/-- What certification looks at for a remote order of grant `g` (R328). DEDUCED, log entry 54. -/
def remoteDec (s : State) (g : Grant) (slot : Nat) (p : List Byte) (b : Nat) : DecIn where
  img := (s.image slot).bytes
  params := (List.range 16).map (fun i => u16 p (32 + 2 * i))
  homeDie := g.lease.die
  dieMask := 2 ^ g.lease.die
  deadline := mkStamp b 1012
  ports := if u32 p 12 = 0 then [] else [(0, mkStamp b 0)]

/-- The lessor's answer (Table 12.2). -/
def State.remoteReply (s : State) (m st handle : Nat) : State := s.fabMsg 5 m (leBytes 4 st ++ leBytes 4 handle)

/-- REMOTE_RUN (R328, Table 12.11). DEDUCED, log entry 54. -/
def State.remoteRun (s : State) (l : Nat) (f : FabFrame) : State :=
  match s.routedRx l 4 f with
  | (none, t) => t
  | (some h, t) =>
    let p := f.bytes.drop 32
    let b := beatAdd t.beat 1
    match t.fab.grants.find? (fun g => g.lessee == h.src && g.slot == u8 p 1 && g.lease.epoch == epochOf b) with
    | none => (t.bump .FAB_CNT_BADHDR).remoteReply h.src 0x24 0
    | some g =>
      if !(p.length == 64 && u8 p 0 == 0 && remoteOk p && u64 p 20 == 0) then t.bump .FAB_CNT_BADHDR
      else
        let z := g.lease
        match t.orderImage (u16 p 2) with
        | none => t.remoteReply h.src 0x04 0
        | some slot =>
          let img := (t.image slot).bytes
          if !certified (remoteDec t g slot p b) t.judgedStep ∨ imgNTask img ≤ u16 p 4 then t.remoteReply h.src 0x04 0
          else if classPool (imgTaskAt img (u16 p 4)).cls ≠ some z.pool ∨ !t.leaseFits h.src (u8 p 1) b z (remoteNeed img p z.die) then t.remoteReply h.src 0x05 0
          else if 1007 < t.grain then t.remoteReply h.src 0x03 0
          else
            let r := t.takeRemote p h.src z slot (remoteNeed img p z.die)
            r.2.remoteReply h.src 1 r.1

def execRemoteRun (link : Fin 12) (f : FabFrame) (s : State) : Host.Outcome State Fault Refusal := .next (s.remoteRun link.val f)

/-- REMOTE_SENTINEL (R329): at grain 1,000 of the remote order's beat, the OUT bytes leave and the order is over. -/
def State.remoteSentinel (s : State) (n : Nat) : State :=
  match s.orderAt n with
  | none => s
  | some o =>
    match o.remote with
    | none => s
    | some r =>
      if s.gridRun ∧ s.beat = stampBeat o.promised ∧ s.grain = 1000 then
        let failed := s.curds.any (fun c => c.handle == o.handle && (c.endStatus != 0x10 || c.outAbsent))
        let st := orderStatus { o with fault := s.faulted o } false (if failed then [0x12] else [])
        let out := s.caveRead r.outAddr r.outLen
        let s1 := match s.pickRoute r.lessee 0 with
          | some (l, q) => (streamFrames 1 r.lessee r.outTag 0 none st out).foldl (fun (t : State) f => t.sendRouted l q f) s
          | none => s
        (s1.cancelCurds o.handle).reclaim o false true
      else s

def execRemoteSentinel (sentinel : Fin 16384) (s : State) : Host.Outcome State Fault Refusal := .next (s.remoteSentinel sentinel.val)

/-! ## Commands and replies between stewards (R331, R419) -/

/-- CMD: a command packet of another module's steward. -/
def State.fabCmd (s : State) (l : Nat) (f : FabFrame) : State :=
  match s.routedRx l 2 f with
  | (none, t) => t
  | (some h, t) =>
    let p := f.bytes.drop 32
    if pktMagicOk p && p.length == pktBytes p && pktCrcOk p && pktFlags p == 2 && (pktOpcode p == 0x1401 || pktOpcode p == 0x1420) then
      t.fetchedCmd (pktCtx (.fabric h.src) 0x20 t.stamp p)
    else t.bump .FAB_CNT_BADHDR

def execFabCmd (link : Fin 12) (f : FabFrame) (s : State) : Host.Outcome State Fault Refusal := .next (s.fabCmd link.val f)

/-- A granted lease is kept in its slot, and adds to the columns that open from now on (R50, R326). -/
def State.keepLease (s : State) (c : CmdCtx) (slot : Nat) : State :=
  let p := c.payload
  let z : Lease := ⟨u16 p 0, u8 p 2, u8 p 3, u32 p 4, u32 p 8, u32 p 12, nextEpoch s.epoch⟩
  { s with
    fab := { s.fab with leases := setAt s.fab.leases slot (some z) }
    cap := { s.cap with remote := s.cap.remote ++ [⟨slot, z.epoch, z.amount⟩] } }

/-- The reply of another module answers the command that was forwarded to it. -/
def State.answerForwarded (s : State) (src : Nat) (p : List Byte) : State :=
  match s.mg.journal.find? (fun j => j.ctx.tag == pktTag p && j.ctx.opcode + 32768 == pktOpcode p && !j.done
      && (match j.ctx.src with | .fabric _ => false | _ => true)) with
  | none => s
  | some j =>
    let c := j.ctx
    -- a status that R9 does not let this module emit is not relayed
    let st := if statusListed (u8 (pktPayload p) 0) then u8 (pktPayload p) 0 else s.anyFailure
    if c.opcode = 0x1401 then
      match s.fab.asked.find? (fun a => a.1 == c) with
      | some a =>
        let s1 := { s with fab := { s.fab with asked := s.fab.asked.filter (fun x => x.1 != c) } }
        if st = 0 ∧ u16 c.payload 0 = src then (s1.keepLease c a.2).reply c 0 (leBytes 4 a.2) else s1.reply c (if st = 0 then 0x24 else st)
      | none => s.reply c 0x24
    else s.reply c st ((pktPayload p).drop 4)

/-- REPLY: the reply to a command, or, as `ack`, a module's acknowledgement of a load (false) or commit (true). -/
def State.fabReply (s : State) (l : Nat) (f : FabFrame) (ack : Option (Bool × Nat)) : State :=
  match s.routedRx l 3 f with
  | (none, t) => t
  | (some h, t) =>
    match ack with
    | some (k, st) => t.routeAcked h.src k st
    | none =>
      let p := f.bytes.drop 32
      if pktMagicOk p && p.length == pktBytes p && pktCrcOk p then t.answerForwarded h.src p else t.bump .FAB_CNT_BADHDR

def execFabReply (link : Fin 12) (f : FabFrame) (ack : Option (Bool × Nat)) (s : State) : Host.Outcome State Fault Refusal :=
  .next (s.fabReply link.val f ack)

/-! ## Leases (R325, R326) -/

/-- Lease slots of the lessee that hold no lease and are asked for by no request. DEDUCED, log entry 54. -/
def State.leaseFree (s : State) : List Nat :=
  (List.range 16).filter (fun k => (s.fab.leases.getD k none).isNone && !(s.fab.asked.any (fun a => a.2 == k)))

/-- The fields of a LEASE_REQUEST are in range (R325: pools CORE to TURBO). -/
def leaseArgsOk (p : List Byte) : Bool := u16 p 0 < 1024 && u8 p 2 ≤ 5 && u8 p 3 ≤ 3

/-- LEASE_REQUEST from this module's host: forwarded to the lessor, for a slot that the spec leaves open. -/
def State.leaseRequest (s : State) (c : CmdCtx) : State :=
  let p := c.payload
  if p.length ≠ 16 then s.reply c 0x22
  else if !leaseArgsOk p then s.reply c 0x21
  else if s.leaseFree = [] then s.reply c 0x24
  else if s.unreachable (u16 p 0) then s.reply c 0x25
  else
    let slot := natAt s.leaseFree (s.pick s.leaseFree.length)
    ({ s.used with fab := { s.fab with asked := s.fab.asked ++ [(c, slot)] } }).forwardCmd c (u16 p 0) p

def execLeaseRequest (c : CmdCtx) (s : State) : Host.Outcome State Fault Refusal := .next (s.served c (s.leaseRequest c))

/-- What a lease reserves in each column: (pool, index, units). -/
def leaseCosts (z : Lease) : List (Nat × Nat × Nat) :=
  [(z.pool, z.die, z.amount), (8, 0, z.cave), (6, z.die, z.link), (7, z.die, z.link), (0x11, 0, 1)]

/-- LEASE_GRANT (R325): the lessor judges a request that another module forwarded; `hops` is the lessee's distance on
route 0, `slot` the lessee's slot. -/
def State.leaseGrant (s : State) (c : CmdCtx) (hops slot : Nat) : State :=
  match c.src with
  | .fabric m =>
    let p := c.payload
    let e := nextEpoch s.epoch
    let z : Lease := ⟨u16 p 0, u8 p 2, u8 p 3, u32 p 4, u32 p 8, u32 p 12, e⟩
    let cols := s.cal.filter (fun x => epochOf x.beat == e)
    let fit := cols.all (fun x => fits s.cal x.beat (leaseCosts z))
    if p.length ≠ 16 then s.reply c 0x22
    else if !leaseArgsOk p then s.reply c 0x21
    else if s.epochLate || decide (6 < hops) || decide (16 ≤ (s.fab.grants.filter (fun g => g.lease.epoch == e)).length) || !fit then s.reply c 0x24
    else
      let s1 := { s with
        cal := cols.foldl (fun a (x : Column) => reserveAll a x.beat (leaseCosts z)) s.cal
        cap := { s.cap with grants := s.cap.grants ++ [(e, z.pool, z.die, z.amount, z.cave, z.link)] }
        fab := { s.fab with grants := s.fab.grants ++ [({ lessee := m, slot := slot, lease := z } : Grant)] } }
      s1.reply c 0 (leBytes 4 slot)
  | _ => s

def execLeaseGrant (c : CmdCtx) (hops slot : Nat) (s : State) : Host.Outcome State Fault Refusal := .next (s.served c (s.leaseGrant c hops slot))

/-- LEASE_QUERY: lessor, pool, die, amounts, epoch of a slot. DEDUCED, log entry 54. -/
def State.leaseQuery (s : State) (c : CmdCtx) : State :=
  if c.payload.length ≠ 4 then s.reply c 0x22
  else if 16 ≤ u8 c.payload 0 ∨ u32 c.payload 0 / 256 ≠ 0 then s.reply c 0x21
  else match s.fab.leases.getD (u8 c.payload 0) none with
    | none => s.reply c 0x21
    | some z => s.reply c 0 (leBytes 2 z.lessor ++ leBytes 1 z.pool ++ leBytes 1 z.die ++ leBytes 4 z.amount ++ leBytes 4 z.cave ++ leBytes 4 z.link
        ++ leBytes 4 z.epoch)

def execLeaseQuery (c : CmdCtx) (s : State) : Host.Outcome State Fault Refusal := .next (s.served c (s.leaseQuery c))

/-- Leases and grants of epochs that are over leave at the boundary. -/
def State.leaseEpoch (s : State) : State :=
  let ok := fun (e : Nat) => e == s.epoch || e == nextEpoch s.epoch
  { s with
    cap := { s.cap with remote := s.cap.remote.filter (fun r => ok r.epoch), grants := s.cap.grants.filter (fun g => ok g.1) }
    fab := { s.fab with
      leases := s.fab.leases.map (fun z => z.filter (fun z => ok z.epoch)), grants := s.fab.grants.filter (fun g => ok g.lease.epoch) } }

/-! ## Cell moves (R330) -/

/-- Peer, epoch and range of a move command are in range. -/
def State.moveArgsOk (s : State) (p : List Byte) : Bool :=
  u16 p 0 < 1024 && u8 p 2 == nextEpoch s.epoch && u8 p 3 == 0 && decide (1 ≤ u32 p 8 ∧ u32 p 8 ≤ 65536 ∧ u32 p 4 + u32 p 8 ≤ 0x500000)

def moveOf (p : List Byte) : Move := ⟨u16 p 0, u8 p 2, u32 p 4, u32 p 8, false, 0⟩

/-- MOVE_IN: takes the blocks of every flow, which become PENDING. -/
def State.moveInCmd (s : State) (c : CmdCtx) : State :=
  let p := c.payload
  let n := u16 p 12
  if p.length ≠ 16 then s.reply c 0x22
  else if !s.moveArgsOk p ∨ 1023 < n ∨ 0x0F < u8 p 14 ∨ u8 p 15 ≠ 0 then s.reply c 0x21
  else if s.epochLate then s.reply c 0x24
  else if s.genAvail < u32 p 8 * flowBlocks n then s.reply c 0x61
  else if !((List.range (u32 p 8)).all (fun i => (s.flow (u32 p 4 + i)).state == 0)) then s.reply c 0x24
  else
    let s1 := (List.range (u32 p 8)).foldl (fun (t : State) i => t.flowTake (u32 p 4 + i) (u8 p 14) n) s
    ({ s1 with fab := { s1.fab with moveIn := s1.fab.moveIn ++ [moveOf p] } }).reply c 0

def execMoveIn (c : CmdCtx) (s : State) : Host.Outcome State Fault Refusal := .next (s.served c (s.moveInCmd c))

/-- MOVE_OUT: `matched` says that the peer holds the matching MOVE_IN; a move already armed reports its progress. DEDUCED, log entry 54. -/
def State.moveOutCmd (s : State) (c : CmdCtx) (matched : Bool) : State :=
  let p := c.payload
  if p.length ≠ 12 then s.reply c 0x22
  else match s.fab.moveOut.find? (fun m => m.peer == u16 p 0 && m.epoch == u8 p 2 && m.first == u32 p 4 && m.n == u32 p 8) with
    | some m => s.reply c 0 (leBytes 4 m.copied)
    | none =>
      if !s.moveArgsOk p then s.reply c 0x21
      else if !matched || s.epochLate then s.reply c 0x24
      else ({ s with fab := { s.fab with moveOut := s.fab.moveOut ++ [moveOf p] } }).reply c 0 (leBytes 4 0)

def execMoveOut (c : CmdCtx) (matched : Bool) (s : State) : Host.Outcome State Fault Refusal := .next (s.served c (s.moveOutCmd c matched))

/-- The boundary of a move: flows that came become ACTIVE with an EMPTY soft buffer; those that go count as not ACTIVE. -/
def State.moveEpoch (s : State) : State :=
  let now := fun (m : Move) => !m.live && m.epoch == s.epoch
  let s1 := (s.fab.moveIn.filter now).foldl (fun (t : State) m =>
    (List.range m.n).foldl (fun (t : State) i =>
      let x := t.flow (m.first + i)
      if x.state = 2 then t.setFlow (m.first + i) { x with state := 1, sbState := 0 } else t) t) s
  let go := fun (m : Move) => if now m then { m with live := true } else m
  { s1 with fab := { s1.fab with moveIn := s1.fab.moveIn.map go, moveOut := s1.fab.moveOut.map go } }

/-- The next flow of a move whose REFS is 0. -/
def State.moveNext (s : State) (m : Move) : Option Nat :=
  ((List.range m.n).map (m.first + ·)).find? (fun f => (s.flow f).state != 0 && (s.flow f).refs == 0)

/-- MOVE_COPY (R330): the next flow's soft buffer, if VALID, is sent to the new module over VL1, and the flow released. -/
def State.moveCopy (s : State) : State :=
  match s.fab.moveOut.find? (fun m => m.live && (s.moveNext m).isSome) with
  | none => s
  | some m =>
    match s.moveNext m with
    | none => s
    | some f =>
      let x := s.flow f
      if x.sbState = 1 ∧ s.unreachable m.peer then s
      else
      let b := (List.range (x.sbBlocks * 4096)).map (fun i => s.caveByte (s.sbAddr f i))
      let s1 := match s.pickRoute m.peer 0 with
        | some (l, r) => if x.sbState = 1 then (streamFrames 1 m.peer 0xFFFF 0 none 0 b).foldl (fun (t : State) g => t.sendRouted l r g) s else s
        | none => s
      let s2 := s1.freeFlow f
      let m1 := { m with copied := m.copied + 1 }
      let rest := s2.fab.moveOut.map (fun y => if y = m then m1 else y)
      { s2 with fab := { s2.fab with
          moveOut := rest.filter (fun y => !(y == m1 && (List.range m.n).all (fun i => (s2.flow (m.first + i)).state == 0))) } }

def execMoveCopy (s : State) : Host.Outcome State Fault Refusal := .next s.moveCopy

end Sys2Proof.Machine
end

