-- ==== Sys2Proof/Machine/Changeover.lean ====
section
/-!
DEFINITION. The grain tick and the beat changeover (R19, R28, R33, R34, R385, R386): what a grain, a beat and an epoch do on
their own, in every part of the module.
-/
namespace Sys2Proof.Machine

/-! ## Hub jobs -/

/-- READY jobs of class FABRIC and REMOTE start (R126, R324, R327). -/
def State.startFabric (s : State) : State :=
  (sortKey (s.curds.filter (fun c => (c.cls == 10 || c.cls == 11) && c.st == .ready))).foldl
    (fun (t : State) (c : Curd) => if c.cls = 10 then t.fabStart c else t.remoteStart c) s

/-- Every READY hub job starts. -/
def State.startJobs (s : State) : State := s.startReadyHub.startFabric

/-- COMPLETION_PROCESS (R130): the completions due at a station, then the hub jobs that a returned token lets start. -/
def execCompletionProcess (station : Fin 5) (s : State) : Host.Outcome State Fault Refusal := .next ((s.processDue station.val).startJobs)

/-! ## The grain tick -/

/-- Dies of a mask that are in RUN are isolated: their grain counter disagrees with the hub's (R19). DEDUCED, log entry 24. -/
def State.isolateMissed (s : State) (missed : Nat) : State :=
  (maskList missed 4).foldl (fun (t : State) d => if t.dieStat d = 1 then t.isolateDie d 1 else t) s

/-- The next grain (R385): TIME_NS passes to the first edge at or after its nominal start. After an accepted stop no grain
follows the next beat tick (R386). DEDUCED, log entry 19. -/
def State.grainTick (s : State) (missed : Nat) : State :=
  if s.gridRun ∧ !(s.tm.gridStop && s.grain == 0 && s.tm.ticked != some s.absBeat) then
    let t := s.advanceTo (s.grainPair (s.tm.absGrain + 1))
    let t : State := { t with tm := { t.tm with absGrain := s.tm.absGrain + 1 } }
    (t.isolateMissed missed).flrDeliver.writesDue.fabGrain.parentWatch.sourceWatch
  else s

/-- GRAIN_TICK (R385): `missed` names the dies whose counter disagrees with the hub's. -/
def execGrainTick (missed : BitVec 4) (s : State) : Host.Outcome State Fault Refusal := .next (s.grainTick missed.toNat)

/-! ## Shadow transfer -/

/-- SHADOW_LATCH (R33): RWS words in grain 1,023, and RWE words as well before an epoch boundary. DEDUCED, log entry 18. -/
def State.shadowLatch (s : State) : State :=
  if s.gridRun ∧ s.grain = 1023 then
    let t : State := { s with rwsLatched := overlay s.rwsLatched s.rwsNew, rwsNew := [] }
    if (s.beat + 1) % 1280 = 0 then { t with rweLatched := overlay s.rweLatched s.rweNew, rweNew := [] } else t
  else s

def execShadowLatch (s : State) : Host.Outcome State Fault Refusal := .next s.shadowLatch

/-- The latched RWS words take effect; those accepted in grain 1,023 wait for the next latch. DEDUCED, log entry 18. -/
def State.applyRws (s : State) : State :=
  let t := s.applyWords .rws s.rwsLatched
  { t with rwsLatched := [], rwsNew := overlay s.rwsNew s.rwsLate, rwsLate := [], rweNew := overlay s.rweNew s.rweLate, rweLate := [] }

/-- The latched RWE words take effect. -/
def State.applyRwe (s : State) : State := { s.applyWords .rwe s.rweLatched with rweLatched := [] }

/-! ## The beat tick -/

/-- Sensing streams follow EN: 0 sends a stream to OFF and its slots become UNKNOWN, 1 starts it from IDLE (R266, R277). DEDUCED, log entry 66. -/
def State.streamTick (s : State) : State :=
  (List.range 32).foldl (fun (t : State) n =>
    let on := t.fld Fld.SE_S_CFG_EN n == 1
    if on ∧ t.seState n = 0 then (t.setStream n { slots := (t.stream n).slots }).seIdle n
    else if !on ∧ t.seState n ≠ 0 then (t.setStream n { slots := (t.stream n).slots.map (fun e => (e.1, 2)) }).setSeState n 0
    else t) s

/-- The 32 bytes of an error record (Table 18.4), with the ORDER_HANDLE that its reader may see. -/
def ErrRec.bytes (r : ErrRec) (lost seen : Nat) : List Byte :=
  leBytes 4 r.stamp ++ leBytes 1 r.status ++ leBytes 1 r.mem ++ leBytes 1 r.die ++ leBytes 1 r.flags ++ leBytes 8 r.addr
    ++ leBytes 2 r.req ++ leBytes 2 r.synd ++ leBytes 4 seen ++ leBytes 2 r.count ++ leBytes 2 lost ++ leBytes 1 r.owner ++ zeros 3

/-- The records of earlier beats are offered to the ERROR queue, in order of creation; the first of a die carries its lost count
(R472, R474). A die whose offer is not yet settled makes no second one. -/
def State.errTick (s : State) : State :=
  if s.fld Fld.ECC_ERRQ_ENABLE = 0 then s
  else
    (List.range 5).foldl (fun (t : State) d =>
      if t.qEnqs.any (fun x => match x with | .put e => e.producer == .errorUnit d | _ => false) then t
      else
        let l := (t.errs.getD d []).filter (fun r => r.beat < s.absBeat)
        (List.range l.length).foldl (fun (u : State) k =>
          match l[k]? with
          | some r =>
            let q := u.fld Fld.ECC_ERRQ_QUEUE
            u.enqueue q (r.bytes (if k = 0 then u.fld Fld.ECC_D_STORE_LOST_PENDING d else 0) (u.seenHandle q r.handle r.func)) (.errorUnit d)
          | none => u) t) s

/-- The grid stops at this tick (R386). -/
def State.stopTick (s : State) : State :=
  if s.tm.gridStop then { s.setFld Fld.TIME_STAT_GRID_RUN 0 0 with tm := { s.tm with gridStop := false } } else s

/-- What the tick that starts a beat does (Table 2.3 and the rules that name the tick). DEDUCED, log entry 19. -/
def State.beatTick (s : State) : State :=
  if s.gridRun ∧ s.grain = 0 ∧ s.tm.ticked ≠ some s.absBeat then
    let t : State := { s with tm := { s.tm with ticked := some s.absBeat } }
    let t := (List.range 5).foldl (fun (u : State) st => u.tickTrace st) t
    let t := t.applyRws
    let t := if t.clampIncr t.incr = t.incr then t else t.setIncr (t.clampIncr t.incr)
    let t := t.streamTick.takeStep.sessionTick.closeAllTick.fhTick.flowTick.flTick.fabTick
    t.tickRelease.startJobs.errTick.stopTick
  else s

/-- BEAT_TICK (R33). -/
def execBeatTick (s : State) : Host.Outcome State Fault Refusal := .next s.beatTick

/-- What an epoch boundary does beyond the tick (Table 2.3, R28). DEDUCED, log entry 19. -/
def State.epochBoundary (s : State) : State :=
  if s.grain = 0 ∧ s.beat % 1280 = 0 ∧ (s.gridRun ∨ s.tm.ticked = some s.absBeat) ∧ s.tm.epochAt ≠ some s.absBeat then
    let t : State := { s with tm := { s.tm with epochAt := some s.absBeat } }
    (t.applyRwe.seqEpoch t).servoEpoch.fabEpoch.leaseEpoch.moveEpoch.scrubEpoch.trialEpoch.debugEpoch
  else s

/-- EPOCH_BOUNDARY (R28). -/
def execEpochBoundary (s : State) : Host.Outcome State Fault Refusal := .next s.epochBoundary

end Sys2Proof.Machine
end

