-- ==== Sys2Proof/Machine/BusRead.lean ====
section
/-!
DEFINITION. Register reads (R7, R23 to R25, R382, R485, R512): the value each BAR0 register shows, and the reads that BAR0
accepts. Registers that show a count or a condition held elsewhere in the state are computed here.
-/
namespace Sys2Proof.Machine

/-- A count as a field of `n` bits that saturates. -/
def satField (n v : Nat) : Nat := min v (2 ^ n - 1)

/-- Curds of a station in a state. -/
def State.curdsIn (s : State) (st : Nat) (c : CurdState) : Nat := (s.curds.filter (fun x => x.station == st && x.st == c)).length

/-- Cores of die `d` that wait in TAKE, 32 from core `lo` on (Table 5.7). -/
def State.waitMask (s : State) (d lo : Nat) : Nat :=
  (List.range 32).foldl (fun m n => if s.fld Fld.CORE_STAT_STATE (64 * d + lo + n) = 1 then m + 2 ^ n else m) 0

/-- DMA_CH_STAT of hub channel `c` (Table 14.9). -/
def State.dmaStat (s : State) (c : Nat) : Nat :=
  s.dmaState c + 4 * b2n ((s.dma c).setBusy 0) + 8 * b2n ((s.dma c).setBusy 1)
    + 16 * b2n (s.dmaJobs.any (fun j => j.chan == some c)) + 2 ^ 8 * s.fld Fld.DMA_CH_STAT_LAST_STATUS c

/-- The last written value of register `i` without its WO fields, which read as zero. -/
def State.shown (s : State) (r : RegId) (i : Nat) : Nat := takeFields r.desc.fields (fun f => f.acc == .wo) (s.written r i) 0

/-- What register `i` of kind `r` reads as. -/
def State.regView (s : State) (r : RegId) (i : Nat) : Nat :=
  match r with
  | .RENNET_NOW => s.stamp
  | .RENNET_FIRST_OPEN => if s.gridRun then s.firstOpen else 0
  | .RENNET_INFLIGHT => s.sentArmed
  | .TIME_NS_LO => s.tm.ns % 2 ^ 32
  | .TIME_STAT => putBits (s.reg .TIME_STAT) 2 0 s.servoRead
  | .TIME_SRC_STAT => putBits (putBits (putBit (s.reg .TIME_SRC_STAT i) 0 (s.sourceOk i)) 15 8 (s.source i).cls) 23 16 (s.source i).steps
  | .TIME_PTP_PORT => if i < 16 then putBits (s.shown .TIME_PTP_PORT i) 7 4 (s.ptpState i) else s.shown .TIME_PTP_PORT i
  | .DAC_STAT => putBits (s.reg .DAC_STAT i) 4 0 (s.dac i).queue.length
  | .DISP_STORE => s.storeUsed i
  | .DISP_READY => satField 16 (s.curdsIn i .ready) + 2 ^ 16 * satField 16 (s.curdsIn i .gated)
  | .DISP_WAIT_LO => if i = 4 then 0 else s.waitMask i 0
  | .DISP_WAIT_HI => if i = 4 then 0 else s.waitMask i 32
  | .DISP_CTRL => if i = 4 then 0 else s.shown .DISP_CTRL i
  | .DISP_STAGED | .DISP_STAGE_UNUSED => if i = 4 then 0 else s.shown r i
  | .ECC_SCRUB_PENDING => s.fillQ.length
  | .DMA_CH_STAT => s.dmaStat i
  | .TDMA_STAT => tstatWord (s.tchan (i / 4 * 8 + i % 4))
  | .TDMA_DONE => (s.tchan (i / 4 * 8 + i % 4)).done
  | .LN_CTRL | .LN_EQ | .LN_CNT_ERR | .LN_CNT_PRBS => if 128 ≤ i ∧ i < 144 then 0 else s.shown r i
  | _ => s.shown r i

/-- The registers that answer after a start-up stop (R512). PRESUMED, log entry 16. -/
def answersStopped (off : Nat) : Bool :=
  off == RegId.offset .GLOBAL_ID || off == RegId.offset .GLOBAL_SERIAL_LO || off == RegId.offset .GLOBAL_SERIAL_HI
    || off == RegId.offset .GLOBAL_BOOT || off == RegId.offset .GLOBAL_RESET_CAUSE

/-- Whether a read of a BAR0 offset is answered by the block it names; elsewhere it returns all ones (R485, R512). DEDUCED, log entry 15; PRESUMED, log entry 16. -/
def State.readOpen (s : State) (off : Nat) : Bool :=
  s.pwState != 4 && (if s.bt.stopped then answersStopped off else s.busOpen off .pf0)

/-- A read of the 32-bit word at a BAR0 offset, and the state its read effect leaves. -/
def State.readWordAt (s : State) (off : Nat) : Nat × State :=
  if !s.readOpen off then (0xFFFFFFFF, s)
  else match s.proxyAt off with
    | some p => (0xFFFFFFFF, s.bump p.1 p.2)
    | none => match regAt off with
      | none => (0, s)
      | some (r, i) => (s.regView r i, if r = .TIME_NS_LO then s.timeLatch else s)

/-- `n` consecutive words from an offset, in ascending order. -/
def State.readWords (s : State) (off : Nat) : Nat → List Byte × State
  | 0 => ([], s)
  | n + 1 =>
    let r := s.readWordAt off
    let q := r.2.readWords (off + 4) n
    (leBytes 4 r.1 ++ q.1, q.2)

/-- A host read of `n` bytes at a BAR0 offset (R23): whole registers at their natural alignment; the selected bytes of one register,
with its read effect; zeros, and no effect, when it is misaligned. DEDUCED, log entry 15. -/
def State.busRead (s : State) (off n : Nat) : List Byte × State :=
  if (n = 4 ∧ off % 4 = 0) ∨ (n = 8 ∧ off % 8 = 0) then s.readWords off (n / 4)
  else if off % 4 + n ≤ 4 then
    let r := s.readWordAt (off / 4 * 4)
    (slice (leBytes 4 r.1) (off % 4) n, r.2)
  else if s.readOpen (off / 4 * 4) then (zeros n, s) else (List.replicate n 255, s)

/-- TIME_NS_LO_READ (R382): a PCIe read of BAR0; one that takes in TIME_NS_LO latches TIME_NS_HI and TIME_FRAC. DESIGN CHOICE, log
entry 4. -/
def execTimeNsLoRead (offset len : Nat) (s : State) : Host.Outcome State Fault Refusal :=
  let r := s.busRead offset len
  .next { r.2 with reads := s.reads ++ [r.1] }

end Sys2Proof.Machine
end

