-- ==== Sys2Proof/Machine/HostBus.lean ====
section
/-!
DEFINITION. The Cave window of BAR4 (R26, R465, R470, R506), register access by command (R420, R423, R424), and the access
of debug sessions to module state (Tables 20.4 and 20.5).
-/
namespace Sys2Proof.Machine

/-! ## BAR4 -/

/-- The Cave address that offset `x` of BAR4 maps to. -/
def State.winAddr (s : State) (x : Nat) : Nat := s.fld Fld.GLOBAL_CAVEWIN_BASE * 2 ^ 32 + x

/-- Bytes of the SYSTEM region that BAR4 reads: copy A of the flow table (R101). -/
def flowCopyA (a : Nat) : Bool := a < 0x14000000

/-- The golden-copy slots (R438). DEDUCED, log entry 63. -/
def goldenSlot (a : Nat) : Bool := 0x14000000 ≤ a && a < 0x15800000

/-- The fill has reached a Cave address (R465). DEDUCED, log entry 63. -/
def State.filled (s : State) (a : Nat) : Bool :=
  s.fld Fld.ECC_FILL_DONE == 1 || (s.fld Fld.ECC_FILL_GOLDEN == 1 && goldenSlot a)

/-- What BAR4 shows of a Cave byte: zero beyond the near tier and in SYSTEM blocks other than the flow table. -/
def State.winByte (s : State) (a : Nat) : Byte := if !caveMapped a || (caveSystem a && !flowCopyA a) then 0 else s.caveByte a

/-- The mapped addresses of a range. -/
def mappedLen (a n : Nat) : Nat := ((List.range n).filter (fun i => caveMapped (a + i))).length

/-- A read of `n` bytes at BAR4 offset `x`. A Completer Abort is the empty byte string in `reads`. -/
def State.bar4Read (s : State) (x n : Nat) : State :=
  let a := s.winAddr x
  let m := mappedLen a n
  if 3 ≤ s.pwState then { s with reads := s.reads ++ [List.replicate n 255] }
  else if m ≠ 0 ∧ !(s.filled a && s.filled (a + m - 1)) then { s with reads := s.reads ++ [[]] }
  else if !s.rangeOk 0 a m then { s.readBad 0 a m 4 0x1FE 0 with reads := s.reads ++ [[]] }
  else
    let t := s.readRange 0 a m 4 16 0x1FE 0
    { t with reads := s.reads ++ [(List.range n).map (fun i => t.winByte (a + i))] }

/-- BAR4_READ (R26, R101, R470). -/
def execBar4Read (offset len : Nat) (s : State) : Host.Outcome State Fault Refusal := .next (s.bar4Read offset len)

/-- A byte that a BAR4 write may store: mapped, filled, and in neither an IMAGE nor a SYSTEM block (R506). -/
def State.winWritable (s : State) (a : Nat) : Bool := caveMapped a && !s.blockProtected a && s.filled a

/-- The writable runs of a range, as (offset, length), ascending. -/
def State.winRuns (s : State) (a : Nat) : Nat → List (Nat × Nat)
  | 0 => []
  | n + 1 =>
    let l := s.winRuns a n
    if !s.winWritable (a + n) then l
    else match l.getLast? with
      | some (o, k) => if o + k = n then l.dropLast ++ [(o, k + 1)] else l ++ [(n, 1)]
      | none => l ++ [(n, 1)]

/-- A write of `d` at BAR4 offset `x`: bytes in IMAGE and SYSTEM blocks are discarded and the write counted; the others are
stored, a part of a code word that is not intact waiting in the merge buffer. -/
def State.bar4Write (s : State) (x : Nat) (d : List Byte) : State :=
  let a := s.winAddr x
  if 3 ≤ s.pwState then s
  else
    let s1 := if (List.range d.length).any (fun i => caveMapped (a + i) && s.blockProtected (a + i)) then s.bump .KEEPER_CNT_BAR4 else s
    (s1.winRuns a d.length).foldl (fun (t : State) r =>
      ((t.writeWords 0 (a + r.1) r.2 4 0x1FE 0).caveWrite (a + r.1) (slice d r.1 r.2)).flip 0 (a + r.1) 0x1FE) s1

/-- BAR4_WRITE (R26, R506). -/
def execBar4Write (offset : Nat) (data : List Byte) (s : State) : Host.Outcome State Fault Refusal := .next (s.bar4Write offset data)

/-! ## Registers by command -/

/-- Who a register command acts as: PF0 on a ring, else its transport (R424, R426). PRESUMED, log entry 43. -/
def busSource (src : CmdSource) : Source := match src with | .pair _ => .pf0 | .port _ _ => .mgmt | .ssp => .ssp | .fabric _ => .steward

/-- The registers that hold an order's handle (Table 20.5). PRESUMED, log entry 43. -/
def handleReg (r : RegId) : Bool :=
  r == .CORE_CUR || r == .CORE_EXC_HANDLE || r == .BMU_CUR || r == .BMU_EXC_HANDLE || r == .ENG_CUR || r == .ENG_EXC_HANDLE
    || r == .PX_CUR || r == .PX_EXC_HANDLE

/-- Words of a register read with handle fields as zero where `mask` says so. PRESUMED, log entry 43. -/
def State.readMasked (s : State) (mask : Bool) (off n : Nat) : List Byte × State :=
  let r := s.readWords off n
  ((List.range n).flatMap (fun k =>
    let zero := mask && (match regAt (off + 4 * k) with | some (x, _) => handleReg x | none => false)
    if zero && (s.proxyAt (off + 4 * k)).isNone then zeros 4 else slice r.1 (4 * k) 4), r.2)

/-- A (offset, value) list written in order, and how many of the writes were discarded (R424). -/
def State.writeList (s : State) (src : Source) (l : List (Nat × Nat)) : Nat × State :=
  l.foldl (fun (r : Nat × State) x =>
    let t := r.2.busWord x.1 x.2 src
    (r.1 + b2n (t.reg .GLOBAL_WERR_CNT != r.2.reg .GLOBAL_WERR_CNT), t)) (0, s)

/-- OFFSET a multiple of 4 whose span lies in BAR0, and N within its bound. DEDUCED, log entry 17. -/
def spanOk (off n max : Nat) : Bool := off % 4 == 0 && 1 ≤ n && n ≤ max && off + 4 * n ≤ 0x4000000

def State.regRead (s : State) (c : CmdCtx) : State :=
  let off := u32 c.payload 0; let n := u32 c.payload 4
  if c.payload.length ≠ 8 then s.reply c 0x22
  else if !spanOk off n 256 then s.reply c 0x21
  else
    let r := s.readMasked (match c.src with | .pair _ => false | _ => true) off n
    r.2.reply c 0 r.1

/-- REG_READ (R420, R424). -/
def execRegRead (c : CmdCtx) (s : State) : Host.Outcome State Fault Refusal := .next (s.served c (s.regRead c))

def State.regWrite (s : State) (c : CmdCtx) : State :=
  let off := u32 c.payload 0; let n := u32 c.payload 4
  if c.payload.length < 8 ∨ c.payload.length ≠ 8 + 4 * n then s.reply c 0x22
  else if !spanOk off n 256 then s.reply c 0x21
  else
    let r := s.writeList (busSource c.src) ((List.range n).map (fun k => (off + 4 * k, u32 c.payload (8 + 4 * k))))
    r.2.reply c 0 (leBytes 4 r.1)

/-- REG_WRITE (R420, R424). -/
def execRegWrite (c : CmdCtx) (s : State) : Host.Outcome State Fault Refusal := .next (s.served c (s.regWrite c))

/-- The pairs of a REG_STAGE payload. -/
def stagePairs (p : List Byte) : List (Nat × Nat) := (List.range (u32 p 4)).map (fun k => (u32 p (8 + 8 * k), u32 p (12 + 8 * k)))

/-- Pairs in the stage buffer. -/
def State.stagePairsHeld (s : State) : Nat := (s.mg.stage.map (fun b => b.writes.length)).sum

/-- REG_STAGE is taken (R423): the batch waits for the first boundary of epoch AT at least 128 beats ahead. -/
def State.regStage (s : State) (c : CmdCtx) : State :=
  let p := c.payload; let n := u32 p 4
  if p.length < 8 ∨ p.length ≠ 8 + 8 * n then s.reply c 0x22
  else if 63 < u8 p 0 ∨ !allZero (slice p 1 3) ∨ n = 0 ∨ 128 < n ∨ (stagePairs p).any (fun x => !spanOk x.1 1 1) then s.reply c 0x21
  else if 8 ≤ s.mg.stage.length ∨ 1024 < s.stagePairsHeld + n then s.reply c 0x25
  else
    let t := s.keep c true
    { t with mg := { t.mg with stage := t.mg.stage ++ [{
        epoch := u8 p 0, boundary := u8 p 0 * 1280, notBefore := s.absBeat + 128, writes := stagePairs p, ctx := c }] } }

/-- REG_STAGE (R423). -/
def execRegStage (c : CmdCtx) (s : State) : Host.Outcome State Fault Refusal := .next (s.served c (s.regStage c))

/-- The batches due at a boundary are performed, in acceptance order, in grains 1,008 to 1,022 of the beat before it; their
replies follow. -/
def State.stageApply (s : State) : State :=
  if s.gridRun ∧ (s.beat + 1) % 1280 = 0 ∧ 1008 ≤ s.grain ∧ s.grain ≤ 1022 then
    let next := s.absBeat + 1
    let due := s.mg.stage.filter (fun b => decide (b.boundary = next % beatMod ∧ b.notBefore ≤ next))
    let t : State := { s with mg := { s.mg with stage := s.mg.stage.filter (fun b => !decide (b.boundary = next % beatMod ∧ b.notBefore ≤ next)) } }
    due.foldl (fun (u : State) b =>
      let r := u.writeList .stage b.writes
      r.2.lateReply b.ctx 0 (leBytes 4 r.1 ++ leBytes 4 (mkStamp b.boundary 0))) t
  else s

/-- STAGE_BATCH_APPLY (R423). -/
def execStageBatchApply (s : State) : Host.Outcome State Fault Refusal := .next s.stageApply

/-! ## Debug access (Tables 20.4 and 20.5) -/

/-- The register files of a core as SPACE 4 lays them out. -/
def Core.image (c : Core) : List Byte :=
  let w := fun (n : Nat) (l : List Nat) => (List.range n).flatMap (fun i => leBytes 4 (natAt l i))
  w 32 c.s ++ w 8 c.p ++ (List.range 32).flatMap (fun i => w 32 (c.v.getD i [])) ++ (List.range 16).flatMap (fun i => w 32 (c.c.getD i []))

/-- A core whose register files hold an image. -/
def Core.ofImage (c : Core) (p : List Byte) : Core :=
  let w := fun (o n : Nat) => (List.range n).map (fun i => u32 p (o + 4 * i))
  { c with
    s := w 0 32
    p := w 128 8
    v := (List.range 32).map (fun i => w (160 + 128 * i) 32)
    c := (List.range 16).map (fun i => w (4256 + 128 * i) 32) }

/-- Bytes `q` put at offset `o` of `p`. DESIGN CHOICE, log entry 69. -/
def patch (p : List Byte) (o : Nat) (q : List Byte) : List Byte := p.take o ++ q ++ p.drop (o + q.length)

/-- The curd that SPACE 5 names: curd number `n`, in order of task and index, of the order armed on a sentinel. PRESUMED, log entry 43. -/
def State.curdNumber (s : State) (sentinel n : Nat) : Option Curd :=
  match s.orders.find? (fun o => o.handle % 16384 == sentinel) with
  | none => none
  | some o => match o.curdList[n]? with
    | none => none
    | some x => s.curds.find? (fun c => c.handle == o.handle && c.task == x.1 && c.index == x.2)

/-- A debug access: its space, address and length, the session's level and tile. -/
structure DbgAccess where
  space : Nat
  addr : Nat
  len : Nat
  level : Nat
  tile : Nat

/-- The tile that an access to SPACE 2, 3 or 4 reaches. PRESUMED, log entry 43. -/
def DbgAccess.target (x : DbgAccess) : Nat := if x.space = 2 then bits x.addr 26 21 else bits x.addr 27 20 / 4

/-- Offset within the space's unit, and the unit's size. PRESUMED, log entry 43. -/
def DbgAccess.offset (x : DbgAccess) : Nat := if x.space = 2 then bits x.addr 20 0 else if x.space = 3 then bits x.addr 18 0 else bits x.addr 19 0
def DbgAccess.size (x : DbgAccess) : Nat := if x.space = 2 then 2 ^ 21 else if x.space = 3 then 2 ^ 19 else 6304

/-- An address that its space does not have (R539, Table 20.4). -/
def DbgAccess.bad (x : DbgAccess) : Bool :=
  if x.space = 0 then !spanOk x.addr (x.len / 4) 256
  else if x.space = 1 then !(List.range x.len).all (fun i => caveMapped (x.addr + i))
  else if x.space = 2 then x.addr / 2 ^ 27 != 0 || x.size < x.offset + x.len
  else if x.space = 3 then x.addr / 2 ^ 28 != 0 || bits x.addr 19 19 != 0 || x.size < x.offset + x.len
  else if x.space = 4 then x.addr / 2 ^ 28 != 0 || x.size < x.offset + x.len || x.addr % 4 != 0
  else x.addr / 2 ^ 26 != 0 || 64 < x.len

/-- A block whose contents only a D3 session sees (Table 20.5): every one but the flow table and IMAGE blocks. -/
def State.secretByte (s : State) (a : Nat) : Bool :=
  !flowCopyA a && !(match s.owner (a / 4096) with | some (.image _ _) => true | _ => false)

/-- Whether Table 20.5 permits a read. -/
def DbgAccess.readOk (x : DbgAccess) : Bool :=
  if x.space ≤ 1 || x.space = 5 then true else x.level == 3 || (x.level == 2 && x.target == x.tile)

/-- Whether Table 20.5 permits a write. PRESUMED, log entry 43. -/
def DbgAccess.writeOk (x : DbgAccess) (s : State) : Bool :=
  if x.space = 0 then x.level == 3 || (x.level == 2 && decide (dieWindows + x.tile * 0x80000 ≤ x.addr ∧ x.addr + x.len ≤ dieWindows + (x.tile + 1) * 0x80000))
  else if x.space = 1 then x.level == 3 && (List.range x.len).all (fun i => s.secretByte (x.addr + i))
  else x.space != 5 && x.readOk

/-- Key of a VM or TSM byte. -/
def DbgAccess.key (x : DbgAccess) : Nat := if x.space = 2 then x.target * 2 ^ 21 + x.offset else bits x.addr 27 20 * 2 ^ 19 + x.offset

/-- The memory and address that the codes of chapter 18 see, for an access to the Cave, a TSM or a VM. PRESUMED, log entry 43. -/
def DbgAccess.mem (x : DbgAccess) : Option (Nat × Nat) :=
  if x.space = 1 then some (0, x.addr) else if x.space = 2 then some (1, x.key) else if x.space = 3 then some (2, x.key) else none

/-- The die that records an error of the access. PRESUMED, log entry 43. -/
def DbgAccess.die (x : DbgAccess) : Nat := if x.space = 1 then 4 else x.target / 16

/-- The bytes a debug read returns: all ones from a tile that is off. -/
def State.dbgBytes (s : State) (x : DbgAccess) : List Byte × State :=
  if x.space = 0 then s.readMasked (x.level != 3) x.addr (x.len / 4)
  else if x.space = 1 then ((List.range x.len).map (fun i => if x.level ≠ 3 ∧ s.secretByte (x.addr + i) then 0 else s.caveByte (x.addr + i)), s)
  else if x.space = 5 then
    match s.curdNumber (bits x.addr 13 0) (bits x.addr 25 14) with
    | none => (zeros x.len, s)
    | some c =>
      let d : Curd := if x.level = 3 then c else { c with handle := 0, flow := 0 }
      (slice d.bytes 0 x.len, s)
  else if !s.tileOn x.target then (List.replicate x.len 255, s)
  else if x.space = 2 then (readBytes s.tsm x.key x.len, s)
  else if x.space = 3 then (readBytes s.vm x.key x.len, s)
  else (slice (s.core (bits x.addr 27 20)).image x.offset x.len, s)

/-- A debug write. PRESUMED, log entry 43. -/
def State.dbgStore (s : State) (src : Source) (x : DbgAccess) (d : List Byte) : State :=
  if x.space = 0 then (s.writeList src ((List.range (x.len / 4)).map (fun k => (x.addr + 4 * k, u32 d (4 * k))))).2
  else if x.space = 1 then (s.writeWords 0 x.addr d.length 4 0x3F2 0).caveWrite x.addr d
  else if !s.tileOn x.target then s
  else if x.space = 2 then (let t := s.writeWords 1 x.key d.length (x.target / 16) 0x3F2 0; { t with tsm := writeBytes t.tsm x.key d })
  else if x.space = 3 then (let t := s.writeWords 2 x.key d.length (x.target / 16) 0x3F2 0; { t with vm := writeBytes t.vm x.key d })
  else
    let n := bits x.addr 27 20
    s.setCore n ((s.core n).ofImage (patch (s.core n).image x.offset d))

/-- The access that a payload asks for, or the status to answer. -/
def State.dbgAccess (s : State) (c : CmdCtx) (write : Bool) : Nat ⊕ DbgAccess :=
  let p := c.payload; let n := u32 p 12; let ses := u8 p 0
  if p.length < 16 ∨ (!write ∧ p.length ≠ 16) ∨ (write ∧ p.length ≠ 16 + ceilDiv n 4 * 4) then .inl 0x22
  else
    let x : DbgAccess := ⟨u8 p 1, u64 p 4, n, s.fld Fld.DBG_SESS_LEVEL (ses % 4), s.fld Fld.DBG_SESS_TILE (ses % 4)⟩
    if 3 < ses ∨ 5 < x.space ∨ u16 p 2 ≠ 0 ∨ n < 4 ∨ 1024 < n ∨ n % 4 ≠ 0 ∨ x.bad then .inl 0x21
    else if !s.ownsSession c ses ∨ s.fld Fld.DBG_SESS_STATE ses ≠ 2 then .inl 0x24
    else if (if write then x.writeOk s else x.readOk) then .inr x else .inl 0x24

def State.dbgRead (s : State) (c : CmdCtx) : State :=
  match s.dbgAccess c false with
  | .inl st => s.reply c st
  | .inr x =>
    match x.mem with
    | some (m, a) =>
      if x.space ≠ 1 ∧ !s.tileOn x.target then (s.dbgBytes x).2.reply c 0 (s.dbgBytes x).1
      else if !s.rangeOk m a x.len then (s.readBad m a x.len x.die 0x3F2 0).reply c 0x62
      else
        let t := s.readRange m a x.len x.die 0 0x3F2 0
        (t.dbgBytes x).2.reply c 0 (t.dbgBytes x).1
    | none => (s.dbgBytes x).2.reply c 0 (s.dbgBytes x).1

/-- DBG_READ (R503, R506). -/
def execDbgRead (c : CmdCtx) (s : State) : Host.Outcome State Fault Refusal := .next (s.served c (s.dbgRead c))

def State.dbgWrite (s : State) (c : CmdCtx) : State :=
  match s.dbgAccess c true with
  | .inl st => s.reply c st
  | .inr x => (s.dbgStore (busSource c.src) x (c.payload.drop 16)).reply c 0

/-- DBG_WRITE (R503, R506). -/
def execDbgWrite (c : CmdCtx) (s : State) : Host.Outcome State Fault Refusal := .next (s.served c (s.dbgWrite c))

end Sys2Proof.Machine
end

