-- ==== Sys2Proof/Machine/Pmbus.lean ====
section
/-!
DEFINITION. The PMBus interface (R533).
-/
namespace Sys2Proof.Machine

/-- The interface acknowledges its address in M-RUN, M-TRIM and M-REST, once the hub has power. -/
def State.pmOn (s : State) : Bool := decide (s.pwState ≤ 2) && s.domOn 0

/-- Two free values have been used. -/
def State.used2 (s : State) : State := s.used.used

/-- The bytes that a PMBus read returns; without an acknowledge none. -/
def State.pmRead (s : State) (b : List Byte) : State := if s.pmOn then { s with reads := s.reads ++ [b] } else s

/-- A value of `num / den` units in LINEAR11: Y × 2^N with an 11-bit Y and a 5-bit N. The spec gives neither N nor the rounding:
N is a free value among those that hold the number, and so is the side it is rounded to. DESIGN CHOICE, log entry 33. -/
def linear11 (free : Nat → Nat) (num : Int) (den : Nat) : Nat :=
  let y := fun (n : Int) (r : Nat) =>
    let a := if 0 ≤ n then num else num * ((2 : Int) ^ (-n).toNat)
    let b := if 0 ≤ n then den * 2 ^ n.toNat else den
    a / (b : Int) + (if a % (b : Int) = 0 then 0 else (r : Int))
  let ok := ((List.range 32).map (fun (i : Nat) => (i : Int) - 16)).filter (fun n => decide (-1024 ≤ y n 0 ∧ y n 1 ≤ 1023))
  let n := ok.getD (free ok.length) 15
  enc 5 n * 2048 + enc 11 (y n (free 2))

/-- A sensor's value, in thousandths of the unit, as a LINEAR11 word. DESIGN CHOICE, log entry 33. -/
def State.pmValue (s : State) (v : Int) : List Byte :=
  leBytes 2 (linear11 (fun k => Config.freeValue (s.freeCtr + b2n (k == 2)) % k) v 1000)

def State.sensorValue (s : State) (n : Nat) : Int := (s.mg.sensors.getD n {}).value

/-- The hottest of sensors `a` to `b` that are valid. -/
def State.hottest (s : State) (a b : Nat) : Int :=
  match ((List.range (b + 1 - a)).map (fun i => s.mg.sensors.getD (a + i) {})).filter (fun x => x.valid) with
  | [] => (s.mg.sensors.getD a {}).value
  | x :: r => r.foldl (fun m y => max m y.value) x.value

/-- PAGE. -/
def execPage (feed : Fin 2) (s : State) : Host.Outcome State Fault Refusal :=
  .next (if s.pmOn then { s with pw := { s.pw with page := feed.val } } else s)

/-- CLEAR_FAULTS: SMBALERT_N is released until the next fault. -/
def execClearFaults (s : State) : Host.Outcome State Fault Refusal :=
  .next (if s.pmOn then { s with mg := { s.mg with smbAlert := false } } else s)

/-- STATUS_WORD: bit 3 a feed is out of range, bit 2 a temperature sensor carries flag [1], bit 11 POWER_FAIL. -/
def State.pmStatus (s : State) : Nat :=
  let temps := (List.range 5).map (8 + ·) ++ (List.range 4).map (0x10 + ·) ++ [0x18]
  4 * b2n (temps.any (fun n => (s.mg.sensors.getD n {}).outRec)) + 8 * b2n (s.fld Fld.POWER_FEED_FEEDS % 4 != 3) + 2048 * b2n s.pw.powerFail

def execStatusWord (s : State) : Host.Outcome State Fault Refusal := .next (s.pmRead (leBytes 2 s.pmStatus))

/-- READ_VIN, READ_IIN and READ_PIN. -/
def execReadVin (s : State) : Host.Outcome State Fault Refusal := .next (s.pmRead (s.pmValue (s.sensorValue s.pw.page))).used2
def execReadIin (s : State) : Host.Outcome State Fault Refusal := .next (s.pmRead (s.pmValue (s.sensorValue (2 + s.pw.page)))).used2
def execReadPin (s : State) : Host.Outcome State Fault Refusal := .next (s.pmRead (s.pmValue (s.sensorValue 4))).used2

/-- READ_TEMPERATURE_1 to _3. -/
def execReadTemperature (which : Fin 3) (s : State) : Host.Outcome State Fault Refusal :=
  .next (s.pmRead (s.pmValue (if which.val = 0 then s.hottest 8 0xC else if which.val = 1 then s.hottest 0x10 0x13 else s.sensorValue 0x18))).used2

/-- MFR_SERIAL. -/
def execMfrSerial (s : State) : Host.Outcome State Fault Refusal := .next (s.pmRead (leBytes 8 s.kp.serial))

end Sys2Proof.Machine
end

