-- ==== Sys2Proof/Machine/Dispatch.lean ====
section
/-!
DEFINITION. The dispatch of commands: one arm per constructor, each a call of that command's meaning.
-/
namespace Sys2Proof.Machine

/-- The meaning of every command, on everything but the queue of pending commands. -/
def exec (i : Instr) (s : State) : Host.Outcome State Fault Refusal :=
  match i with
  | .registerWrite w bar2 => Sys2Proof.Machine.execRegisterWrite w bar2 s
  | .bar4Read offset len => Sys2Proof.Machine.execBar4Read offset len s
  | .bar4Write offset data => Sys2Proof.Machine.execBar4Write offset data s
  | .grainTick missed => Sys2Proof.Machine.execGrainTick missed s
  | .sentinelFire sentinel outs => Sys2Proof.Machine.execSentinelFire sentinel outs s
  | .beatEndTrap => Sys2Proof.Machine.execBeatEndTrap s
  | .columnCloseOpen => Sys2Proof.Machine.execColumnCloseOpen s
  | .ledgerBeatCheck => Sys2Proof.Machine.execLedgerBeatCheck s
  | .shadowLatch => Sys2Proof.Machine.execShadowLatch s
  | .beatTick => Sys2Proof.Machine.execBeatTick s
  | .epochBoundary => Sys2Proof.Machine.execEpochBoundary s
  | .closeAll src => Sys2Proof.Machine.execCloseAll src s
  | .rennetOpen value src => Sys2Proof.Machine.execRennetOpen value src s
  | .rennetClrStats src => Sys2Proof.Machine.execRennetClrStats src s
  | .colselWrite value src => Sys2Proof.Machine.execColselWrite value src s
  | .columnSnapshot => Sys2Proof.Machine.execColumnSnapshot s
  | .slotOrder c => Sys2Proof.Machine.execSlotOrder c s
  | .orderCancel c => Sys2Proof.Machine.execOrderCancel c s
  | .imageLoad c => Sys2Proof.Machine.execImageLoad c s
  | .imageLoadComplete slot image => Sys2Proof.Machine.execImageLoadComplete slot image s
  | .imageBlock c => Sys2Proof.Machine.execImageBlock c s
  | .imageRetire c => Sys2Proof.Machine.execImageRetire c s
  | .imageQuery c => Sys2Proof.Machine.execImageQuery c s
  | .resultDelivery sentinel outs => Sys2Proof.Machine.execResultDelivery sentinel outs s
  | .inputClose sentinel port => Sys2Proof.Machine.execInputClose sentinel port s
  | .queueSettle => Sys2Proof.Machine.execQueueSettle s
  | .queueStart q src => Sys2Proof.Machine.execQueueStart q src s
  | .queueStop q src => Sys2Proof.Machine.execQueueStop q src s
  | .queueStopComplete q => Sys2Proof.Machine.execQueueStopComplete q s
  | .queueClrDrops q src => Sys2Proof.Machine.execQueueClrDrops q src s
  | .queueHeadWrite q value src => Sys2Proof.Machine.execQueueHeadWrite q value src s
  | .queueTailWrite q value src => Sys2Proof.Machine.execQueueTailWrite q value src s
  | .doorbellWrite w => Sys2Proof.Machine.execDoorbellWrite w s
  | .flowSetup c => Sys2Proof.Machine.execFlowSetup c s
  | .flowRelease c => Sys2Proof.Machine.execFlowRelease c s
  | .flowQuery c => Sys2Proof.Machine.execFlowQuery c s
  | .ledgerSelWrite value src => Sys2Proof.Machine.execLedgerSelWrite value src s
  | .heapRelease station => Sys2Proof.Machine.execHeapRelease station s
  | .dispatchSelect => Sys2Proof.Machine.execDispatchSelect s
  | .hubJobOverrun => Sys2Proof.Machine.execHubJobOverrun s
  | .completionProcess station => Sys2Proof.Machine.execCompletionProcess station s
  | .prestage die curd => Sys2Proof.Machine.execPrestage die curd s
  | .dispClrStats station src => Sys2Proof.Machine.execDispClrStats station src s
  | .bundleIssue core cycle err younger => Sys2Proof.Machine.execBundleIssue core cycle err younger s
  | .giveEnd core => Sys2Proof.Machine.execGiveEnd core s
  | .fenceComplete core => Sys2Proof.Machine.execFenceComplete core s
  | .storePerformed core => Sys2Proof.Machine.execStorePerformed core s
  | .cstRefused core => Sys2Proof.Machine.execCstRefused core s
  | .cmuOpComplete core rom => Sys2Proof.Machine.execCmuOpComplete core rom s
  | .budgetTrap exec => Sys2Proof.Machine.execBudgetTrap exec s
  | .curdStopEnd core => Sys2Proof.Machine.execCurdStopEnd core s
  | .coreClr core src => Sys2Proof.Machine.execCoreClr core src s
  | .gemm tile => Sys2Proof.Machine.execGemm tile s
  | .gram tile => Sys2Proof.Machine.execGram tile s
  | .solve tile => Sys2Proof.Machine.execSolve tile s
  | .demap tile => Sys2Proof.Machine.execDemap tile s
  | .bmuEnd tile => Sys2Proof.Machine.execBmuEnd tile s
  | .bmuClr tile src => Sys2Proof.Machine.execBmuClr tile src s
  | .codeBlockDone eng => Sys2Proof.Machine.execCodeBlockDone eng s
  | .engineJobEnd eng => Sys2Proof.Machine.execEngineJobEnd eng s
  | .engineFault unit => Sys2Proof.Machine.execEngineFault unit s
  | .engineSelfReset unit => Sys2Proof.Machine.execEngineSelfReset unit s
  | .engineFence die value src => Sys2Proof.Machine.execEngineFence die value src s
  | .engClr eng src => Sys2Proof.Machine.execEngClr eng src s
  | .egressFrameSend port => Sys2Proof.Machine.execEgressFrameSend port s
  | .egressJobEnd port => Sys2Proof.Machine.execEgressJobEnd port s
  | .hostFrameSend port host => Sys2Proof.Machine.execHostFrameSend port host s
  | .prachJobEnd engine => Sys2Proof.Machine.execPrachJobEnd engine s
  | .prachFence value src => Sys2Proof.Machine.execPrachFence value src s
  | .pxClr engine src => Sys2Proof.Machine.execPxClr engine src s
  | .spClrStats src => Sys2Proof.Machine.execSpClrStats src s
  | .senseBlock stream => Sys2Proof.Machine.execSenseBlock stream s
  | .lsigDecoded stream soft ltf => Sys2Proof.Machine.execLsigDecoded stream soft ltf s
  | .senseGap stream lo hi => Sys2Proof.Machine.execSenseGap stream lo hi s
  | .sensingSlotEnd stream k => Sys2Proof.Machine.execSensingSlotEnd stream k s
  | .lbtJobEnd => Sys2Proof.Machine.execLbtJobEnd s
  | .seLogHeadWrite value src => Sys2Proof.Machine.execSeLogHeadWrite value src s
  | .fhFrameReceive port f => Sys2Proof.Machine.execFhFrameReceive port f s
  | .fhSectionWritten port => Sys2Proof.Machine.execFhSectionWritten port s
  | .fhEnable port src => Sys2Proof.Machine.execFhEnable port src s
  | .fhDisable port src => Sys2Proof.Machine.execFhDisable port src s
  | .fhClrStats port src => Sys2Proof.Machine.execFhClrStats port src s
  | .fhLinkUp port => Sys2Proof.Machine.execFhLinkUp port s
  | .fhLinkDown port => Sys2Proof.Machine.execFhLinkDown port s
  | .seqFreshTimeout port stream => Sys2Proof.Machine.execSeqFreshTimeout port stream s
  | .fhSakWrite port an j value src => Sys2Proof.Machine.execFhSakWrite port an j value src s
  | .flEnable link src => Sys2Proof.Machine.execFlEnable link src s
  | .flDisable link src => Sys2Proof.Machine.execFlDisable link src s
  | .flClrStats link src => Sys2Proof.Machine.execFlClrStats link src s
  | .flRekey link src => Sys2Proof.Machine.execFlRekey link src s
  | .fabClrStats src => Sys2Proof.Machine.execFabClrStats src s
  | .linkTrained link margins lats => Sys2Proof.Machine.execLinkTrained link margins lats s
  | .hello link payload => Sys2Proof.Machine.execHello link payload s
  | .rekeyFrame link f => Sys2Proof.Machine.execRekeyFrame link f s
  | .beacon link f serial hops => Sys2Proof.Machine.execBeacon link f serial hops s
  | .beaconTick => Sys2Proof.Machine.execBeaconTick s
  | .topoReport => Sys2Proof.Machine.execTopoReport s
  | .topo link f rep => Sys2Proof.Machine.execTopo link f rep s
  | .routeCompute => Sys2Proof.Machine.execRouteCompute s
  | .routeLoad link f rows => Sys2Proof.Machine.execRouteLoad link f rows s
  | .routeCommit link f => Sys2Proof.Machine.execRouteCommit link f s
  | .fabData link f flow => Sys2Proof.Machine.execFabData link f flow s
  | .fabCmd link f => Sys2Proof.Machine.execFabCmd link f s
  | .fabReply link f ack => Sys2Proof.Machine.execFabReply link f ack s
  | .remoteRun link f => Sys2Proof.Machine.execRemoteRun link f s
  | .remoteAck link f => Sys2Proof.Machine.execRemoteAck link f s
  | .remoteSentinel sentinel => Sys2Proof.Machine.execRemoteSentinel sentinel s
  | .fabTime link f at4 => Sys2Proof.Machine.execFabTime link f at4 s
  | .timeFrameSend => Sys2Proof.Machine.execTimeFrameSend s
  | .frameForward link f => Sys2Proof.Machine.execFrameForward link f s
  | .ack link lseq => Sys2Proof.Machine.execAck link lseq s
  | .nak link lseq => Sys2Proof.Machine.execNak link lseq s
  | .ackSend link => Sys2Proof.Machine.execAckSend link s
  | .creditReturn link vl n => Sys2Proof.Machine.execCreditReturn link vl n s
  | .flLinkLost link => Sys2Proof.Machine.execFlLinkLost link s
  | .fabricJobEnd curd => Sys2Proof.Machine.execFabricJobEnd curd s
  | .leaseRequest c => Sys2Proof.Machine.execLeaseRequest c s
  | .leaseGrant c hops slot => Sys2Proof.Machine.execLeaseGrant c hops slot s
  | .leaseQuery c => Sys2Proof.Machine.execLeaseQuery c s
  | .fabQuery c => Sys2Proof.Machine.execFabQuery c s
  | .moveIn c => Sys2Proof.Machine.execMoveIn c s
  | .moveOut c matched => Sys2Proof.Machine.execMoveOut c matched s
  | .moveCopy => Sys2Proof.Machine.execMoveCopy s
  | .ttRequest c => Sys2Proof.Machine.execTtRequest c s
  | .routeQuery c => Sys2Proof.Machine.execRouteQuery c s
  | .laneAlignLoss lane => Sys2Proof.Machine.execLaneAlignLoss lane s
  | .laneAligned lane => Sys2Proof.Machine.execLaneAligned lane s
  | .lanePowerExitDone lane => Sys2Proof.Machine.execLanePowerExitDone lane s
  | .marginTestStart lane value src => Sys2Proof.Machine.execMarginTestStart lane value src s
  | .marginTestDone lane errors => Sys2Proof.Machine.execMarginTestDone lane errors s
  | .laneClrStats lane src => Sys2Proof.Machine.execLaneClrStats lane src s
  | .dmaGrain => Sys2Proof.Machine.execDmaGrain s
  | .dmaArm chan set src => Sys2Proof.Machine.execDmaArm chan set src s
  | .dmaAbort chan src => Sys2Proof.Machine.execDmaAbort chan src s
  | .dmaResume chan src => Sys2Proof.Machine.execDmaResume chan src s
  | .dmaClrStats chan src => Sys2Proof.Machine.execDmaClrStats chan src s
  | .dmaTransferComplete unit host => Sys2Proof.Machine.execDmaTransferComplete unit host s
  | .dmaTransferHalt unit done hostErr host => Sys2Proof.Machine.execDmaTransferHalt unit done hostErr host s
  | .dmaAbortComplete chan done host => Sys2Proof.Machine.execDmaAbortComplete chan done host s
  | .tileDmaGo core chan => Sys2Proof.Machine.execTileDmaGo core chan s
  | .regionCommandGo core => Sys2Proof.Machine.execRegionCommandGo core s
  | .regionCommandEnd tile => Sys2Proof.Machine.execRegionCommandEnd tile s
  | .drainComplete domain => Sys2Proof.Machine.execDrainComplete domain s
  | .drainTimeout domain => Sys2Proof.Machine.execDrainTimeout domain s
  | .gridEnable src => Sys2Proof.Machine.execGridEnable src s
  | .gridDisable src => Sys2Proof.Machine.execGridDisable src s
  | .gridStart => Sys2Proof.Machine.execGridStart s
  | .timeStep src => Sys2Proof.Machine.execTimeStep src s
  | .timeClrStats src => Sys2Proof.Machine.execTimeClrStats src s
  | .timeNsLoRead offset len => Sys2Proof.Machine.execTimeNsLoRead offset len s
  | .refclkLoss => Sys2Proof.Machine.execRefclkLoss s
  | .refclkRestored => Sys2Proof.Machine.execRefclkRestored s
  | .sourceQualified src => Sys2Proof.Machine.execSourceQualified src s
  | .sourceLost src => Sys2Proof.Machine.execSourceLost src s
  | .sourceSelect => Sys2Proof.Machine.execSourceSelect s
  | .servoUpdate es => Sys2Proof.Machine.execServoUpdate es s
  | .holdoverOut => Sys2Proof.Machine.execHoldoverOut s
  | .dacSample dac sync => Sys2Proof.Machine.execDacSample dac sync s
  | .dacQueueWrite dac value src => Sys2Proof.Machine.execDacQueueWrite dac value src s
  | .dacHoSet dac value src => Sys2Proof.Machine.execDacHoSet dac value src s
  | .dacRestart dac gone src => Sys2Proof.Machine.execDacRestart dac gone src s
  | .dacClrStats dac src => Sys2Proof.Machine.execDacClrStats dac src s
  | .dacFault dac => Sys2Proof.Machine.execDacFault dac s
  | .holdoverCodeWrite => Sys2Proof.Machine.execHoldoverCodeWrite s
  | .ptpMessageRx port ns frac msg => Sys2Proof.Machine.execPtpMessageRx port ns frac msg s
  | .ptpMessageTx port kind => Sys2Proof.Machine.execPtpMessageTx port kind s
  | .esmcPduTx port change => Sys2Proof.Machine.execEsmcPduTx port change s
  | .esmcPduRx port pdu => Sys2Proof.Machine.execEsmcPduRx port pdu s
  | .ppsEdge rise => Sys2Proof.Machine.execPpsEdge rise s
  | .todSentence fast text => Sys2Proof.Machine.execTodSentence fast text s
  | .tpoEdge gen => Sys2Proof.Machine.execTpoEdge gen s
  | .trigEdge input rise short => Sys2Proof.Machine.execTrigEdge input rise short s
  | .trigPop input src => Sys2Proof.Machine.execTrigPop input src s
  | .cmdFetch ring => Sys2Proof.Machine.execCmdFetch ring s
  | .mgmtDatagram d => Sys2Proof.Machine.execMgmtDatagram d s
  | .arpRequest senderMac senderIp targetIp => Sys2Proof.Machine.execArpRequest senderMac senderIp targetIp s
  | .icmpEcho srcMac srcIp dstIp body => Sys2Proof.Machine.execIcmpEcho srcMac srcIp dstIp body s
  | .streamWrite bytes => Sys2Proof.Machine.execStreamWrite bytes s
  | .statusRead => Sys2Proof.Machine.execStatusRead s
  | .loadSkip => Sys2Proof.Machine.execLoadSkip s
  | .packetWrite packet => Sys2Proof.Machine.execPacketWrite packet s
  | .replyRead => Sys2Proof.Machine.execReplyRead s
  | .nop c => Sys2Proof.Machine.execNop c s
  | .moduleInfo c => Sys2Proof.Machine.execModuleInfo c s
  | .regRead c => Sys2Proof.Machine.execRegRead c s
  | .regWrite c => Sys2Proof.Machine.execRegWrite c s
  | .regStage c => Sys2Proof.Machine.execRegStage c s
  | .stageBatchApply => Sys2Proof.Machine.execStageBatchApply s
  | .fwWrite c => Sys2Proof.Machine.execFwWrite c s
  | .fwVerify c => Sys2Proof.Machine.execFwVerify c s
  | .fwActivate c => Sys2Proof.Machine.execFwActivate c s
  | .firmwareSwitch => Sys2Proof.Machine.execFirmwareSwitch s
  | .fwCommit c => Sys2Proof.Machine.execFwCommit c s
  | .fwRollback => Sys2Proof.Machine.execFwRollback s
  | .stewardRestart c => Sys2Proof.Machine.execStewardRestart c s
  | .stewardFailover heartbeat selfOk => Sys2Proof.Machine.execStewardFailover heartbeat selfOk s
  | .stewardRestartDone ok => Sys2Proof.Machine.execStewardRestartDone ok s
  | .powerState c => Sys2Proof.Machine.execPowerState c s
  | .clockStep c => Sys2Proof.Machine.execClockStep c s
  | .padRelease c => Sys2Proof.Machine.execPadRelease c s
  | .powerQuery c => Sys2Proof.Machine.execPowerQuery c s
  | .lrLoad c host => Sys2Proof.Machine.execLrLoad c host s
  | .lrQuery c => Sys2Proof.Machine.execLrQuery c s
  | .telemetryRead c => Sys2Proof.Machine.execTelemetryRead c s
  | .telemetrySample samples => Sys2Proof.Machine.execTelemetrySample samples s
  | .eventSubscribe c => Sys2Proof.Machine.execEventSubscribe c s
  | .eventRead c => Sys2Proof.Machine.execEventRead c s
  | .cmdPairEnable pair src => Sys2Proof.Machine.execCmdPairEnable pair src s
  | .cmdPairDisable pair src => Sys2Proof.Machine.execCmdPairDisable pair src s
  | .credInstall c => Sys2Proof.Machine.execCredInstall c s
  | .mgmtKeyInstall c => Sys2Proof.Machine.execMgmtKeyInstall c s
  | .lifecycleSet c => Sys2Proof.Machine.execLifecycleSet c s
  | .fuseWriteDone => Sys2Proof.Machine.execFuseWriteDone s
  | .returnedWipe => Sys2Proof.Machine.execReturnedWipe s
  | .keeperQuery c => Sys2Proof.Machine.execKeeperQuery c s
  | .signatureCheckDone => Sys2Proof.Machine.execSignatureCheckDone s
  | .dbgChallenge c => Sys2Proof.Machine.execDbgChallenge c s
  | .dbgOpen c => Sys2Proof.Machine.execDbgOpen c s
  | .debugFillDone tile => Sys2Proof.Machine.execDebugFillDone tile s
  | .dbgClose c => Sys2Proof.Machine.execDbgClose c s
  | .dbgQuery c => Sys2Proof.Machine.execDbgQuery c s
  | .dbgRead c => Sys2Proof.Machine.execDbgRead c s
  | .dbgWrite c => Sys2Proof.Machine.execDbgWrite c s
  | .jtagInstruction code => Sys2Proof.Machine.execJtagInstruction code s
  | .uartInput input => Sys2Proof.Machine.execUartInput input s
  | .bitstreamVerified => Sys2Proof.Machine.execBitstreamVerified s
  | .regionLockDone pos => Sys2Proof.Machine.execRegionLockDone pos s
  | .lrLockTimeout pos => Sys2Proof.Machine.execLrLockTimeout pos s
  | .streamTruncated => Sys2Proof.Machine.execStreamTruncated s
  | .retryWindowClose limit => Sys2Proof.Machine.execRetryWindowClose limit s
  | .lrScrubFrame votes upset regionBad => Sys2Proof.Machine.execLrScrubFrame votes upset regionBad s
  | .lrClr pos src => Sys2Proof.Machine.execLrClr pos src s
  | .mergeDrain mem word => Sys2Proof.Machine.execMergeDrain mem word s
  | .scrubWalk fit found => Sys2Proof.Machine.execScrubWalk fit found s
  | .zeroFill blocks => Sys2Proof.Machine.execZeroFill blocks s
  | .errorHandlingDone domain => Sys2Proof.Machine.execErrorHandlingDone domain s
  | .memoryFillDone fail => Sys2Proof.Machine.execMemoryFillDone fail s
  | .eccFlipArm value src => Sys2Proof.Machine.execEccFlipArm value src s
  | .eccClrStats src => Sys2Proof.Machine.execEccClrStats src s
  | .feedLost feed mv => Sys2Proof.Machine.execFeedLost feed mv s
  | .feedRestored feed mv => Sys2Proof.Machine.execFeedRestored feed mv s
  | .powerFail mvA mvB => Sys2Proof.Machine.execPowerFail mvA mvB s
  | .supplyCollapse mv => Sys2Proof.Machine.execSupplyCollapse mv s
  | .entryDrainStart => Sys2Proof.Machine.execEntryDrainStart s
  | .powerRemove => Sys2Proof.Machine.execPowerRemove s
  | .powerExitDone => Sys2Proof.Machine.execPowerExitDone s
  | .powerWake value src => Sys2Proof.Machine.execPowerWake value src s
  | .powerClrStats src => Sys2Proof.Machine.execPowerClrStats src s
  | .thermalTrip die temp => Sys2Proof.Machine.execThermalTrip die temp s
  | .hubThermalTrip temp => Sys2Proof.Machine.execHubThermalTrip temp s
  | .dieIsolation die cause => Sys2Proof.Machine.execDieIsolation die cause s
  | .powerOn mvA mvB => Sys2Proof.Machine.execPowerOn mvA mvB s
  | .perstRelease => Sys2Proof.Machine.execPerstRelease s
  | .perstAssert => Sys2Proof.Machine.execPerstAssert s
  | .railSequence fail => Sys2Proof.Machine.execRailSequence fail s
  | .railRetry => Sys2Proof.Machine.execRailRetry s
  | .bootSelftest rom keeper => Sys2Proof.Machine.execBootSelftest rom keeper s
  | .stewardBankStart => Sys2Proof.Machine.execStewardBankStart s
  | .dieRelease fails => Sys2Proof.Machine.execDieRelease fails s
  | .timeGo src => Sys2Proof.Machine.execTimeGo src s
  | .timeWaitExpired => Sys2Proof.Machine.execTimeWaitExpired s
  | .readmit dies src => Sys2Proof.Machine.execReadmit dies src s
  | .readmitDone die ok => Sys2Proof.Machine.execReadmitDone die ok s
  | .moduleResetRequest src => Sys2Proof.Machine.execModuleResetRequest src s
  | .moduleReset => Sys2Proof.Machine.execModuleReset s
  | .flr func => Sys2Proof.Machine.execFlr func s
  | .flrComplete func => Sys2Proof.Machine.execFlrComplete func s
  | .pcieHotReset => Sys2Proof.Machine.execPcieHotReset s
  | .page feed => Sys2Proof.Machine.execPage feed s
  | .clearFaults => Sys2Proof.Machine.execClearFaults s
  | .statusWord => Sys2Proof.Machine.execStatusWord s
  | .readVin => Sys2Proof.Machine.execReadVin s
  | .readIin => Sys2Proof.Machine.execReadIin s
  | .readPin => Sys2Proof.Machine.execReadPin s
  | .readTemperature which => Sys2Proof.Machine.execReadTemperature which s
  | .mfrSerial => Sys2Proof.Machine.execMfrSerial s
  | .cdrLockLoss lane => Sys2Proof.Machine.execCdrLockLoss lane s
  | .pcieMarginingCommand lane => Sys2Proof.Machine.execPcieMarginingCommand lane s
  | .goldenFillDone => Sys2Proof.Machine.execGoldenFillDone s
  | .hbmSelfRefreshEntry stack => Sys2Proof.Machine.execHbmSelfRefreshEntry stack s

end Sys2Proof.Machine
end

