-- ==== Sys2Proof/Machine/Step.lean ====
section
/-!
DEFINITION. One step of the block: the command at the front of the queue, or, with nothing waiting, one edge of the time
clock (log entry 2).
-/
namespace Sys2Proof.Machine

/-- What the block does with nothing commanded: TIME_NS advances by one edge (R379), but not past a grain tick that is due while
the grid runs, which GRAIN_TICK brings; in M-OFF the time clock stands. DESIGN CHOICE, log entry 2. -/
def State.idle (s : State) : State :=
  if s.fld Fld.POWER_STAT_STATE = 4 ∨ (s.gridRun ∧ s.grainPair (s.tm.absGrain + 1) ≤ s.edge.timePair) then s else s.edge

/-- One step. -/
def step (s : State) : Host.Outcome State Fault Refusal :=
  match s.pending with
  | [] => .next s.idle
  | i :: r => exec i { s with pending := r }

/-- The state with the command that a word spells at the front of its queue; the table spells no command in bits. DESIGN CHOICE, log entry 1. -/
def State.withFetchWord (s : State) (nbits w : Nat) : State :=
  match Sys2Proof.decodeTableWord nbits w with
  | some i => { s with pending := i :: s.pending }
  | none => s

end Sys2Proof.Machine
end

