-- ==== Sys2Proof/Safety.lean ====
section
/-!
DEFINITION. The terms in which claims about the block are stated: what a safe step is, the canonical form of its memories, when a
register write reaches its block, and what a command leaves unchanged.
-/
namespace Sys2Proof.Machine

/-- A step that neither faults nor is refused. -/
def SafeStep (s : State) : Prop := ∃ t, step s = .next t

/-- The memories of the module, the Cave, VM and TSM, in canonical form. -/
def Memory.wf (s : State) : Bool :=
  Sparse.wf (fun _ => (0 : Byte)) s.cave && Sparse.wf (fun _ => (0 : Byte)) s.vm && Sparse.wf (fun _ => (0 : Byte)) s.tsm

/-- `t`'s memories are in canonical form when `s`'s are. -/
def Keeps (s t : State) : Prop := Memory.wf s = true → Memory.wf t = true

/-- A register write from `src` reaches its block: not from a VF (R537), and, but for the steward, in M-RUN, M-TRIM or M-REST of a
module that no start-up stop holds (R485, R512). -/
def Reach (s : State) (src : Source) : Prop :=
  (∀ n, src ≠ .vf n) ∧ (src = .steward ∨ (s.fld Fld.POWER_STAT_STATE ≤ 2 ∧ s.bt.stopped = false))

/-- Only registers differ: memories, queues, tables, outputs and everything else are as before. -/
def RegsOnly (s t : State) : Prop := t = { s with regs := t.regs }

/-- Every register outside a list reads as before. -/
def SameRegs (l : List (RegId × Nat)) (s t : State) : Prop := ∀ r i, (r, i) ∉ l → t.reg r i = s.reg r i

/-- Every byte of the Cave, of VM and of TSM outside the flow table, images and descriptors reads as before. -/
def SameMemory (s t : State) : Prop := t.cave = s.cave ∧ t.vm = s.vm ∧ t.tsm = s.tsm

/-- Every code word is intact, no merge buffer is in use and no injection is armed (R459, R461, R476). -/
def Intact (s : State) : Prop := s.bad = [] ∧ s.merges = [] ∧ s.fld Fld.ECC_FLIP_CFG_ARM = 0

/-- The answer to command `c`, with status word `sw` and bytes `rest` (R409), is what `t` has sent beyond `s`: one packet, with a
trailer behind it on the management port; on a ring pair it waits for the settlement of REPLY_Q (R97). -/
def Replied (s t : State) (c : CmdCtx) (sw : Nat) (rest : List Byte) : Prop :=
  (∃ tr, t.replies = s.replies ++ [⟨c.src, replyPacket c sw rest ++ tr⟩])
  ∧ ∀ p, c.src = .pair p → ∃ e, .put e ∈ t.qEnqs ∧ e.desc = replyPacket c sw rest ∧ e.producer = .held

/-- The steward takes command `c` now: it runs, and the command's turn has come (R422, R428). -/
def TakesNow (s : State) (c : CmdCtx) : Prop := s.fld Fld.STEWARD_STAT_STATE = 1 ∧ s.stewardTurn c = true

/-- `t` is `s` after answers and events: apart from what these touch (the enqueues that wait, the subscribers, the list of commands
that wait) nothing differs. -/
def Spoke (s t : State) : Prop :=
  t = { s with
    regs := t.regs, mg := t.mg, qEnqs := t.qEnqs, replies := t.replies
    fab := { s.fab with outbox := t.fab.outbox } }
  ∧ t.mg = { s.mg with
      fetched := t.mg.fetched, journal := t.mg.journal, ssp := t.mg.ssp, ownCounter := t.mg.ownCounter, held := t.mg.held
      seq := t.mg.seq, log := t.mg.log, subs := t.mg.subs, smbAlert := t.mg.smbAlert }
  ∧ ∀ r i, r ≠ .MGMT_CNT_EVLOST → t.reg r i = s.reg r i

/-- The event of `t` beyond `s`: it is numbered and stands in the log. -/
def Logged (s t : State) (code sev unit arg0 arg1 : Nat) : Prop :=
  ∃ e ∈ t.mg.log, e.seq = s.mg.seq ∧ e.stamp = s.stamp ∧ e.ns = s.tm.ns ∧ e.code = code ∧ e.sev = sev ∧ e.unit = unit
    ∧ e.arg0 = arg0 ∧ e.arg1 = arg1

/-- Frame `f`, which arrives on link `l`, is the next one and passes every check of the link: the link is UP, its credits cover the
frame, number, key phase, tag and header agree, and the policer of VL1 lets it pass (R306, R307, R310, Table 12.11). -/
def Accepts (s : State) (l : Nat) (f : FabFrame) : Prop :=
  let h := fabHdr f.bytes
  let x := (s.ackFull l).fl l
  s.flState l = 4 ∧ frameCost h.len ≤ natAt x.rxFree h.vl ∧ x.rxFree.length = 4 ∧ x.rxHeld.length = 4 ∧ h.lseq = x.rxSeq
    ∧ x.openKey h = some f.sealedBy ∧ hdrOk f.bytes = true
    ∧ (h.vl = 1 → s.fld Fld.FL_POLICE_VL1_RATE l = 0 ∨ 2 * (x.vl1 + 48 + h.len) ≤ s.fld Fld.FL_POLICE_VL1_RATE l * 3125)

/-- An accepted frame of a routed kind that is for this module, in a live generation (R316, R319). -/
def ForUs (s : State) (l kind : Nat) (f : FabFrame) : Prop :=
  Accepts s l f ∧ (fabHdr f.bytes).kind = kind ∧ s.modNum = some (fabHdr f.bytes).dst ∧ s.genLive (fabHdr f.bytes).gen = true

/-- What accepting frame `f` on link `l` leaves of `s`: the counters of the link, and nothing else. -/
def Taken (s : State) (l : Nat) (f : FabFrame) : State := (s.linkRx l f).2

/-- A frame of kind `kind` with payload `p` waits on link `l`, or has left it beyond what `s` had sent. -/
def OnLink (s t : State) (l kind : Nat) (p : List Byte) : Prop :=
  (∃ x ∈ (t.fl l).txQ, x.kind = kind ∧ x.payload = p)
    ∨ ∃ y ∈ t.wire.drop s.wire.length, y.port = 16 + l ∧ u8 y.bytes 0 = kind ∧ y.bytes.drop 32 = p

end Sys2Proof.Machine
end

