-- ==== Sys2Proof/Certificates/Slice0/Obligations.lean ====
section
/-!
DEFINITION. What is claimed of the block, for the provers. Where a clause rests on a choice of the model, its docstring or the
statement in OBLIGATIONS.json names the log entry.
-/

open Sys2Proof Sys2Proof.Machine

/-- A step takes the command at the front of the queue, and every command completes. -/
def Obligations.StepTakesFrontCommand : Prop :=
  (∀ (c : Instr) (r : List Instr) (s : State), step { s with pending := c :: r } = exec c { s with pending := r })
  ∧ (∀ s : State, s.pending = [] → step s = .next s.idle)
  ∧ ∀ (c : Instr) (s : State), ∃ t, exec c s = .next t

/-- What the registers hold after reset. -/
def Obligations.ResetValues : Prop :=
  State.reset.pending = [] ∧ Memory.wf State.reset = true ∧ State.reset.cave = [] ∧ State.reset.fld Fld.GLOBAL_ID_PART = 0x5120
  ∧ State.reset.reg .TIME_INCR_NS = 1 ∧ State.reset.reg .TIME_INCR_FRAC = 0 ∧ State.reset.fld Fld.TIME_STAT_SRC = 0x1F
  ∧ State.reset.fld Fld.RENNET_MARGIN_MARGIN = 4 ∧ State.reset.fld Fld.RENNET_CTRL_OPEN = 0
  ∧ State.reset.fld Fld.Q_CFG_OWNER 300 = 0xFF ∧ State.reset.fld Fld.MGMT_CFG_UDP = 0x5544 ∧ State.reset.fld Fld.FAB_TTL_TTL = 16
  ∧ State.reset.fld Fld.POWER_STAT_STATE = 0

/-- GLOBAL_WERR records a discarded write. -/
def Obligations.DiscardedWriteIsRecorded : Prop :=
  ∀ (s : State) (off : Nat) (src : Source) (bar : Nat), bar < 2 →
    (let t := s.werr off src bar
     t.fld Fld.GLOBAL_WERR_VALID = 1 ∧ t.fld Fld.GLOBAL_WERR_MORE = s.fld Fld.GLOBAL_WERR_VALID
     ∧ t.fld Fld.GLOBAL_WERR_OFFSET = off % 2 ^ 26 ∧ t.fld Fld.GLOBAL_WERR_SOURCE = srcCode src ∧ t.fld Fld.GLOBAL_WERR_BAR = bar
     ∧ t.reg .GLOBAL_WERR_CNT = (s.reg .GLOBAL_WERR_CNT + 1) % 2 ^ 32
     ∧ RegsOnly s t ∧ SameRegs [(.GLOBAL_WERR, 0), (.GLOBAL_WERR_CNT, 0)] s t)

/-- A register write completes, and acts by the access class of the field. -/
def Obligations.RegisterWriteByClass : Prop :=
  (∀ (s : State) (src : Source) (off v : Nat), Reach s src → v < 2 ^ 32 → off % 4 = 0 →
    (∀ r i, s.proxyAt off = none → regAt off = some (r, i) → s.writeRefused r i v src = false →
      exec (.registerWrite ⟨off, 4, v, src⟩ false) s = .next (s.wordWrite r i v src))
    ∧ (∀ r i, s.proxyAt off = none → regAt off = some (r, i) → s.writeRefused r i v src = true →
      exec (.registerWrite ⟨off, 4, v, src⟩ false) s = .next (s.werr off src))
    ∧ (s.proxyAt off = none → regAt off = none → exec (.registerWrite ⟨off, 4, v, src⟩ false) s = .next (s.werr off src))
    ∧ ∀ p, s.proxyAt off = some p → exec (.registerWrite ⟨off, 4, v, src⟩ false) s = .next ((s.werr off src).bump p.1 p.2))
  ∧ (∀ (s : State) (src : Source) (off n v : Nat), Reach s src → (n ≠ 4 ∧ n ≠ 8 ∨ off % n ≠ 0) →
    exec (.registerWrite ⟨off, n, v, src⟩ false) s = .next (s.werr off src))
  ∧ (∀ (s : State) (src : Source) (off v : Nat), off % 8 = 0 → ∃ t, exec (.registerWrite ⟨off, 4, v % 2 ^ 32, src⟩ false) s = .next t
    ∧ exec (.registerWrite ⟨off, 8, v, src⟩ false) s = exec (.registerWrite ⟨off + 4, 4, v / 2 ^ 32, src⟩ false) t)
  ∧ (∀ (s : State) (w : BusWrite), exec (.registerWrite w true) s = exec (.doorbellWrite w) s)
  ∧ ∀ (s : State) (src : Source) (off v i : Nat) (r : RegId), Reach s src → v < 2 ^ 32 → off % 4 = 0 → s.proxyAt off = none →
    regAt off = some (r, i) → s.writeRefused r i v src = false → s.wordWrite r i v src = s.storeWord r i v src →
    ∃ t, exec (.registerWrite ⟨off, 4, v, src⟩ false) s = .next t
      ∧ (∀ f ∈ r.desc.fields,
        (f.acc = .rw ∨ (f.acc = .rwl ∧ s.blockRuns r i = false) → bits (t.reg r i) f.hi f.lo = bits v f.hi f.lo)
        ∧ (f.acc = .ro ∨ f.acc = .rws ∨ f.acc = .rwe ∨ (f.acc = .rwl ∧ s.blockRuns r i = true) →
          bits (t.reg r i) f.hi f.lo = bits (s.reg r i) f.hi f.lo))
      ∧ (r.has .rws = true → s.grain ≠ 1023 → Sparse.get none t.rwsNew (r.key i) = some v)
      ∧ SameRegs [(r, i), (.GLOBAL_WERR, 0), (.GLOBAL_WERR_CNT, 0)] s t
      ∧ (r.has .rwl = false ∨ s.blockRuns r i = false → SameRegs [(r, i)] s t)
      ∧ t = { s with regs := t.regs, rwsNew := t.rwsNew, rwsLate := t.rwsLate, rweNew := t.rweNew, rweLate := t.rweLate }

/-- Clearing commands clear exactly their counters (rennet, dispatch, cores, engines, DMA, DACs, regions). -/
def Obligations.ClearingCommandsA : Prop :=
  ∀ (s : State) (src : Source), Reach s src →
    (let clears := fun (i : Instr) (l : List RegId) (n : Nat) => ∃ t, exec i s = .next t ∧ RegsOnly s t
        ∧ ∀ r j, t.reg r j = if r ∈ l ∧ j = n then 0 else s.reg r j
     clears (.rennetClrStats src)
        [.RENNET_ACCEPTS, .RENNET_REJ_CAP, .RENNET_REJ_WIN, .RENNET_REJ_GRAPH, .RENNET_REJ_LEASE, .RENNET_DEC_MAX] 0
     ∧ (∀ n : Fin 5, ∃ t, exec (.dispClrStats n src) s = .next t ∧ RegsOnly s t ∧ t.reg .DISP_STORE_MAX n.val = s.storeUsed n.val
        ∧ ∀ r j, (r, j) ≠ (.DISP_STORE_MAX, n.val) → t.reg r j = if r ∈ [RegId.DISP_TRACE_DROPS, .DISP_UNSTARTED, .DISP_RELEASE_FLT,
          .DISP_STRAY, .DISP_STAGED, .DISP_STAGE_UNUSED] ∧ j = n.val then 0 else s.reg r j)
     ∧ (∀ n : Fin 256, s.dieStat (n.val / 64) = 1 → clears (.coreClr n src)
        [.CORE_CNT_EXC, .CORE_CNT_COLL, .CORE_CNT_LATE, .CORE_CNT_ROMCE, .CORE_CNT_SQUASH, .CORE_CNT_CURDS] n.val)
     ∧ (∀ n : Fin 64, s.dieStat (n.val / 16) = 1 → clears (.bmuClr n src)
        [.BMU_CNT_JOBS, .BMU_CNT_SAT, .BMU_CNT_NOTPD, .BMU_CNT_EXC] n.val)
     ∧ (∀ n : Fin 64, s.dieStat (n.val / 16) = 1 → clears (.engClr n src)
        [.ENG_CNT_JOBS, .ENG_CNT_CB, .ENG_CNT_ITER, .ENG_CNT_CBFAIL, .ENG_CNT_EXC, .ENG_CNT_FAULT, .ENG_CNT_MISMATCH, .ENG_CNT_CLIP] n.val)
     ∧ (∀ n : Fin 4, clears (.pxClr n src) [.PX_CNT_JOBS, .PX_CNT_DET, .PX_CNT_EXC] n.val)
     ∧ (∀ n : Fin 64, clears (.dmaClrStats n src) [.DMA_CH_CNT_XFER, .DMA_CH_CNT_HALT, .DMA_CH_CNT_JOBGR] n.val)
     ∧ (∀ n : Fin 2, clears (.dacClrStats n src) [.DAC_CNT_OVF, .DAC_CNT_UNDER, .DAC_CNT_HO_WR] n.val)
     ∧ (∀ n : Fin 5, clears (.lrClr n src) [.LR_CNT_REPAIR, .LR_CNT_GFIX, .LR_CNT_CMD] n.val)
     ∧ (∀ n : Fin 145, clears (.laneClrStats n src) [.LN_CNT_ERR, .LN_CNT_PRBS, .LN_CNT_ALIGN_LOSS] n.val))

/-- Clearing commands clear exactly their counters (fronthaul, fabric, time, ECC, power, sensing). -/
def Obligations.ClearingCommandsB : Prop :=
  ∀ (s : State) (src : Source), Reach s src →
    (∀ n : Fin 16, ∃ t, exec (.fhClrStats n src) s = .next t ∧ RegsOnly s t ∧ t.fld Fld.FH_STAT_DIS_REFUSED n.val = 0
      ∧ t.fld Fld.FH_STAT_STATE n.val = s.fld Fld.FH_STAT_STATE n.val
      ∧ (∀ r ∈ [RegId.FH_WHEY_NOBUF, .FH_WHEY_MAC, .FH_WHEY_SEC, .FH_WHEY_DMAC, .FH_WHEY_SMAC, .FH_WHEY_VLAN, .FH_WHEY_ETYPE,
          .FH_WHEY_POLICE, .FH_WHEY_ECPRI, .FH_WHEY_EAXC, .FH_WHEY_SEQ, .FH_WHEY_HDR, .FH_WHEY_EARLY, .FH_WHEY_LATE,
          .FH_WHEY_NOORDER, .FH_WHEY_CLOSED, .FH_WHEY_SECTION, .FH_WHEY_INQ, .FH_SEQ_GAP, .FH_RX_FRAMES, .FH_TX_FRAMES,
          .FH_TX_MISSED, .FH_TX_HOST], t.reg r n.val = 0)
      ∧ (∀ r j, (j ≠ n.val ∨ r = .FH_CTRL ∨ r = .FH_CFG ∨ r = .FH_GRAN ∨ r = .FH_C_CFG) → t.reg r j = s.reg r j))
    ∧ (∀ n : Fin 12, ∃ t, exec (.flClrStats n src) s = .next t ∧ RegsOnly s t ∧ t.fld Fld.FL_STAT_DIS_REFUSED n.val = 0
      ∧ t.fld Fld.FL_STAT_STATE n.val = s.fld Fld.FL_STAT_STATE n.val
      ∧ (∀ r ∈ [RegId.FL_CNT_TX, .FL_CNT_RX, .FL_CNT_RESEND, .FL_CNT_AUTH, .FL_CNT_CREDIT_OVR, .FL_CNT_HELLO_REJ, .FL_CNT_POLICE],
          t.reg r n.val = 0)
      ∧ (∀ r j, (j ≠ n.val ∨ r = .FL_CTRL ∨ r = .FL_PEER ∨ r = .FL_POLICE) → t.reg r j = s.reg r j))
    ∧ (∃ t, exec (.fabClrStats src) s = .next t ∧ RegsOnly s t ∧ ∀ r j, t.reg r j =
        if r ∈ [RegId.FAB_CNT_EXPIRED, .FAB_CNT_TTL, .FAB_CNT_NOROUTE, .FAB_CNT_DOWN, .FAB_CNT_NOINPUT, .FAB_CNT_CLOSED, .FAB_CNT_BADHDR,
          .FAB_CNT_UNSCHED, .FAB_CNT_MOVE_DISC] ∧ j = 0 then 0 else s.reg r j)
    ∧ (∃ t, exec (.timeClrStats src) s = .next t ∧ RegsOnly s t ∧ ∀ r j, t.reg r j =
        if (r ∈ [RegId.TIME_CNT_SWITCH, .TIME_CNT_HOLDOVER, .TIME_CNT_LOSS] ∧ j = 0) ∨ (r = .TRIG_CNT_OVF ∧ j < 4) then 0 else s.reg r j)
    ∧ (∃ t, exec (.eccClrStats src) s = .next t ∧ RegsOnly s t ∧ ∀ r j, t.reg r j =
        if (r ∈ [RegId.ECC_SCRUB_DEFER, .ECC_SCRUB_PASS] ∧ j = 0)
          ∨ (r ∈ [RegId.ECC_D_CNT_CE, .ECC_D_CNT_UE, .ECC_D_CNT_POISON, .ECC_D_CNT_LOST, .ECC_D_CNT_ESC] ∧ j < 5) then 0 else s.reg r j)
    ∧ (∃ t, exec (.powerClrStats src) s = .next t ∧ RegsOnly s t ∧ ∀ r j, t.reg r j = if r = .POWER_CNT ∧ j < 36 then 0 else s.reg r j)
    ∧ (∃ t, exec (.spClrStats src) s = .next t ∧ RegsOnly s t ∧ t.reg .SE_LOG_DROPS = 0 ∧ t.reg .SE_J_JOBS = 0 ∧ t.reg .SE_J_GRANTS = 0
      ∧ (∀ n, n < 32 → t.reg .SE_S_GAPS n = 0 ∧ t.reg .SE_S_STARTS n = 0 ∧ t.reg .SE_G_HELD n = 0)
      ∧ (∀ n, n < 4 → t.reg .PX_CNT_JOBS n = 0) ∧ ∀ j, t.reg .SE_LOG_TAIL j = s.reg .SE_LOG_TAIL j ∧ t.reg .SE_S_CFG j = s.reg .SE_S_CFG j)
    ∧ ∀ q : Fin 4096, systemQueue q.val src = false → ∃ t, exec (.queueClrDrops q src) s = .next t ∧ RegsOnly s t
      ∧ t.reg .Q_DROPS q.val = 0 ∧ SameRegs [(.Q_DROPS, q.val)] s t

/-- Starting, stopping and indexing queues. -/
def Obligations.QueueControl : Prop :=
  (∀ (s : State) (q : Fin 4096) (src : Source), Reach s src → systemQueue q.val src = false →
    let s1 := s.setFld Fld.Q_CTRL_RUN q.val 1
    (∀ b, s.qState q.val = 0 → s1.qBadConfig q.val = false → s1.findRun (ceilDiv (s.qDepth q.val * 32) 4096) = some b →
      ∃ t, exec (.queueStart q src) s = .next t ∧ t.fld Fld.Q_CTRL_RUN q.val = 1 ∧ t.qState q.val = 1 ∧ t.fld Fld.Q_STAT_START_ERR q.val = 0
        ∧ t.reg .Q_HEAD q.val = 0 ∧ t.reg .Q_TAIL q.val = 0 ∧ t.reg .Q_HELD q.val = 0 ∧ t.reg .Q_BASE q.val = b - 0x8000000
        ∧ t = { s with regs := t.regs, own := t.own, blk := t.blk, freeCtr := s.freeCtr + 1 }
        ∧ SameRegs [(.Q_CTRL, q.val), (.Q_STAT, q.val), (.Q_HEAD, q.val), (.Q_TAIL, q.val), (.Q_HELD, q.val), (.Q_BASE, q.val)] s t)
    ∧ (s.qState q.val = 0 → s1.qBadConfig q.val = false → s1.findRun (ceilDiv (s.qDepth q.val * 32) 4096) = none →
      ∃ t, exec (.queueStart q src) s = .next t ∧ t.qState q.val = 0 ∧ t.fld Fld.Q_STAT_START_ERR q.val = 1
        ∧ t = { s with regs := t.regs, freeCtr := s.freeCtr + 1 } ∧ SameRegs [(.Q_CTRL, q.val), (.Q_STAT, q.val)] s t)
    ∧ (s.qState q.val = 0 → s1.qBadConfig q.val = true →
      ∃ t, exec (.queueStart q src) s = .next t ∧ t.qState q.val = 0 ∧ t.fld Fld.Q_STAT_START_ERR q.val = 2 ∧ RegsOnly s t
        ∧ SameRegs [(.Q_CTRL, q.val), (.Q_STAT, q.val)] s t)
    ∧ (s.qState q.val ≠ 0 → exec (.queueStart q src) s = .next s1)
    ∧ (s.qState q.val = 1 → ∃ t, exec (.queueStop q src) s = .next t ∧ t.fld Fld.Q_CTRL_RUN q.val = 0 ∧ t.qState q.val = 2 ∧ RegsOnly s t
      ∧ SameRegs [(.Q_STAT, q.val), (.Q_CTRL, q.val)] s t)
    ∧ (s.qState q.val ≠ 1 → exec (.queueStop q src) s = .next (s.setFld Fld.Q_CTRL_RUN q.val 0)))
  ∧ (∀ (s : State) (q : Fin 4096) (src : Source), Reach s src → systemQueue q.val src = true →
    exec (.queueStart q src) s = .next (s.werr (RegId.offset .Q_CTRL q.val) src)
    ∧ exec (.queueStop q src) s = .next (s.werr (RegId.offset .Q_CTRL q.val) src))
  ∧ (∀ (s : State) (q : Fin 4096),
    (s.qState q.val = 2 → s.reg .Q_HELD q.val = 0 → ∃ t, exec (.queueStopComplete q) s = .next t ∧ t.qState q.val = 0
      ∧ t.reg .Q_HEAD q.val = 0 ∧ t.reg .Q_TAIL q.val = 0 ∧ t.reg .Q_HELD q.val = 0 ∧ t.reg .Q_BASE q.val = 0 ∧ t.cave = s.cave
      ∧ t.qEnqs = s.qEnqs ∧ t.orders = s.orders ∧ t.curds = s.curds)
    ∧ (s.qState q.val ≠ 2 ∨ s.reg .Q_HELD q.val ≠ 0 → exec (.queueStopComplete q) s = .next s))
  ∧ (∀ (s : State) (q : Fin 4096) (v : Word) (src : Source), Reach s src →
    (systemQueue q.val src = false → s.headWriter q.val src = true → exec (.queueHeadWrite q v src) s
      = .next { s with qEnqs := s.qEnqs ++ [.head ⟨q.val, v.toNat, RegId.offset .Q_HEAD q.val, src, 0⟩] })
    ∧ (systemQueue q.val src = true ∨ s.headWriter q.val src = false → exec (.queueHeadWrite q v src) s
      = .next (s.werr (RegId.offset .Q_HEAD q.val) src))
    ∧ (systemQueue q.val src = false → s.tailWriter q.val src = true → exec (.queueTailWrite q v src) s
      = .next { s with qEnqs := s.qEnqs ++ [.tail ⟨q.val, v.toNat, RegId.offset .Q_TAIL q.val, src, 0⟩] })
    ∧ (systemQueue q.val src = true ∨ s.tailWriter q.val src = false → exec (.queueTailWrite q v src) s
      = .next (s.werr (RegId.offset .Q_TAIL q.val) src)))
  ∧ (∀ (s : State) (w : QIndex), w.queue < 4096 →
    (s.headOk w.queue w.value = true → (s.settleHead w).reg .Q_HEAD w.queue = w.value ∧ SameRegs [(.Q_HEAD, w.queue)] s (s.settleHead w)
      ∧ (s.settleHead w).cave = s.cave)
    ∧ (s.headOk w.queue w.value = false → s.settleHead w = s.werr w.offset w.src w.bar)
    ∧ (s.tailOk w.queue w.value = true → (s.settleTail w).reg .Q_TAIL w.queue = w.value ∧ SameRegs [(.Q_TAIL, w.queue)] s (s.settleTail w)
      ∧ (s.settleTail w).cave = s.cave)
    ∧ (s.tailOk w.queue w.value = false → s.settleTail w = s.werr w.offset w.src w.bar))
  ∧ ∀ (s : State) (q : Fin 4096) (v : Nat) (src : Source), v < 2 ^ 32 → s.fld Fld.POWER_STAT_STATE ≤ 2 →
    (systemQueue q.val src = false → srcFunction src = some (s.qOwner q.val) → s.qType q.val = 2 ∨ s.qType q.val = 8 →
      exec (.doorbellWrite ⟨q.val * 4096, 4, v, src⟩) s = .next { s with qEnqs := s.qEnqs ++ [.tail ⟨q.val, v, q.val * 4096, src, 1⟩] })
    ∧ (systemQueue q.val src = false → srcFunction src = some (s.qOwner q.val) → s.qType q.val = 3 ∨ s.qType q.val = 9 →
      exec (.doorbellWrite ⟨q.val * 4096, 4, v, src⟩) s = .next { s with qEnqs := s.qEnqs ++ [.head ⟨q.val, v, q.val * 4096, src, 1⟩] })
    ∧ (systemQueue q.val src = true ∨ srcFunction src ≠ some (s.qOwner q.val) ∨ s.qType q.val ∉ [2, 3, 8, 9] →
      exec (.doorbellWrite ⟨q.val * 4096, 4, v, src⟩) s = .next (s.werr (q.val * 4096) src 1))

/-- Starting and stopping the grid, and stepping the time. -/
def Obligations.GridControl : Prop :=
  ∀ (s : State) (src : Source), Reach s src →
    (∃ t, exec (.gridEnable src) s = .next t ∧ t.fld Fld.TIME_CTRL_GRID_EN = 1 ∧ t.tm.gridStop = false
      ∧ (s.gridRun = false → t.tm.gridArm = true) ∧ (s.gridRun = true → t.tm.gridArm = s.tm.gridArm) ∧ t = { s with regs := t.regs, tm := t.tm } ∧ SameRegs [(.TIME_CTRL, 0)] s t)
    ∧ (s.fld Fld.RENNET_CTRL_OPEN = 0 → s.sentArmed = 0 → ∃ t, exec (.gridDisable src) s = .next t ∧ t.fld Fld.TIME_CTRL_GRID_EN = 0
      ∧ t.tm.gridArm = false ∧ t.tm.gridStop = s.gridRun ∧ t = { s with regs := t.regs, tm := t.tm } ∧ SameRegs [(.TIME_CTRL, 0)] s t)
    ∧ (s.fld Fld.RENNET_CTRL_OPEN ≠ 0 ∨ s.sentArmed ≠ 0 → ∃ t, exec (.gridDisable src) s = .next t
      ∧ t.fld Fld.TIME_CTRL_GRID_EN = s.fld Fld.TIME_CTRL_GRID_EN ∧ t.reg .GLOBAL_WERR_CNT = (s.reg .GLOBAL_WERR_CNT + 1) % 2 ^ 32
      ∧ RegsOnly s t)
    ∧ (s.gridRun = false → ∃ t, exec (.timeStep src) s = .next t
      ∧ t.tm.stepPending = some (s.tm.stepPending.getD 0 + sext 64 (s.reg .TIME_STEP_LO + 2 ^ 32 * s.reg .TIME_STEP_HI))
      ∧ t = { s with tm := { s.tm with stepPending := t.tm.stepPending } })
    ∧ (s.gridRun = true → ∃ t, exec (.timeStep src) s = .next t ∧ RegsOnly s t
      ∧ t.reg .GLOBAL_WERR_CNT = (s.reg .GLOBAL_WERR_CNT + 1) % 2 ^ 32)

/-- The grid starts at a beat start with an open calendar. -/
def Obligations.GridStarts : Prop :=
  (∀ s : State, s.tm.gridArm = true → s.gridRun = false → ∃ t, exec .gridStart s = .next t ∧ t.gridRun = true ∧ t.grain = 0
    ∧ t.tm.gridArm = false ∧ t.cal.map Column.beat = (List.range 65).map (beatAdd t.beat)
    ∧ t.rwsLatched = overlay s.rwsLatched s.rwsNew ∧ t.rwsNew = [] ∧ t.bootDone 10 = true ∧ SameMemory s t ∧ t.orders = s.orders)
  ∧ ∀ s : State, s.tm.gridArm = false ∨ s.gridRun = true → exec .gridStart s = .next s

/-- Grains, latches, beat ticks and epoch boundaries. -/
def Obligations.GrainsBeatsEpochs : Prop :=
  (∀ (s : State) (m : BitVec 4), s.gridRun = true → (s.tm.gridStop = false ∨ s.grain ≠ 0 ∨ s.tm.ticked = some s.absBeat) →
    ∃ t, exec (.grainTick m) s = .next t ∧ t.tm.absGrain = s.tm.absGrain + 1 ∧ t.grain = (s.grain + 1) % 1024)
  ∧ (∀ (s : State) (m : BitVec 4), s.gridRun = false ∨ (s.tm.gridStop = true ∧ s.grain = 0 ∧ s.tm.ticked ≠ some s.absBeat) →
    exec (.grainTick m) s = .next s)
  ∧ (∀ s : State, s.gridRun = true → s.grain = 1023 → ∃ t, exec .shadowLatch s = .next t
      ∧ t.rwsLatched = overlay s.rwsLatched s.rwsNew ∧ t.rwsNew = []
      ∧ ((s.beat + 1) % 1280 = 0 → t.rweLatched = overlay s.rweLatched s.rweNew ∧ t.rweNew = [])
      ∧ ((s.beat + 1) % 1280 ≠ 0 → t.rweLatched = s.rweLatched ∧ t.rweNew = s.rweNew)
      ∧ t = { s with rwsLatched := t.rwsLatched, rwsNew := t.rwsNew, rweLatched := t.rweLatched, rweNew := t.rweNew })
  ∧ (∀ s : State, s.grain ≠ 1023 ∨ s.gridRun = false → exec .shadowLatch s = .next s)
  ∧ (∀ s : State, s.gridRun = true → s.grain = 0 → s.tm.ticked ≠ some s.absBeat →
    ∃ t, exec .beatTick s = .next t ∧ t.tm.ticked = some s.absBeat ∧ t.rwsLatched = [] ∧ t.rwsLate = [] ∧ t.rweLate = [])
  ∧ (∀ s : State, s.tm.ticked = some s.absBeat ∨ s.grain ≠ 0 ∨ s.gridRun = false → exec .beatTick s = .next s)
  ∧ (∀ s : State, s.gridRun = true ∨ s.tm.ticked = some s.absBeat → s.grain = 0 → s.beat % 1280 = 0 → s.tm.epochAt ≠ some s.absBeat →
    ∃ t, exec .epochBoundary s = .next t ∧ t.tm.epochAt = some s.absBeat ∧ t.tm.epochCount = s.tm.epochCount + 1 ∧ t.rweLatched = [])
  ∧ ∀ s : State, s.grain ≠ 0 ∨ s.beat % 1280 ≠ 0 ∨ (s.gridRun = false ∧ s.tm.ticked ≠ some s.absBeat) ∨ s.tm.epochAt = some s.absBeat →
    exec .epochBoundary s = .next s

/-- A latched shadow word takes effect in its RWS fields only. -/
def Obligations.ShadowWordsTakeEffect : Prop :=
  (∀ (s : State) (r : RegId) (i v : Nat), s.rwsLatched = [(r.key i, some v)] →
    let t := s.applyRws
    t.reg r i = takeFields r.desc.fields (fun f => f.acc == .rws) (s.reg r i) v ∧ SameRegs [(r, i)] s t ∧ t.rwsLatched = []
      ∧ SameMemory s t)
  ∧ ∀ s : State, s.applyRws.rwsLatched = [] ∧ s.applyRws.rwsLate = [] ∧ s.applyRws.rweLate = []
    ∧ s.applyRws.rwsNew = overlay s.rwsNew s.rwsLate ∧ s.applyRws.rweNew = overlay s.rweNew s.rweLate

/-- Columns open and are read back. -/
def Obligations.CalendarColumns : Prop :=
  (∀ s : State, s.gridRun = true → s.grain = 1008 → s.cal.any (fun c => c.beat == beatAdd s.beat 65) = false →
    ∃ t, exec .columnCloseOpen s = .next t ∧ t = { s with cal := t.cal }
      ∧ (∃ c ∈ t.cal, c.beat = beatAdd s.beat 65 ∧ (∀ x ∈ c.cells, x.free + x.res = x.admits)
        ∧ ∀ p i, p < 18 → i < poolInstances p → ∃ x ∈ c.cells, x.pool = p ∧ x.index = i)
      ∧ ∀ c ∈ t.cal, c.beat ≠ beatAdd s.beat 65 → c ∈ s.cal)
  ∧ (∀ s : State, s.gridRun = false ∨ s.grain ≠ 1008 ∨ s.cal.any (fun c => c.beat == beatAdd s.beat 65) = true →
    exec .columnCloseOpen s = .next s)
  ∧ (∀ (s : State) (v : Word) (src : Source), Reach s src →
    ∃ t, exec (.colselWrite v src) s = .next t ∧ RegsOnly s t ∧ t.fld Fld.RENNET_COLSEL_BEAT = bits v.toNat 16 0
      ∧ t.fld Fld.RENNET_COLSEL_INDEX = bits v.toNat 23 20 ∧ t.fld Fld.RENNET_COLSEL_POOL = bits v.toNat 31 24
      ∧ t.fld Fld.RENNET_COLCAP_VALID = 0 ∧ SameRegs [(.RENNET_COLSEL, 0), (.RENNET_COLCAP, 0)] s t)
  ∧ (∀ s : State, s.fld Fld.RENNET_COLCAP_VALID = 0 →
    ∃ t, exec .columnSnapshot s = .next t ∧ RegsOnly s t ∧ t.fld Fld.RENNET_COLCAP_VALID = 1
      ∧ t.fld Fld.RENNET_COLCAP_VALUE
        = admitAt s.cal (s.fld Fld.RENNET_COLSEL_BEAT) (s.fld Fld.RENNET_COLSEL_POOL) (s.fld Fld.RENNET_COLSEL_INDEX) % 2 ^ 24
      ∧ t.fld Fld.RENNET_COLRES_VALUE
        = resAt s.cal (s.fld Fld.RENNET_COLSEL_BEAT) (s.fld Fld.RENNET_COLSEL_POOL) (s.fld Fld.RENNET_COLSEL_INDEX) % 2 ^ 24
      ∧ SameRegs [(.RENNET_COLRES, 0), (.RENNET_COLCAP, 0)] s t)
  ∧ ∀ s : State, s.fld Fld.RENNET_COLCAP_VALID = 1 → exec .columnSnapshot s = .next s

/-- Opening the calendar, closing sessions, and the ledger's commands. -/
def Obligations.OpenAndLedger : Prop :=
  (∀ (s : State) (src : Source), Reach s src → s.gridRun = true → s.grain < 1023 → s.fld Fld.STEWARD_STAT_STATE = 1 →
    s.fld Fld.TIME_STAT_REF_LOSS = 0 → (∀ n < 4, s.fld Fld.DBG_SESS_LEVEL n ≠ 3 ∨ s.fld Fld.DBG_SESS_STATE n ≠ 2) →
    ∃ t w, exec (.rennetOpen true src) s = .next t ∧ Sparse.get none t.rwsNew (RegId.key .RENNET_CTRL 0) = some w ∧ bitAt w 0 = true
      ∧ t.fld Fld.GLOBAL_BOOT_STEP = 13 ∧ t = { s with regs := t.regs, rwsNew := t.rwsNew } ∧ SameRegs [(.GLOBAL_BOOT, 0)] s t)
  ∧ (∀ (s : State) (src : Source), Reach s src → s.gridRun = false → ∃ t, exec (.rennetOpen true src) s = .next t ∧ RegsOnly s t
    ∧ t.reg .GLOBAL_WERR_CNT = (s.reg .GLOBAL_WERR_CNT + 1) % 2 ^ 32)
  ∧ (∀ (s : State) (src : Source), Reach s src → s.grain < 1023 → ∃ t w, exec (.rennetOpen false src) s = .next t
    ∧ Sparse.get none t.rwsNew (RegId.key .RENNET_CTRL 0) = some w ∧ bitAt w 0 = false ∧ t = { s with rwsNew := t.rwsNew })
  ∧ (∀ (s : State) (src : Source), Reach s src → exec (.closeAll src) s = .next { s with kp := { s.kp with closeAll := true } })
  ∧ (∀ (s : State) (v : Word) (src : Source), Reach s src →
    (ledgerSelOk (bits v.toNat 7 0) (bits v.toNat 31 8) = true → ∃ t, exec (.ledgerSelWrite v src) s = .next t ∧ RegsOnly s t
      ∧ t.fld Fld.LEDGER_SEL_QTY = bits v.toNat 7 0 ∧ t.fld Fld.LEDGER_SEL_INSTANCE = bits v.toNat 31 8 ∧ t.fld Fld.LEDGER_SNAP_VALID = 0
      ∧ SameRegs [(.LEDGER_SEL, 0), (.LEDGER_SNAP, 0)] s t)
    ∧ (ledgerSelOk (bits v.toNat 7 0) (bits v.toNat 31 8) = false → ∃ t, exec (.ledgerSelWrite v src) s = .next t ∧ RegsOnly s t
      ∧ t.reg .LEDGER_SEL = s.reg .LEDGER_SEL ∧ t.reg .GLOBAL_WERR_CNT = (s.reg .GLOBAL_WERR_CNT + 1) % 2 ^ 32))
  ∧ (∀ s : State, s.gridRun = true → s.grain = 1012 → (∀ x ∈ s.ledgerAll, ledgerDelta (s.ledgerTerms x.1 x.2.1 x.2.2) = 0) →
    s.fld Fld.LEDGER_SEL_QTY ≠ 0 → s.fld Fld.LEDGER_SNAP_VALID = 0 →
    ∃ t, exec .ledgerBeatCheck s = .next t ∧ RegsOnly s t ∧ t.reg .LEDGER_BREACHES = s.reg .LEDGER_BREACHES ∧ t.fld Fld.LEDGER_SNAP_VALID = 1
      ∧ ∀ n < 8, t.reg .LEDGER_SUM n = natAt ((s.ledgerTerms (s.fld Fld.LEDGER_SEL_QTY) (s.fld Fld.LEDGER_SEL_INSTANCE) s.ledgerPool).1
        ++ [(s.ledgerTerms (s.fld Fld.LEDGER_SEL_QTY) (s.fld Fld.LEDGER_SEL_INSTANCE) s.ledgerPool).2]) n % 2 ^ 32)
  ∧ ∀ s : State, s.grain ≠ 1012 → exec .ledgerBeatCheck s = .next s

/-- A ledger breach is recorded and isolates its unit. -/
def Obligations.LedgerBreach : Prop :=
  (∀ (s : State) (q i : Nat) (p : Nat × Nat × Nat), q < 256 → ledgerDelta (s.ledgerTerms q i p) ≠ 0 →
    let t := s.ledgerCheck (q, i, p)
    t.reg .LEDGER_LAST_QTY = q + i * 256 ∧ t.reg .LEDGER_LAST_STAMP = s.stamp
      ∧ t.reg .LEDGER_LAST_DELTA = enc 32 (ledgerDelta (s.ledgerTerms q i p))
      ∧ t.reg .LEDGER_BREACHES = (s.reg .LEDGER_BREACHES + 1) % 2 ^ 32
      ∧ (∀ d, d < 4 → s.ledgerUnit q i p = .die d → s.dieStat d = 1 → t.dieStat d = 2)
      ∧ (∀ n, n < 16 → s.ledgerUnit q i p = .port n → s.fhState n = 2 → t.fhState n = 1)
      ∧ (∀ l, l < 12 → s.ledgerUnit q i p = .link l → s.flState l = 4 → t.flState l ≠ 4)
      ∧ (s.ledgerUnit q i p = .hub → t.fld Fld.RENNET_CTRL_OPEN = 0))
  ∧ ∀ (s : State) (q i : Nat) (p : Nat × Nat × Nat), ledgerDelta (s.ledgerTerms q i p) = 0 → s.ledgerCheck (q, i, p) = s

/-- Reading the time, losing the reference, and qualifying sources. -/
def Obligations.TimeAndSources : Prop :=
  (∀ s : State, s.fld Fld.POWER_STAT_STATE ≤ 2 → s.bt.stopped = false →
    (∀ wide : Bool, ∃ t, exec (.timeNsLoRead (RegId.offset .TIME_NS_LO) (if wide then 8 else 4)) s = .next t
      ∧ t.reads = s.reads ++ [leBytes (if wide then 8 else 4) s.tm.ns]
      ∧ t.reg .TIME_NS_HI = s.tm.ns / 2 ^ 32 % 2 ^ 32 ∧ t.reg .TIME_FRAC = s.tm.frac ∧ t = { s with regs := t.regs, reads := t.reads }
      ∧ SameRegs [(.TIME_NS_HI, 0), (.TIME_FRAC, 0)] s t)
    ∧ (∀ o n : Nat, o + n < 4 → 0 < n → ∃ t, exec (.timeNsLoRead (RegId.offset .TIME_NS_LO + o) n) s = .next t
      ∧ t.reads = s.reads ++ [slice (leBytes 4 s.tm.ns) o n]
      ∧ t.reg .TIME_NS_HI = s.tm.ns / 2 ^ 32 % 2 ^ 32 ∧ t.reg .TIME_FRAC = s.tm.frac ∧ t = { s with regs := t.regs, reads := t.reads }
      ∧ SameRegs [(.TIME_NS_HI, 0), (.TIME_FRAC, 0)] s t)
    ∧ (∀ (off i : Nat) (r : RegId), off % 4 = 0 → s.proxyAt off = none → regAt off = some (r, i) → r ≠ .TIME_NS_LO →
      exec (.timeNsLoRead off 4) s = .next { s with reads := s.reads ++ [leBytes 4 (s.regView r i)] })
    ∧ ∀ off n : Nat, 4 < off % 4 + n → (n ≠ 4 ∧ n ≠ 8) ∨ off % n ≠ 0 →
      exec (.timeNsLoRead off n) s = .next { s with reads := s.reads ++ [zeros n] })
  ∧ (∀ s : State, ∃ t, exec .refclkLoss s = .next t ∧ t.fld Fld.TIME_STAT_REF_LOSS = 1 ∧ t.fld Fld.TIME_STAT_SRC = 0x1F
      ∧ t.fld Fld.TIME_STAT_SERVO_STATE = 3 ∧ t.fld Fld.RENNET_CTRL_OPEN = 0 ∧ t.mg.smbAlert = true
      ∧ (s.servo ≠ 3 → t.reg .TIME_CNT_HOLDOVER = (s.reg .TIME_CNT_HOLDOVER + 1) % 2 ^ 32))
  ∧ (∀ s : State, ∃ t, exec .refclkRestored s = .next t ∧ t.fld Fld.TIME_STAT_REF_LOSS = 0 ∧ RegsOnly s t ∧ SameRegs [(.TIME_STAT, 0)] s t
      ∧ t.servo = s.servo)
  ∧ (∀ s : State, (s.servo = 3 → s.tm.hoSince + s.fld Fld.TIME_HO_SPEC_SECONDS * 10 ^ 9 ≤ s.tm.ns → ∃ t, exec .holdoverOut s = .next t ∧ t.servo = 4)
      ∧ (s.servo ≠ 3 ∨ s.tm.ns < s.tm.hoSince + s.fld Fld.TIME_HO_SPEC_SECONDS * 10 ^ 9 → exec .holdoverOut s = .next s))
  ∧ (∀ (s : State) (n : Fin 18),
      (s.sourceMay n.val = true → (∀ r, n.val < 16 → s.lastPtp n.val 0xB = some r → s.fhState n.val = 2 → s.fld Fld.FH_CFG_PTP_EN n.val = 1 →
          ∃ t, exec (.sourceQualified n) s = .next t ∧ t.fld Fld.TIME_SRC_STAT_QUALIFIED n.val = 1
            ∧ t.fld Fld.TIME_SRC_STAT_STEPS n.val = (beAt r.data 61 2 + 1) % 256
            ∧ SameRegs [(.TIME_SRC_STAT, n.val)] s t ∧ t = { s with regs := t.regs, tm := t.tm })
        ∧ ((n.val = 16 ∧ 64 ≤ s.tm.parentFrames) ∨ (n.val = 17 ∧ 8 ≤ s.tm.ppsRun) → ∃ t, exec (.sourceQualified n) s = .next t
            ∧ t.fld Fld.TIME_SRC_STAT_QUALIFIED n.val = 1 ∧ SameRegs [(.TIME_SRC_STAT, n.val)] s t ∧ t = { s with regs := t.regs, tm := t.tm }))
      ∧ (s.sourceMay n.val = false → exec (.sourceQualified n) s = .next s))
  ∧ ∀ (s : State) (n : Fin 18), ∃ t, exec (.sourceLost n) s = .next t ∧ t.fld Fld.TIME_SRC_STAT_QUALIFIED n.val = 0
      ∧ (s.srcCur ≠ some n.val → t.servo = s.servo ∧ t.srcCur = s.srcCur ∧ t = { s with regs := t.regs, tm := t.tm })
      ∧ (s.srcCur = some n.val → t.srcCur = none ∧ t.reg .TIME_CNT_LOSS = (s.reg .TIME_CNT_LOSS + 1) % 2 ^ 32
        ∧ (s.servo = 2 ∨ (s.servo = 1 ∧ s.tm.acqFrom = 3) → t.servo = 3) ∧ (s.servo = 1 → s.tm.acqFrom ≠ 3 → t.servo = 0)
        ∧ (s.servo ≠ 1 → s.servo ≠ 2 → t.servo = s.servo))

/-- Selecting a source, the servo loop, and the wait for time. -/
def Obligations.ServoAndSelection : Prop :=
  (∀ s : State,
    let e := (if s.gridRun then s.absBeat else s.beatOfNs s.tm.ns) / 1280
    let due := s.fld Fld.STEWARD_STAT_STATE = 1 ∧ (s.gridRun = true → s.grain = 0 ∧ s.beat % 1280 = 0) ∧ s.tm.selAt ≠ some e
    (∀ b, due → s.bestSource = some b → (∀ c, s.srcCur = some c → s.sourceOk c = false ∨ s.better b c = true) →
      ∃ t, exec .sourceSelect s = .next t ∧ t.srcCur = some b ∧ t.servo = 1 ∧ t.reg .TIME_CNT_SWITCH = (s.reg .TIME_CNT_SWITCH + 1) % 2 ^ 32
        ∧ t.tm.selAt = some e)
    ∧ (due → s.bestSource = none ∨ (∃ b c, s.bestSource = some b ∧ s.srcCur = some c ∧ s.sourceOk c = true ∧ s.better b c = false) →
      ∃ t, exec .sourceSelect s = .next t ∧ t.srcCur = s.srcCur ∧ t.servo = s.servo ∧ t.tm.selAt = some e ∧ t = { s with tm := t.tm })
    ∧ (¬due → exec .sourceSelect s = .next s))
  ∧ (∀ (s : State) (es : List Int), s.gridRun = true →
    let auto := s.servoAuto = true ∧ (s.servo = 1 ∨ s.servo = 2) ∧ s.tm.servoAt ≠ some s.absBeat
    ∃ t, exec (.servoUpdate es) s = .next t ∧ t.tm.errN = s.tm.errN + es.length ∧ t.tm.errSigned = s.tm.errSigned + es.sum
      ∧ t.tm.servoAt = some s.absBeat ∧ t.servo = s.servo
      ∧ (auto → ((2 ^ 32 : Nat) : Int) - s.slewMax ≤ t.incr ∧ (t.incr : Int) ≤ ((2 ^ 32 : Nat) : Int) + s.slewMax
        ∧ SameRegs [(.TIME_INCR_FRAC, 0), (.TIME_INCR_NS, 0), (.TIME_FREQ, 0)] s t)
      ∧ (¬auto → t = { s with tm := t.tm }))
  ∧ (∀ (s : State) (src : Source), Reach s src →
    (s.gridRun = false → 9 ≤ s.fld Fld.GLOBAL_BOOT_STEP → exec (.timeGo src) s = .next { s with tm := { s.tm with go := some 0 } })
    ∧ (s.gridRun = true ∨ s.fld Fld.GLOBAL_BOOT_STEP < 9 → exec (.timeGo src) s = .next (s.werr (RegId.offset .GLOBAL_BOOT_CTRL) src)))
  ∧ ∀ s : State,
    (∀ n, s.tm.go = some n → s.fld Fld.GLOBAL_BOOT_CTRL_TIME_WAIT ≤ n → s.srcCur = none → s.gridRun = false →
      ∃ t, exec .timeWaitExpired s = .next t ∧ t.servo = 0 ∧ t.reg .DAC_CODE = (s.dac 0).hoCode.getD 0x800000 ∧ t.tm.gridArm = true
        ∧ t.fld Fld.TIME_CTRL_GRID_EN = 1)
    ∧ ((∀ n, s.tm.go = some n → n < s.fld Fld.GLOBAL_BOOT_CTRL_TIME_WAIT ∨ s.srcCur ≠ none ∨ s.gridRun = true) →
      exec .timeWaitExpired s = .next s)

/-- The steering DACs. -/
def Obligations.SteeringDacs : Prop :=
  (∀ (s : State) (n : Fin 2) (v : Word) (src : Source), Reach s src → s.tm.dacs.length = 2 →
    (s.dacOwned n.val = false → (s.dac n.val).queue.length < 16 → ∃ t, exec (.dacQueueWrite n v src) s = .next t
      ∧ (t.dac n.val).queue = (s.dac n.val).queue ++ [v.toNat % 2 ^ 24] ∧ t.fld Fld.DAC_STAT_FILL n.val = (s.dac n.val).queue.length + 1
      ∧ SameRegs [(.DAC_STAT, n.val)] s t ∧ t = { s with regs := t.regs, tm := t.tm })
    ∧ (s.dacOwned n.val = false → 16 ≤ (s.dac n.val).queue.length → ∃ t, exec (.dacQueueWrite n v src) s = .next t ∧ RegsOnly s t
      ∧ t.reg .DAC_CNT_OVF n.val = (s.reg .DAC_CNT_OVF n.val + 1) % 2 ^ 32 ∧ SameRegs [(.DAC_CNT_OVF, n.val)] s t)
    ∧ (s.dacOwned n.val = true → exec (.dacQueueWrite n v src) s = .next (s.werr (RegId.offset .DAC_QUEUE n.val) src)
      ∧ exec (.dacHoSet n v src) s = .next (s.werr (RegId.offset .DAC_HO_SET n.val) src))
    ∧ (s.dacOwned n.val = false → ∃ t, exec (.dacHoSet n v src) s = .next t ∧ t.fld Fld.DAC_STAT_HO_VALID n.val = 1
      ∧ t.reg .DAC_HO n.val = v.toNat % 2 ^ 24 ∧ (t.dac n.val).hoCode = some (v.toNat % 2 ^ 24) ∧ t.reg .DAC_CODE n.val = s.reg .DAC_CODE n.val)
    ∧ (∃ t, exec (.dacRestart n true src) s = .next t ∧ t.fld Fld.DAC_STAT_FAULT n.val = 0 ∧ RegsOnly s t ∧ SameRegs [(.DAC_STAT, n.val)] s t)
    ∧ exec (.dacRestart n false src) s = .next s)
  ∧ (∀ (s : State) (n : Fin 2) (sync : Int), s.tm.dacs.length = 2 → s.fld Fld.DAC_CFG_RUN n.val = 1 → (n.val = 1 → s.mirror = false) →
    let u := if n.val = 0 then s.loopSample sync else s
    (∀ c r, (u.dac n.val).queue = c :: r → ∃ t, exec (.dacSample n sync) s = .next t ∧ t.reg .DAC_CODE n.val = s.dacClamp n.val c
      ∧ (t.dac n.val).queue = r)
    ∧ ((u.dac n.val).queue = [] → ∃ t, exec (.dacSample n sync) s = .next t ∧ RegsOnly s t
      ∧ t.reg .DAC_CNT_UNDER n.val = (s.reg .DAC_CNT_UNDER n.val + 1) % 2 ^ 32 ∧ SameRegs [(.DAC_CNT_UNDER, n.val)] s t)
    ∧ (n.val = 0 → s.loopRuns = true → ∃ c, (u.dac 0).queue = (s.dac 0).queue ++ [c]) ∧ (n.val = 1 ∨ s.loopRuns = false → u = s))
  ∧ (∀ (s : State) (n : Fin 2) (sync : Int), s.fld Fld.DAC_CFG_RUN n.val = 0 ∨ (n.val = 1 ∧ s.mirror = true) → exec (.dacSample n sync) s = .next s)
  ∧ (∀ (s : State) (n : Fin 2), s.tm.dacs.length = 2 → ∃ t, exec (.dacFault n) s = .next t ∧ t.fld Fld.DAC_STAT_FAULT n.val = 1
      ∧ (t.dac n.val).queue = [] ∧ t.reg .DAC_CODE n.val = (s.dac n.val).hoCode.getD 0x800000 ∧ Logged s t 0x0003 2 n.val 0 0)
  ∧ ∀ s : State, let l := s.tm.epochs.filter (fun e => e.locked)
    let sum := (l.map (fun e => e.sum)).sum
    let n := (l.map (fun e => e.n)).sum
    let can := fun m => s.fld Fld.TIME_CTRL_STEER_EN = 1 ∧ s.fld Fld.STEWARD_STAT_STATE = 1 ∧ m ≤ l.length ∧ n ≠ 0
    (∀ m, s.tm.hoDue = some m → can m → ∃ t c, exec .holdoverCodeWrite s = .next t ∧ t.reg .DAC_HO = c
      ∧ 2 * n * c ≤ 2 * sum + n ∧ 2 * sum ≤ 2 * n * c + n
      ∧ t.fld Fld.DAC_STAT_HO_VALID = 1 ∧ t.reg .DAC_CNT_HO_WR = (s.reg .DAC_CNT_HO_WR + 1) % 2 ^ 32 ∧ t.tm.hoDue = none
      ∧ (s.mirror = true → t.reg .DAC_HO 1 = c ∧ t.reg .DAC_CNT_HO_WR 1 = (s.reg .DAC_CNT_HO_WR 1 + 1) % 2 ^ 32))
    ∧ (∀ m, s.tm.hoDue = some m → ¬can m → exec .holdoverCodeWrite s = .next { s with tm := { s.tm with hoDue := none } })
    ∧ (s.tm.hoDue = none → exec .holdoverCodeWrite s = .next s)

/-- Pulses out and edges in. -/
def Obligations.PulsesAndEdges : Prop :=
  (∀ (s : State) (n : Fin 8), s.tm.tpo.length = 8 → ∃ t, exec (.tpoEdge n) s = .next t
      ∧ t.tpoPin n.val = xor (s.tpoLevel n.val) (s.fld Fld.TPO_CTRL_POL n.val == 1)
      ∧ t = { s with tm := { s.tm with tpo := t.tm.tpo }, freeCtr := s.freeCtr + 1 })
  ∧ (∀ (s : State) (n : Fin 4) (rise : Bool), s.tm.trig.length = 4 → s.fld Fld.TRIG_CFG_EN n.val = 1 → s.fld Fld.TRIG_CFG_EDGE n.val ≤ 2 →
    (rise = true → s.fld Fld.TRIG_CFG_EDGE n.val ≠ 1) → (rise = false → s.fld Fld.TRIG_CFG_EDGE n.val ≠ 0) →
    ((s.tm.trig.getD n.val []).length < 16 → ∃ t, exec (.trigEdge n rise false) s = .next t
      ∧ t.tm.trig.getD n.val [] = s.tm.trig.getD n.val [] ++ [⟨s.tm.ns, s.tm.frac / 2 ^ 16, rise⟩]
      ∧ t = { s with tm := { s.tm with trig := t.tm.trig }, freeCtr := s.freeCtr + 1 })
    ∧ (16 ≤ (s.tm.trig.getD n.val []).length → ∃ t, exec (.trigEdge n rise false) s = .next t ∧ t.tm = s.tm
      ∧ t.reg .TRIG_CNT_OVF n.val = (s.reg .TRIG_CNT_OVF n.val + 1) % 2 ^ 32))
  ∧ (∀ (s : State) (n : Fin 4) (rise short : Bool), s.fld Fld.TRIG_CFG_EN n.val = 0 ∨ short = true
      ∨ (rise = true ∧ s.fld Fld.TRIG_CFG_EDGE n.val = 1) ∨ (rise = false ∧ s.fld Fld.TRIG_CFG_EDGE n.val = 0) →
      exec (.trigEdge n rise short) s = .next s.used)
  ∧ (∀ (s : State) (n : Fin 4) (src : Source) (x : TrigEntry) (r : List TrigEntry), Reach s src → s.tm.trig.getD n.val [] = x :: r →
    ∃ t, exec (.trigPop n src) s = .next t ∧ t.tm.trig.getD n.val [] = r ∧ t.reg .TRIG_TS_LO n.val = x.ns % 2 ^ 32
      ∧ t.reg .TRIG_TS_HI n.val = x.ns / 2 ^ 32 % 2 ^ 32 ∧ t.fld Fld.TRIG_TS_INFO_VALID n.val = 1 ∧ t.fld Fld.TRIG_TS_INFO_RISE n.val = b2n x.rise)
  ∧ (∀ (s : State) (n : Fin 4) (src : Source), Reach s src → s.tm.trig.getD n.val [] = [] →
    ∃ t, exec (.trigPop n src) s = .next t ∧ t.fld Fld.TRIG_TS_INFO_VALID n.val = 0 ∧ RegsOnly s t ∧ SameRegs [(.TRIG_TS_INFO, n.val)] s t)
  ∧ (∀ s : State,
    let now := ((s.tm.ns : Int) - sext 16 (s.fld Fld.TIME_PPS_PPS_DELAY)).toNat
    ∃ t, exec (.ppsEdge (s.fld Fld.TIME_PPS_POL == 0)) s = .next t ∧ t.tm.lastPps = some now ∧ t.tm.todOk = false
      ∧ (s.tm.lastPps = none → t.tm.ppsRun = 0 ∧ t = { s with tm := t.tm })
      ∧ (∀ l, s.tm.lastPps = some l → l + 999999000 ≤ now → now ≤ l + 1000001000 →
        t.tm.ppsRun = (if s.tm.todOk = true then s.tm.ppsRun + 1 else 0) ∧ t = { s with tm := t.tm })
      ∧ (∀ l, s.tm.lastPps = some l → now < l + 999999000 ∨ l + 1000001000 < now →
        t.tm.ppsRun = 0 ∧ t.fld Fld.TIME_SRC_STAT_QUALIFIED 17 = 0))
  ∧ (∀ s : State, exec (.ppsEdge (s.fld Fld.TIME_PPS_POL != 0)) s = .next s)
  ∧ ∀ (s : State) (text : List Byte),
    (∀ u, nmeaSecond text = some u → let n := u + s.fld Fld.TIME_UTC_UTC_OFS - s.fld Fld.TIME_PPS_TOD_EDGE
      ∃ t, exec (.todSentence (s.fld Fld.TIME_PPS_TOD_BAUD == 1) text) s = .next t ∧ t.tm.todSecond = some n ∧ t.tm.todOk = true
        ∧ (s.tm.todSecond = none ∨ s.tm.todSecond = some (if s.tm.todOk = true then n else n - 1) ∧ (s.tm.todOk = false → 0 < n) →
          t = { s with tm := t.tm })
        ∧ (∀ l, s.tm.todSecond = some l → (if s.tm.todOk = true then l ≠ n else l + 1 ≠ n) → t.fld Fld.TIME_SRC_STAT_QUALIFIED 17 = 0))
    ∧ (nmeaSecond text = none → exec (.todSentence (s.fld Fld.TIME_PPS_TOD_BAUD == 1) text) s = .next s)
    ∧ exec (.todSentence (s.fld Fld.TIME_PPS_TOD_BAUD != 1) text) s = .next s

/-- Clock messages of the ports. -/
def Obligations.ClockMessages : Prop :=
  (∀ (s : State) (p : Fin 16) (k : Fin 3), s.ptpOn p.val = true → (k.val = 2 → s.ptpState p.val = 9) → (k.val ≠ 2 → s.ptpState p.val = 6) →
    ∃ t r, exec (.ptpMessageTx p k) s = .next t ∧ t.tm.ptpTx = s.tm.ptpTx ++ [r] ∧ r.port = p.val ∧ r.kind = k.val
      ∧ r.ns = (if k.val = 0 then s.tm.ns else s.asymNs p.val s.tm.ns)
      ∧ t.fld Fld.TIME_PTP_PORT_STATE p.val = s.ptpState p.val ∧ SameRegs [(.TIME_PTP_PORT, p.val), (.FH_GRAN, p.val), (.FH_TX_FRAMES, p.val)] s t
      ∧ ((s.txReturn p.val).canBuild p.val 78 (s.secTime p.val) = true →
        ∃ w, t.wire = s.wire ++ [w] ∧ w.port = p.val ∧ beAt w.bytes 12 2 = 0x88F7)
      ∧ t = { s with regs := t.regs, tm := { s.tm with ptpTx := t.tm.ptpTx }, fh := t.fh, wire := t.wire, freeCtr := s.freeCtr + 1 })
  ∧ (∀ (s : State) (p : Fin 16) (k : Fin 3), s.ptpOn p.val = false ∨ (k.val = 2 ∧ s.ptpState p.val ≠ 9) ∨ (k.val ≠ 2 ∧ s.ptpState p.val ≠ 6) →
    ∃ t, exec (.ptpMessageTx p k) s = .next t
      ∧ t.fld Fld.TIME_PTP_PORT_STATE p.val = s.ptpState p.val ∧ RegsOnly s t ∧ SameRegs [(.TIME_PTP_PORT, p.val)] s t)
  ∧ (∀ (s : State) (p : Fin 16) (ns frac : Nat) (msg : List Byte),
    (s.ptpOn p.val = true → ∃ t, exec (.ptpMessageRx p ns frac msg) s = .next t ∧ t.tm.ptpRx = s.tm.ptpRx ++
      [⟨p.val, 0, if u8 msg 0 % 16 < 4 then ((ns : Int) - sext 16 (s.fld Fld.FH_PTP_ASYM_ASYM p.val)).toNat else ns, frac, msg⟩]
      ∧ (u8 msg 0 % 16 = 1 → s.ptpState p.val = 6 → ∃ r, t.tm.ptpTx = s.tm.ptpTx ++ [r] ∧ r.port = p.val ∧ r.kind = 9))
    ∧ (s.ptpOn p.val = false → exec (.ptpMessageRx p ns frac msg) s = .next s))
  ∧ (∀ (s : State) (p : Fin 16) (change : Bool),
    (s.esmcOn p.val = true → ∃ t, exec (.esmcPduTx p change) s = .next t
      ∧ t.tm.ptpTx = s.tm.ptpTx ++ [⟨p.val, if change then 11 else 10, s.tm.ns, s.tm.frac, leBytes 1 (s.txQl p.val)⟩]
      ∧ (s.syncePort = some p.val → s.txQl p.val = 0xF)
      ∧ ((s.txReturn p.val).canBuild p.val 60 (s.secTime p.val) = true →
        ∃ w, t.wire = s.wire ++ [w] ∧ w.port = p.val ∧ w.bytes.take 28 = s.esmcFrame p.val change)
      ∧ SameRegs [(.FH_GRAN, p.val), (.FH_TX_FRAMES, p.val)] s t
      ∧ t = { s with regs := t.regs, tm := { s.tm with ptpTx := t.tm.ptpTx }, fh := t.fh, wire := t.wire })
    ∧ (s.esmcOn p.val = false → exec (.esmcPduTx p change) s = .next s))
  ∧ ∀ (s : State) (p : Fin 16) (pdu : List Byte),
    (s.esmcOn p.val = true → ∃ t, exec (.esmcPduRx p pdu) s = .next t
      ∧ t.fld Fld.TIME_SRC_STAT_RX_QL p.val = u8 pdu 13 % 16 ∧ SameRegs [(.TIME_SRC_STAT, p.val)] s t
      ∧ t = { s with regs := t.regs, tm := { s.tm with ptpRx := t.tm.ptpRx } })
    ∧ (s.esmcOn p.val = false → exec (.esmcPduRx p pdu) s = .next s)

/-- Command packets are fetched, checked and kept. -/
def Obligations.CommandPackets : Prop :=
  (∀ (s : State) (ring : List Byte) (p : Nat), s.nextPair = some p → s.fld Fld.POWER_STAT_STATE ≠ 3 →
    let q := s.fld Fld.CMD_PAIR_CFG_ORDER_Q p
    let r := s.fld Fld.CMD_PAIR_CFG_REPLY_Q p
    let n := ceilDiv (pktBytes ring) 32
    let hold := maxRep (pktOpcode ring)
    let c := pktCtx (.pair p) (s.qOwner q) s.stamp ring
    pktMagicOk ring = true → pktBytes ring ≤ 65536 → n ≤ s.qDepth q / 2 → n ≤ s.qOcc q → (pktOpcode ring = 0x1000 → s.ordersWaiting < 4) →
    (pktCrcOk ring = true → bitAt (pktFlags ring) 2 = false → s.hdrChecks (.pair p) (s.qOwner q) ring = 0 →
      hold ≤ s.qFree r → s.qState r = 1 → ∃ t, exec (.cmdFetch ring) s = .next t ∧ t.mg.fetched = s.mg.fetched ++ [c]
      ∧ t.reg .Q_HEAD q = (s.reg .Q_HEAD q + n) % (2 * s.qDepth q) ∧ t.reg .Q_HELD r = s.reg .Q_HELD r + hold
      ∧ t.reg .CMD_PAIR_CNT p = (s.reg .CMD_PAIR_CNT p + 1) % 2 ^ 32 ∧ t.fld Fld.CMD_PAIR_STAT_STALL p = 0
      ∧ t = { s with regs := t.regs, mg := t.mg })
    ∧ (pktCrcOk ring = false → hold ≤ s.qFree r → s.qState r = 1 → ∃ t, exec (.cmdFetch ring) s = .next t ∧ Replied s t c 0x23 []
      ∧ t.reg .Q_HEAD q = (s.reg .Q_HEAD q + n) % (2 * s.qDepth q) ∧ t.reg .MGMT_CNT_HDR = (s.reg .MGMT_CNT_HDR + 1) % 2 ^ 32)
    ∧ (s.qFree r < hold ∨ s.qState r ≠ 1 → ∃ t, exec (.cmdFetch ring) s = .next t ∧ t.fld Fld.CMD_PAIR_STAT_STALL p = 1
      ∧ t.mg.fetched = s.mg.fetched ∧ SameRegs [(.CMD_PAIR_STAT, p)] s t))
  ∧ (∀ (s : State) (ring : List Byte), s.nextPair = none ∨ s.fld Fld.POWER_STAT_STATE = 3 → exec (.cmdFetch ring) s = .next s)
  ∧ (∀ (s : State) (d : Datagram), s.portOn = true → d.dstIp = s.reg .MGMT_IP → d.dstPort = s.fld Fld.MGMT_CFG_UDP → d.tagged = false →
    d.frag = false → d.payload.length ≤ (if s.fld Fld.MGMT_CFG_JUMBO = 1 then 8972 else 1472) →
    s.mg.policed < 10000 ∨ s.mg.policeSec ≠ s.tm.ns / 10 ^ 9 → 16 ≤ d.payload.length → pktMagicOk d.payload = true → pktBytes d.payload ≤ 65536 →
    pktBytes d.payload + 32 = d.payload.length → pktCrcOk d.payload = true → bitAt (pktFlags d.payload) 2 = true →
    let c := pktCtx (.port d.srcIp d.srcPort) 0x10 s.stamp d.payload
    let st := s.hdrChecks (.port d.srcIp d.srcPort) 0x10 d.payload
    (s.trailerOk d.payload = true → st = 0 → ∃ t, exec (.mgmtDatagram d) s = .next t ∧ t.mg.fetched = s.mg.fetched ++ [c]
      ∧ t.mg.portCounter = u64 d.payload (d.payload.length - 32) ∧ SameRegs [(.MGMT_CNT_RX, 0)] s t)
    ∧ (s.trailerOk d.payload = true → st ≠ 0 → ∃ t, exec (.mgmtDatagram d) s = .next t ∧ Replied s t c st []
      ∧ t.mg.portCounter = u64 d.payload (d.payload.length - 32))
    ∧ (s.trailerOk d.payload = false → ∃ t, exec (.mgmtDatagram d) s = .next t ∧ t.mg.fetched = s.mg.fetched
      ∧ t.mg.portCounter = s.mg.portCounter ∧ t.reg .MGMT_CNT_AUTH = (s.reg .MGMT_CNT_AUTH + 1) % 2 ^ 32))
  ∧ (∀ (s : State) (d : Datagram), s.portOn = false ∨ d.dstIp ≠ s.reg .MGMT_IP ∨ d.dstPort ≠ s.fld Fld.MGMT_CFG_UDP →
    exec (.mgmtDatagram d) s = .next s)
  ∧ (∀ (s : State) (b : List Byte), 16 ≤ b.length → pktMagicOk b = true → pktBytes b = b.length → b.length ≤ 65536 → bitAt (pktFlags b) 2 = false →
    (pktCrcOk b = true → s.hdrChecks .ssp 0x20 b = 0 →
      exec (.packetWrite b) s = .next { s with mg := { s.mg with fetched := s.mg.fetched ++ [pktCtx .ssp 0x20 s.stamp b] } })
    ∧ (pktCrcOk b = true → s.hdrChecks .ssp 0x20 b ≠ 0 → ∃ t, exec (.packetWrite b) s = .next t
      ∧ Replied s t (pktCtx .ssp 0x20 s.stamp b) (s.hdrChecks .ssp 0x20 b) [] ∧ Spoke s t)
    ∧ (pktCrcOk b = false → exec (.packetWrite b) s = .next s))
  ∧ (∀ (s : State) (r : List Byte) (l : List (List Byte)), s.mg.ssp = r :: l →
    exec .replyRead s = .next { s with reads := s.reads ++ [leBytes 4 r.length ++ r], mg := { s.mg with ssp := l } })
  ∧ (∀ s : State, s.mg.ssp = [] → exec .replyRead s = .next { s with reads := s.reads ++ [zeros 4] })
  ∧ (∀ (s : State) (mac ip : Nat), s.portOn = true → ∃ t w, exec (.arpRequest mac ip (s.reg .MGMT_IP)) s = .next t ∧ t.wire = s.wire ++ [w]
    ∧ w.port = 28 ∧ t = { s with wire := t.wire })
  ∧ (∀ (s : State) (mac ip : Nat) (body : List Byte), s.portOn = true → ∃ t w, exec (.icmpEcho mac ip (s.reg .MGMT_IP) body) s = .next t
    ∧ t.wire = s.wire ++ [w] ∧ w.port = 28 ∧ t = { s with wire := t.wire, freeCtr := s.freeCtr + 2 })
  ∧ ∀ (s : State) (mac ip dst : Nat) (body : List Byte), s.portOn = false ∨ dst ≠ s.reg .MGMT_IP →
    exec (.arpRequest mac ip dst) s = .next s ∧ exec (.icmpEcho mac ip dst body) s = .next s

/-- Ring pairs, and the steward's restarts. -/
def Obligations.PairsAndSteward : Prop :=
  (∀ (s : State) (p : Fin 256) (src : Source), Reach s src →
    (s.pairOk p.val = true → ∃ t, exec (.cmdPairEnable p src) s = .next t ∧ t.fld Fld.CMD_PAIR_CFG_EN p.val = 1 ∧ RegsOnly s t
      ∧ SameRegs [(.CMD_PAIR_CFG, p.val)] s t)
    ∧ (s.pairOk p.val = false → exec (.cmdPairEnable p src) s = .next (s.werr (RegId.offset .CMD_PAIR_CFG p.val) src))
    ∧ (∃ t, exec (.cmdPairDisable p src) s = .next t ∧ t.fld Fld.CMD_PAIR_CFG_EN p.val = 0 ∧ t.reg .CMD_PAIR_STAT p.val = 0
      ∧ (∀ b ∈ t.mg.subs, b.src ≠ .pair p.val) ∧ (∀ b ∈ s.mg.subs, b.src ≠ .pair p.val → b ∈ t.mg.subs)
      ∧ SameRegs [(.CMD_PAIR_CFG, p.val), (.CMD_PAIR_STAT, p.val)] s t))
  ∧ (∀ (s : State) (c : CmdCtx), TakesNow s c →
    (c.payload = [] → ∃ t, exec (.stewardRestart c) s = .next t ∧ t.fld Fld.STEWARD_STAT_STATE = 2 ∧ t.fld Fld.STEWARD_CAUSE_CAUSE = 1
      ∧ t.fld Fld.STEWARD_STAT_RESTARTS = min (s.fld Fld.STEWARD_STAT_RESTARTS + 1) 65535
      ∧ ∀ x ∈ t.mg.fetched, stewardOp x.opcode = false)
    ∧ (c.payload ≠ [] → ∃ t, exec (.stewardRestart c) s = .next t ∧ Replied s t c 0x22 [] ∧ Spoke s t))
  ∧ (∀ (s : State) (hb selfOk : Bool), s.fld Fld.STEWARD_STAT_STATE = 1 →
    ∃ t, exec (.stewardFailover hb selfOk) s = .next t ∧ t.fld Fld.STEWARD_STAT_STATE = 2
      ∧ t.fld Fld.STEWARD_CAUSE_CAUSE = (if hb then 4 else 3)
      ∧ (s.fld Fld.STEWARD_STAT_DEGRADED = 0 → t.fld Fld.STEWARD_STAT_PAIR = 1 - s.fld Fld.STEWARD_STAT_PAIR
        ∧ t.fld Fld.STEWARD_STAT_DEGRADED = b2n (!selfOk))
      ∧ (s.fld Fld.STEWARD_STAT_DEGRADED = 1 → t.fld Fld.STEWARD_STAT_PAIR = s.fld Fld.STEWARD_STAT_PAIR
        ∧ t.fld Fld.STEWARD_STAT_DEGRADED = 1))
  ∧ (∀ (s : State) (hb selfOk : Bool), s.fld Fld.STEWARD_STAT_STATE ≠ 1 → exec (.stewardFailover hb selfOk) s = .next s)
  ∧ (∀ s : State, s.fld Fld.STEWARD_STAT_STATE = 2 →
    (∃ t, exec (.stewardRestartDone true) s = .next t ∧ t.fld Fld.STEWARD_STAT_STATE = 1 ∧ t.mg.late = [])
    ∧ ∃ t, exec (.stewardRestartDone false) s = .next t ∧ t.fld Fld.STEWARD_STAT_STATE = 3 ∧ t.mg.smbAlert = true)
  ∧ ∀ (s : State) (ok : Bool), s.fld Fld.STEWARD_STAT_STATE ≠ 2 → exec (.stewardRestartDone ok) s = .next s

/-- Firmware banks. -/
def Obligations.FirmwareBanks : Prop :=
  (∀ (s : State) (c : CmdCtx), TakesNow s c → s.mg.banks.length = 2 → s.classLRuns c = false →
    (let p := c.payload
     p.length = 8 + ceilDiv (u32 p 4) 4 * 4 → u32 p 0 % 4096 = 0 → 1 ≤ u32 p 4 → u32 p 4 ≤ 4096 → u32 p 0 + u32 p 4 ≤ 2 ^ 24 →
     allZero (p.drop (8 + u32 p 4)) = true →
     ∃ t, exec (.fwWrite c) s = .next t ∧ (t.bank (1 - s.runBank)).state = 1 ∧ Replied s t c 0 []
       ∧ readBytes (t.bank (1 - s.runBank)).data (u32 p 0) (u32 p 4) = slice p 8 (u32 p 4) ∧ t.bank s.runBank = s.bank s.runBank)
    ∧ (c.payload = [] → (s.bank (1 - s.runBank)).state = 1 → ∃ t, exec (.fwVerify c) s = .next t
      ∧ t.kp.checks = s.kp.checks ++ [c] ∧ t.fld Fld.KEEPER_STAT_BUSY = 1 ∧ t.mg.banks = s.mg.banks ∧ t.replies = s.replies
      ∧ SameRegs [(.KEEPER_STAT, 0)] s t)
    ∧ (c.payload = [] → (s.bank (1 - s.runBank)).state ≠ 1 → ∃ t, exec (.fwVerify c) s = .next t ∧ Replied s t c 0x24 [] ∧ Spoke s t)
    ∧ (c.payload = [] → (s.bank (1 - s.runBank)).state = 2 → (s.bank s.runBank).state = 4 → ∃ t, exec (.fwActivate c) s = .next t
      ∧ t.mg.activate = some (1 - s.runBank, (s.absBeat / 1280 + 1) * 1280 + 1) ∧ t.replies = s.replies ∧ t = { s with mg := t.mg })
    ∧ (c.payload = [] → (s.bank (1 - s.runBank)).state ≠ 2 ∨ (s.bank s.runBank).state ≠ 4 → ∃ t, exec (.fwActivate c) s = .next t
      ∧ Replied s t c 0x24 [] ∧ Spoke s t)
    ∧ (c.payload = [] → (s.bank s.runBank).state = 3 → ∃ t, exec (.fwCommit c) s = .next t ∧ (t.bank s.runBank).state = 4
      ∧ t.fld Fld.STEWARD_STAT_TRIAL = 0 ∧ Replied s t c 0 [])
    ∧ (c.payload = [] → (s.bank s.runBank).state ≠ 3 → ∃ t, exec (.fwCommit c) s = .next t ∧ Replied s t c 0x24 [] ∧ Spoke s t))
  ∧ (∀ (s : State) (c : CmdCtx) (r : List CmdCtx), s.kp.checks = c :: r → c.opcode = 0x21 → s.recovery = false → s.mg.banks.length = 2 →
    let data := (s.bank (1 - s.runBank)).data
    ((s.verifyBank data).1 = true → ∃ t, exec .signatureCheckDone s = .next t ∧ t.kp.checks = r ∧ (t.bank (1 - s.runBank)).state = 2
      ∧ (t.bank (1 - s.runBank)).version = Config.fwVersion data % 2 ^ 32 ∧ Replied s t c 0 (leBytes 4 (Config.fwVersion data)))
    ∧ ((s.verifyBank data).1 = false → ∃ t pre tr, exec .signatureCheckDone s = .next t ∧ t.kp.checks = r ∧ t.mg.banks = s.mg.banks
      ∧ t.replies = s.replies ++ pre ++ [⟨c.src, replyPacket c 0x42 [] ++ tr⟩]))
  ∧ (∀ (s : State) (n at1 : Nat), n < 2 → s.mg.banks.length = 2 → s.mg.activate = some (n, at1) →
    (s.gridRun = false ∨ at1 ≤ s.absBeat → ∃ t, exec .firmwareSwitch s = .next t ∧ (t.bank n).state = 3 ∧ t.fld Fld.STEWARD_STAT_BANK = n
      ∧ t.fld Fld.STEWARD_STAT_TRIAL = 1 ∧ t.fld Fld.STEWARD_STAT_STATE = 2 ∧ t.fld Fld.STEWARD_CAUSE_CAUSE = 2 ∧ t.mg.activate = none)
    ∧ (s.gridRun = true → s.absBeat < at1 → exec .firmwareSwitch s = .next s))
  ∧ (∀ s : State, s.mg.activate = none → exec .firmwareSwitch s = .next s)
  ∧ (∀ s : State, s.rollbackDue = true → s.mg.banks.length = 2 → ∃ t, exec .fwRollback s = .next t ∧ (t.bank s.runBank).state = 5
    ∧ t.fld Fld.STEWARD_STAT_BANK = 1 - s.runBank ∧ t.fld Fld.STEWARD_STAT_STATE = 2 ∧ t.fld Fld.STEWARD_CAUSE_CAUSE = 5)
  ∧ ∀ s : State, s.rollbackDue = false → exec .fwRollback s = .next s

/-- Information, telemetry and events. -/
def Obligations.InformationCommands : Prop :=
  (∀ (s : State) (c : CmdCtx), TakesNow s c →
    (c.payload = [] → ∃ t, exec (.nop c) s = .next t ∧ Replied s t c 0 [] ∧ Spoke s t)
    ∧ (c.payload ≠ [] → ∃ t, exec (.nop c) s = .next t ∧ Replied s t c 0x22 [] ∧ Spoke s t)
    ∧ (c.payload = [] → ∃ t, exec (.moduleInfo c) s = .next t ∧ Replied s t c 0 s.infoBytes ∧ Spoke s t)
    ∧ (c.payload.length = 8 → ∃ t, exec (.telemetryRead c) s = .next t ∧ Spoke s t ∧ Replied s t c 0 (leBytes 4 s.mg.sampleStamp
        ++ ((maskList (u64 c.payload 0) 64).filter sensorExists).flatMap (fun n => sensorEntry n (s.mg.sensors.getD n {}))))
    ∧ (c.payload.length = 8 → allZero (c.payload.drop 5) = true → 1 ≤ u8 c.payload 4 → u8 c.payload 4 ≤ 32 →
      ∃ t, exec (.eventRead c) s = .next t ∧ Spoke s t ∧ Replied s t c 0
        (((s.mg.log.filter (fun e => decide ((e.seq + 2 ^ 32 - u32 c.payload 0) % 2 ^ 32 < 2 ^ 31))).take (u8 c.payload 4)).flatMap
          (fun e => e.bytes 0)))
    ∧ (c.payload.length = 4 → u16 c.payload 2 = 0 → u8 c.payload 0 ≤ 3 → u8 c.payload 1 = 1 → ∃ t, exec (.eventSubscribe c) s = .next t
      ∧ Replied s t c 0 [] ∧ ∃ lost, ⟨c.src, u8 c.payload 0, lost⟩ ∈ t.mg.subs)
    ∧ (c.payload.length = 4 → u16 c.payload 2 = 0 → u8 c.payload 0 ≤ 3 → u8 c.payload 1 = 0 → ∃ t, exec (.eventSubscribe c) s = .next t
      ∧ Replied s t c 0 [] ∧ ∀ b ∈ t.mg.subs, b.src ≠ c.src))
  ∧ (∀ (s : State) (c : CmdCtx), s.fld Fld.STEWARD_STAT_STATE = 2 → ∃ t, exec (.nop c) s = .next t ∧ Replied s t c 0x25 [] ∧ Spoke s t)
  ∧ (∀ (s : State) (c : CmdCtx), s.fld Fld.STEWARD_STAT_STATE = 1 → s.stewardTurn c = false → exec (.nop c) s = .next s)
  ∧ (∀ (s : State) (l : List Sample), s.gridRun = false ∨ s.beat % 8 = 0 → s.mg.sensors.length = 64 →
    l.Pairwise (fun x y => x.sensor ≠ y.sensor) →
    ∃ t, exec (.telemetrySample l) s = .next t ∧ t.mg.sampleStamp = s.stamp
      ∧ (∀ x ∈ l, sensorExists x.sensor.val = true → t.mg.sensors.getD x.sensor.val {} = s.sampleOf x.sensor.val x.value)
      ∧ ∀ n, (∀ x ∈ l, x.sensor.val ≠ n) → t.mg.sensors.getD n {} = s.mg.sensors.getD n {})
  ∧ ∀ (s : State) (l : List Sample), s.gridRun = true → s.beat % 8 ≠ 0 → exec (.telemetrySample l) s = .next s

/-- Power states: entries, drains, aborts and exits. -/
def Obligations.PowerStates : Prop :=
  (∀ (s : State) (c : CmdCtx), TakesNow s c → s.inTurn c = true →
    let p := c.payload
    let st := u8 p 0
    let g := pwTarget st (u8 p 1) (u64 p 4)
    let offD := andNot (s.reg .POWER_DOM) g.1
    let offT := andNot s.tilesOn g.2
    let same := st = s.pwState ∧ g = (s.reg .POWER_DOM, s.tilesOn)
    p.length = 12 → st ≤ 4 → u8 p 1 ≤ 15 → u16 p 2 = 0 → (st = 1 → u8 p 1 ≠ 0 ∨ u64 p 4 ≠ 0) → (2 ≤ st → u8 p 1 = 0 ∧ u64 p 4 = 0) →
    (s.transition ≠ 0 → ∃ t, exec (.powerState c) s = .next t ∧ Replied s t c 0x25 (refuserBytes 0 0) ∧ Spoke s t)
    ∧ (s.transition = 0 → same → ∃ t, exec (.powerState c) s = .next t ∧ Replied s t c 0 (refuserBytes 0 0) ∧ Spoke s t)
    ∧ (s.transition = 0 → ¬same → offD = 0 → offT = 0 → ∃ t x, exec (.powerState c) s = .next t ∧ t.transition = 2 ∧ t.pw.exit = some x
      ∧ x.target = st ∧ t.replies = s.replies ∧ SameRegs [(.POWER_STAT, 0)] s t)
    ∧ (s.transition = 0 → ¬same → offD ≠ 0 ∨ offT ≠ 0 → s.entryRefused st offD offT = none → ∃ t e, exec (.powerState c) s = .next t
      ∧ t.transition = 1 ∧ t.pw.entry = some e ∧ e.target = st ∧ e.doms = offD ∧ e.tiles = offT ∧ e.draining = false ∧ t.replies = s.replies
      ∧ SameRegs [(.POWER_STAT, 0)] s t ∧ SameMemory s t)
    ∧ ∀ r i, s.transition = 0 → ¬same → offD ≠ 0 ∨ offT ≠ 0 → s.entryRefused st offD offT = some (r, i) → ∃ t, exec (.powerState c) s = .next t
      ∧ Replied s t c 0x24 (refuserBytes r i) ∧ t.reg .POWER_CNT (st * 6 + r) = (s.reg .POWER_CNT (st * 6 + r) + 1) % 2 ^ 32
      ∧ t.transition = 0 ∧ t.pw = s.pw)
  ∧ (∀ (s : State) (e : PwEntry), s.pw.entry = some e → e.draining = false →
    (s.gridRun = false ∨ (e.atBeat - 1) * 1024 + 1000 ≤ s.tm.absGrain → ∃ t, exec .entryDrainStart s = .next t
      ∧ t.pw.entry = some { e with draining := true } ∧ ∀ n < 64, bitAt e.tiles n = true → s.dieStat (n / 16) = 1 → t.reg .NOC_PORT n = 1)
    ∧ (s.gridRun = true → s.tm.absGrain < (e.atBeat - 1) * 1024 + 1000 → exec .entryDrainStart s = .next s))
  ∧ (∀ (s : State) (e : PwEntry) (u : Fin 74), s.pw.entry = some e → e.draining = true → e.units.contains u.val = true →
    e.drained.contains u.val = false →
    (s.unitQuiet u.val = true → ∃ t, exec (.drainComplete u) s = .next t ∧ t.pw.entry = some { e with drained := e.drained ++ [u.val] }
      ∧ (u.val < 64 → t.reg .NOC_PORT u.val = 2) ∧ t = { s with regs := t.regs, pw := t.pw })
    ∧ (s.unitQuiet u.val = false → exec (.drainComplete u) s = .next s)
    ∧ (e.target ≤ 4 → ∃ t, exec (.drainTimeout u) s = .next t ∧ t.pw.entry = none ∧ t.transition = 0 ∧ t.fld Fld.POWER_LAST_STATUS = 0x25
      ∧ t.fld Fld.POWER_LAST_STATE = e.target ∧ t.fld Fld.POWER_LAST_REFUSER = 0
      ∧ t.reg .POWER_CNT (e.target * 6) = (s.reg .POWER_CNT (e.target * 6) + 1) % 2 ^ 32))
  ∧ (∀ (s : State) (e : PwEntry), s.pw.entry = some e → e.draining = true → e.ports.all e.drained.contains = true →
    s.gridRun = false ∨ e.atBeat ≤ s.absBeat →
    (e.target ≤ 3 → ∃ t, exec .powerRemove s = .next t ∧ t.pwState = e.target ∧ t.pw.entry = none
      ∧ t.reg .POWER_DOM = andNot (s.reg .POWER_DOM) e.doms ∧ (∀ n < 64, bitAt e.tiles n = true → t.tileOn n = false)
      ∧ (e.wakeDoms = 0 → e.wakeTiles = 0 → t.transition = 0)
      ∧ (e.wakeDoms ≠ 0 ∨ e.wakeTiles ≠ 0 → t.transition = 2 ∧ ∃ x, t.pw.exit = some x ∧ x.target = e.target))
    ∧ (e.target = 4 → e.wakeDoms = 0 → e.wakeTiles = 0 → ∃ t, exec .powerRemove s = .next t ∧ t.pwState = 4 ∧ t.cave = [] ∧ t.pw.entry = none
      ∧ t.orders = []))
  ∧ (∀ (s : State) (x : PwExit), s.pw.exit = some x → x.target ≤ 4 → ∃ t, exec .powerExitDone s = .next t ∧ t.pwState = x.target
    ∧ t.transition = 0 ∧ t.pw.exit = none ∧ ∀ n < 64, bitAt x.tiles n = true → t.tileOn n = true)
  ∧ ∀ (s : State) (u : Fin 74), (s.pw.entry = none → exec .entryDrainStart s = .next s ∧ exec (.drainComplete u) s = .next s
      ∧ exec (.drainTimeout u) s = .next s ∧ exec .powerRemove s = .next s)
    ∧ (s.pw.exit = none → exec .powerExitDone s = .next s)

/-- Clock steps, pads, the power query, wakes and self-refresh. -/
def Obligations.PowerCommands : Prop :=
  (∀ (s : State) (c : CmdCtx), TakesNow s c → s.inTurn c = true → s.transition = 0 →
    let dm := u8 c.payload 0
    let st := u8 c.payload 1
    let needs := (maskList dm 4).find? (fun d => decide (st < s.stepOf d) && s.stepNeeded d st)
    c.payload.length = 4 → allZero (c.payload.drop 2) = true → dm ≠ 0 → dm ≤ 15 → st ≤ 3 →
    (needs = none → s.gridRun = true → ∃ t x, exec (.clockStep c) s = .next t
      ∧ t.transition = 3 ∧ t.pw.step = some x ∧ x.dies = dm ∧ x.step = st ∧ x.ctx = c ∧ t.replies = s.replies
      ∧ SameRegs [(.POWER_STAT, 0), (.POWER_STEP, 0)] s t)
    ∧ (needs = none → s.gridRun = false → ∃ t, exec (.clockStep c) s = .next t ∧ t.transition = 0 ∧ t.pw.step = none
      ∧ Replied s t c 0 (refuserBytes 0 0) ∧ SameRegs [(.POWER_STAT, 0), (.POWER_STEP, 0)] s t)
    ∧ ∀ d, needs = some d → ∃ t, exec (.clockStep c) s = .next t
      ∧ Replied s t c 0x24 (refuserBytes 1 (256 * d)) ∧ t.transition = 0 ∧ t.pw = s.pw)
  ∧ (∀ (s : State) (c : CmdCtx), TakesNow s c →
    (c.payload.length = 4 → u32 c.payload 0 < 1024 → ∃ t, exec (.padRelease c) s = .next t ∧ Replied s t c 0 []
      ∧ t.reg .POWER_PADS = andNot (s.reg .POWER_PADS) (u32 c.payload 0 &&& 0x181 &&& s.reg .POWER_DOM))
    ∧ (c.payload = [] → ∃ t, exec (.powerQuery c) s = .next t ∧ Replied s t c 0 s.powerQueryBytes ∧ Spoke s.used t))
  ∧ (∀ (s : State) (v : Word) (src : Source), (∀ n, src ≠ .vf n) → s.bt.stopped = false → s.pwState ≤ 3 →
    let st := v.toNat % 8
    let g := pwTarget st 0 0
    let off := andNot (s.reg .POWER_DOM) g.1 = 0 ∧ andNot s.tilesOn g.2 = 0
    let refused := s.entryRefused st (andNot (s.reg .POWER_DOM) g.1) (andNot s.tilesOn g.2)
    (s.pwState = 3 → s.transition = 0 → st = 0 ∨ st = 2 ∨ st = 4 →
      (off → ∃ t x, exec (.powerWake v src) s = .next t ∧ t.transition = 2
        ∧ t.pw.exit = some x ∧ x.target = st ∧ SameRegs [(.POWER_STAT, 0)] s t ∧ t = { s with regs := t.regs, pw := t.pw })
      ∧ (¬off → refused = none → ∃ t e, exec (.powerWake v src) s = .next t ∧ t.transition = 1 ∧ t.pw.entry = some e ∧ e.target = st
        ∧ SameRegs [(.POWER_STAT, 0)] s t)
      ∧ (¬off → ∀ r i, refused = some (r, i) → ∃ t, exec (.powerWake v src) s = .next t ∧ t.pw = s.pw
        ∧ t.reg .POWER_CNT (st * 6 + r) = (s.reg .POWER_CNT (st * 6 + r) + 1) % 2 ^ 32))
    ∧ (s.pwState ≠ 3 ∨ s.transition ≠ 0 ∨ (st ≠ 0 ∧ st ≠ 2 ∧ st ≠ 4) →
      exec (.powerWake v src) s = .next (s.werr (RegId.offset .POWER_WAKE) src)))
  ∧ ∀ (s : State) (n : Fin 4), (s.pwState = 2 → ∃ t, exec (.hbmSelfRefreshEntry n) s = .next t ∧ bitAt t.pw.refresh n.val = true
      ∧ t = { s with pw := { s.pw with refresh := t.pw.refresh } })
    ∧ (s.pwState ≠ 2 → exec (.hbmSelfRefreshEntry n) s = .next s)

/-- Feeds, temperatures and the isolation of a die. -/
def Obligations.FeedsAndIsolation : Prop :=
  (∀ (s : State) (f : Fin 2) (mv : Nat), feedOk mv = false → bitAt (s.fld Fld.POWER_FEED_FEEDS) f.val = true →
    ∃ t, exec (.feedLost f mv) s = .next t ∧ bitAt (t.fld Fld.POWER_FEED_FEEDS) f.val = false ∧ Logged s t 0x0110 1 f.val mv 0)
  ∧ (∀ (s : State) (f : Fin 2) (mv : Nat), feedOk mv = true → bitAt (s.fld Fld.POWER_FEED_FEEDS) f.val = false →
    ∃ t, exec (.feedRestored f mv) s = .next t ∧ bitAt (t.fld Fld.POWER_FEED_FEEDS) f.val = true ∧ Logged s t 0x0111 0 f.val mv 0
      ∧ t.pw.powerFail = false)
  ∧ (∀ (s : State) (a b : Nat), a < 36000 → b < 36000 → ∃ t, exec (.powerFail a b) s = .next t ∧ t.fld Fld.POWER_FEED_FEEDS % 4 = 0
      ∧ t.pw.powerFail = true ∧ Logged s t 0x0112 3 0xFF (max a b) 0)
  ∧ (∀ (s : State) (mv : Nat), mv < 33000 → ∃ t, exec (.supplyCollapse mv) s = .next t ∧ t.cave = [] ∧ t.orders = [] ∧ t.tm.ns = 0
      ∧ t.mgmtKey = s.mgmtKey ∧ t.kp.slots = s.kp.slots ∧ t.pending = s.pending)
  ∧ (∀ (s : State) (mv : Nat), 33000 ≤ mv → exec (.supplyCollapse mv) s = .next s)
  ∧ (∀ (s : State) (f : Fin 2) (mv : Nat), (feedOk mv = true ∨ bitAt (s.fld Fld.POWER_FEED_FEEDS) f.val = false → exec (.feedLost f mv) s = .next s)
      ∧ (feedOk mv = false ∨ bitAt (s.fld Fld.POWER_FEED_FEEDS) f.val = true → exec (.feedRestored f mv) s = .next s))
  ∧ (∀ (s : State) (a b : Nat), 36000 ≤ a ∨ 36000 ≤ b → exec (.powerFail a b) s = .next s)
  ∧ (∀ (s : State) (d : Fin 4) (temp : Int), s.dieStat d.val = 1 ∨ s.dieStat d.val = 3 → 110000 ≤ temp → ∃ t, exec (.thermalTrip d temp) s = .next t
      ∧ t.dieStat d.val = 2 ∧ bits (t.reg .GLOBAL_ISO_CAUSE) (8 * d.val + 7) (8 * d.val) = 4)
  ∧ (∀ (s : State) (d : Fin 4) (temp : Int), temp < 110000 ∨ s.dieStat d.val = 0 ∨ s.dieStat d.val = 2 → exec (.thermalTrip d temp) s = .next s)
  ∧ (∀ (s : State) (temp : Int), temp < 110000 → exec (.hubThermalTrip temp) s = .next s)
  ∧ (∀ (s : State) (temp : Int), 110000 ≤ temp → ∃ t, exec (.hubThermalTrip temp) s = .next t ∧ Logged s t 0x0116 3 4 (enc 32 temp) 0
      ∧ Spoke s t ∧ t.mg.smbAlert = true)
  ∧ (∀ (s : State) (d : Fin 4) (cause : Fin 6), s.dieStat d.val = 1 ∨ s.dieStat d.val = 3 → ∃ t, exec (.dieIsolation d cause) s = .next t
      ∧ t.dieStat d.val = 2 ∧ bits (t.reg .GLOBAL_ISO_CAUSE) (8 * d.val + 7) (8 * d.val) = cause.val + 1 ∧ t.reg .DL_PORT d.val = 3
      ∧ (∀ e, e < 4 → e ≠ d.val → t.dieStat e = s.dieStat e) ∧ (∀ n, n / 64 = d.val → t.core n = {}) ∧ ∀ n, n / 16 = d.val → t.bmu n = {})
  ∧ ∀ (s : State) (d : Fin 4) (cause : Fin 6), s.dieStat d.val = 0 ∨ s.dieStat d.val = 2 → exec (.dieIsolation d cause) s = .next s

/-- The PMBus interface and its LINEAR11 words. -/
def Obligations.PmbusCommands : Prop :=
  (∀ s : State, s.pmOn = true →
    exec .statusWord s = .next { s with reads := s.reads ++ [leBytes 2 s.pmStatus] }
    ∧ (∃ t, exec .readVin s = .next t ∧ t = { s with reads := s.reads ++ [s.pmValue (s.sensorValue s.pw.page)], freeCtr := s.freeCtr + 2 })
    ∧ (∃ t, exec .readIin s = .next t ∧ t = { s with reads := s.reads ++ [s.pmValue (s.sensorValue (2 + s.pw.page))], freeCtr := s.freeCtr + 2 })
    ∧ (∃ t, exec .readPin s = .next t ∧ t = { s with reads := s.reads ++ [s.pmValue (s.sensorValue 4)], freeCtr := s.freeCtr + 2 })
    ∧ (∀ k : Fin 3, ∃ t, exec (.readTemperature k) s = .next t ∧ t = { s with freeCtr := s.freeCtr + 2, reads := s.reads
        ++ [s.pmValue (if k.val = 0 then s.hottest 8 0xC else if k.val = 1 then s.hottest 0x10 0x13 else s.sensorValue 0x18)] })
    ∧ exec .mfrSerial s = .next { s with reads := s.reads ++ [leBytes 8 s.kp.serial] }
    ∧ (∀ f : Fin 2, exec (.page f) s = .next { s with pw := { s.pw with page := f.val } })
    ∧ exec .clearFaults s = .next { s with mg := { s.mg with smbAlert := false } })
  ∧ (∀ s : State, s.pmOn = false → (∀ k, exec (.readTemperature k) s = .next s.used2) ∧ exec .readVin s = .next s.used2
    ∧ exec .readIin s = .next s.used2 ∧ exec .readPin s = .next s.used2 ∧ exec .statusWord s = .next s ∧ exec .mfrSerial s = .next s ∧ exec .clearFaults s = .next s
    ∧ ∀ f : Fin 2, exec (.page f) s = .next s)
  ∧ ∀ (s : State) (v : Int), -1000000000 ≤ v → v ≤ 1000000000 → ∃ n y : Int, -16 ≤ n ∧ n ≤ 15 ∧ -1024 ≤ y ∧ y ≤ 1023
    ∧ s.pmValue v = leBytes 2 (enc 5 n * 2048 + enc 11 y)
    ∧ (0 ≤ n → (y * 2 ^ n.toNat * 1000 - v).natAbs < 2 ^ n.toNat * 1000)
    ∧ (n < 0 → (y * 1000 - v * 2 ^ (-n).toNat).natAbs < 1000)

/-- Triggers and module resets. -/
def Obligations.TriggersAndResets : Prop :=
  (∀ (s : State) (a b : Nat), s.bt.started = false → s.pwState ≠ 4 → feedOk a = true ∨ feedOk b = true → ∃ t, exec (.powerOn a b) s = .next t
    ∧ t.bt.started = true ∧ t.bootDone 1 = true ∧ t.fld Fld.GLOBAL_RESET_CAUSE_CAUSE = 0 ∧ bitAt (t.fld Fld.POWER_FEED_FEEDS) 0 = feedOk a
    ∧ bitAt (t.fld Fld.POWER_FEED_FEEDS) 1 = feedOk b ∧ t.fld Fld.GLOBAL_BOOT_STEP = 1)
  ∧ (∀ (s : State) (a b : Nat), s.bt.started = true ∨ s.pwState = 4 ∨ (feedOk a = false ∧ feedOk b = false) → exec (.powerOn a b) s = .next s)
  ∧ (∀ s : State, s.bt.perst = false →
    (s.bt.started = true → s.pwState ≠ 4 → ∃ t, exec .perstRelease s = .next t ∧ t.bt.perst = true ∧ t.bootDone 5 = true
      ∧ (s.lr.loadEnded = false → t.lr.window = true ∧ t.sspFlag 3 = true)
      ∧ (s.lr.loadEnded = true → s.lr.load = none → (∀ p < 5, s.lrState p = 0 ∨ s.lrState p = 3) →
        t.lr.window = false ∧ t.lr.closed = true ∧ t.sspFlag 3 = false))
    ∧ (s.pwState = 4 → ∃ t, exec .perstRelease s = .next t ∧ t.bt.perst = true ∧ t.bt.started = true ∧ t.pwState = 0 ∧ t.reg .POWER_PADS = 0
      ∧ t.fld Fld.GLOBAL_RESET_CAUSE_CAUSE = 1 ∧ (s.lr.loadEnded = false → t.lr.window = true))
    ∧ (s.bt.started = false → s.pwState ≠ 4 → exec .perstRelease s = .next { s with bt := { s.bt with perst := true } }))
  ∧ (∀ s : State, s.bt.perst = true → exec .perstRelease s = .next s)
  ∧ (∀ s : State, (s.bt.started = true → s.pwState ≠ 4 →
      exec .perstAssert s = .next { s with bt := { s.bt with perst := false, resetAt := some (2, s.tm.ns) } })
    ∧ (s.bt.started = false ∨ s.pwState = 4 → exec .perstAssert s = .next { s with bt := { s.bt with perst := false } }))
  ∧ (∀ (s : State) (src : Source), Reach s src →
    (s.bt.resetAt = none → exec (.moduleResetRequest src) s = .next { s with bt := { s.bt with resetAt := some (3, s.tm.ns + 1000000) } })
    ∧ (s.bt.resetAt ≠ none → exec (.moduleResetRequest src) s = .next s))
  ∧ (∀ s : State, s.bt.resetAt = none → exec .moduleReset s = .next s)
  ∧ ∀ (s : State) (c at1 : Nat), s.bt.resetAt = some (c, at1) →
    (at1 ≤ s.tm.ns → c < 8 → ∃ t, exec .moduleReset s = .next t ∧ t.pwState = 0 ∧ t.reg .POWER_DOM = 2 ∧ t.tilesOn = 0 ∧ t.cave = []
      ∧ t.orders = [] ∧ t.gridRun = false ∧ t.tm.ns = s.tm.ns ∧ t.mgmtKey = s.mgmtKey ∧ t.fld Fld.GLOBAL_RESET_CAUSE_CAUSE = c
      ∧ t.bt.resetAt = none)
    ∧ (s.tm.ns < at1 → exec .moduleReset s = .next s)

/-- The steps of start-up and their stops. -/
def Obligations.StartupSteps : Prop :=
  (∀ s : State,
    (s.bootDone 1 = true → s.bootDone 2 = false → s.bt.stopped = false → s.bt.retry = false →
      (∃ t, exec (.railSequence none) s = .next t ∧ t.reg .POWER_DOM = 0x3FF ∧ t.tilesOn = 2 ^ 64 - 1 ∧ t.reg .GLOBAL_DIESTAT = 0xFF
        ∧ t.bootDone 2 = true)
      ∧ (∀ code unit, s.fld Fld.GLOBAL_BOOT_ATTEMPT < 2 → ∃ t, exec (.railSequence (some (code, unit))) s = .next t ∧ t.bt.retry = true
        ∧ t.reg .POWER_DOM = 0 ∧ t.tilesOn = 0 ∧ t.fld Fld.GLOBAL_BOOT_ATTEMPT = s.fld Fld.GLOBAL_BOOT_ATTEMPT + 1)
      ∧ ∀ code unit, 2 ≤ s.fld Fld.GLOBAL_BOOT_ATTEMPT → ∃ t, exec (.railSequence (some (code, unit))) s = .next t ∧ t.bt.stopped = true
        ∧ t.fld Fld.GLOBAL_BOOT_FAIL = (if code = 2 then 2 else 1))
    ∧ (s.bootDone 1 = false ∨ s.bootDone 2 = true ∨ s.bt.stopped = true ∨ s.bt.retry = true → ∀ f, exec (.railSequence f) s = .next s))
  ∧ (∀ s : State, exec .railRetry s = .next { s with bt := { s.bt with retry := false } })
  ∧ (∀ s : State, s.bootDone 2 = true → s.bt.stopped = false →
    (s.bootDone 3 = false → (∃ t, exec (.bootSelftest true true) s = .next t ∧ t.bootDone 3 = true)
      ∧ (∀ k, ∃ t, exec (.bootSelftest false k) s = .next t ∧ t.bt.stopped = true ∧ t.fld Fld.GLOBAL_BOOT_FAIL = 3)
      ∧ ∃ t, exec (.bootSelftest true false) s = .next t ∧ t.bt.stopped = true ∧ t.fld Fld.GLOBAL_BOOT_FAIL = 4)
    ∧ (∃ t, exec .goldenFillDone s = .next t ∧ t.fld Fld.ECC_FILL_GOLDEN = 1 ∧ (s.bootDone 3 = true → t.sspFlag 0 = true) ∧ RegsOnly s t)
    ∧ (s.bootDone 4 = false → (s.fld Fld.ECC_FILL_GOLDEN = 1 → ∃ t, exec (.memoryFillDone none) s = .next t ∧ t.fld Fld.ECC_FILL_DONE = 1
        ∧ t.fld Fld.ECC_FILL_PERCENT = 100 ∧ t.bootDone 4 = true)
      ∧ (s.fld Fld.ECC_FILL_GOLDEN = 0 → exec (.memoryFillDone none) s = .next s)
      ∧ ∀ st, ∃ t, exec (.memoryFillDone (some st)) s = .next t ∧ t.bt.stopped = true ∧ t.fld Fld.GLOBAL_BOOT_FAIL = 5
        ∧ t.fld Fld.GLOBAL_BOOT_UNIT = st.val))
  ∧ (∀ s : State, (s.bootDone 2 = false ∨ s.bt.stopped = true →
      (∀ a b, exec (.bootSelftest a b) s = .next s) ∧ exec .goldenFillDone s = .next s ∧ ∀ f, exec (.memoryFillDone f) s = .next s)
    ∧ (s.bootDone 3 = true → ∀ a b, exec (.bootSelftest a b) s = .next s) ∧ (s.bootDone 4 = true → ∀ f, exec (.memoryFillDone f) s = .next s)
    ∧ (s.bootDone 3 = false ∨ s.bootDone 8 = true ∨ s.bt.stopped = true ∨ s.fld Fld.ECC_FILL_DONE = 0 → exec .stewardBankStart s = .next s)
    ∧ (s.bootDone 8 = false ∨ s.bootDone 9 = true ∨ s.bt.stopped = true → ∀ f, exec (.dieRelease f) s = .next s))
  ∧ (∀ s : State, s.bootDone 3 = true → s.bootDone 8 = false → s.bt.stopped = false → s.fld Fld.ECC_FILL_DONE = 1 → s.mg.banks.length = 2 →
    (s.bank s.runBank).state ≠ 3 →
    (∀ m, s.bankChoice = some m → (s.verifyBank (s.bank m).data).1 = true → ∃ t, exec .stewardBankStart s = .next t
      ∧ t.fld Fld.STEWARD_STAT_STATE = 1 ∧ t.runBank = m ∧ t.bootDone 8 = true ∧ t.fld Fld.GLOBAL_BOOT_FAIL ≠ 6
      ∧ ∀ q < 256, t.reg .Q_CFG q = sysQueueCfg q)
    ∧ (∀ m, s.bankChoice = some m → (s.verifyBank (s.bank m).data).1 = false → ∃ t, exec .stewardBankStart s = .next t
      ∧ (t.bank m).state = 5 ∧ ((s.bank (1 - m)).state ≠ 4 → t.fld Fld.GLOBAL_BOOT_FAIL = 6)
      ∧ t.fld Fld.STEWARD_STAT_STATE = s.fld Fld.STEWARD_STAT_STATE)
    ∧ (s.bankChoice = none → ∃ t, exec .stewardBankStart s = .next t ∧ t.fld Fld.GLOBAL_BOOT_FAIL = 6
      ∧ t.fld Fld.STEWARD_STAT_STATE = s.fld Fld.STEWARD_STAT_STATE))
  ∧ ∀ (s : State) (fails : Fin 16), s.bootDone 8 = true → s.bootDone 9 = false → s.bt.stopped = false → s.reg .GLOBAL_DIESTAT = 0xFF →
    ∃ t, exec (.dieRelease fails) s = .next t ∧ t.bootDone 9 = true ∧ ∀ d < 4, t.dieStat d = if bitAt fails.val d then 2 else 1

/-- Re-admission of dies and function level resets. -/
def Obligations.ReadmissionAndFlr : Prop :=
  (∀ (s : State) (v : Fin 16) (src : Source), Reach s src → ∃ t, exec (.readmit v src) s = .next t ∧ ∀ d < 4,
    (bitAt v.val d = false → t.dieStat d = s.dieStat d)
    ∧ (bitAt v.val d = true → s.dieStat d = 2 → s.transition = 0 →
      bits (s.reg .GLOBAL_ISO_CAUSE) (8 * d + 7) (8 * d) ≠ 4 ∨ (s.mg.sensors.getD (9 + d) {}).value ≤ 100000 →
      t.dieStat d = 3 ∧ bitAt t.bt.readmit d = true ∧ bitAt (t.fld Fld.GLOBAL_DIE_CTRL_REFUSED) d = false)
    ∧ (bitAt v.val d = true → s.dieStat d ≠ 2 ∨ s.transition ≠ 0
      ∨ (bits (s.reg .GLOBAL_ISO_CAUSE) (8 * d + 7) (8 * d) = 4 ∧ 100000 < (s.mg.sensors.getD (9 + d) {}).value) → t.dieStat d = s.dieStat d
      ∧ bitAt (t.fld Fld.GLOBAL_DIE_CTRL_REFUSED) d = true))
  ∧ (∀ (s : State) (d : Fin 4) (ok : Bool), bitAt s.bt.readmit d.val = false → exec (.readmitDone d ok) s = .next s)
  ∧ (∀ (s : State) (d : Fin 4), bitAt s.bt.readmit d.val = true → s.dieStat d.val = 3 →
    (∃ t, exec (.readmitDone d true) s = .next t ∧ t.dieStat d.val = 1 ∧ bitAt t.bt.readmit d.val = false ∧ Logged s t 0x0131 0 d.val 0 0
      ∧ ∀ a, a / 2 ^ 21 / 16 = d.val → Sparse.get 0 t.vm a = 0 ∧ Sparse.get 0 t.tsm a = 0)
    ∧ ∃ t, exec (.readmitDone d false) s = .next t ∧ t.dieStat d.val = 2 ∧ bitAt t.bt.readmit d.val = false)
  ∧ (∀ (s : State) (f : Fin 16), ∃ t, exec (.flr f) s = .next t ∧ f.val ∈ t.flr ∧ (f.val = 0 → ∀ g < 16, g ∈ t.flr)
    ∧ (∀ q < 4096, s.qOwner q = f.val → s.qState q = 1 → t.qState q = 2)
    ∧ ∀ p < 256, s.fld Fld.CMD_PAIR_CFG_EN p = 1 → s.qOwner (s.fld Fld.CMD_PAIR_CFG_ORDER_Q p) = f.val → t.fld Fld.CMD_PAIR_CFG_EN p = 0)
  ∧ (∀ s : State, ∃ t, exec .pcieHotReset s = .next t ∧ ∀ g < 16, g ∈ t.flr)
  ∧ ∀ (s : State) (f : Fin 16), (f.val ∈ s.flr → (∀ q < 4096, s.qOwner q = f.val → s.reg .Q_HELD q = 0) →
      ∃ t, exec (.flrComplete f) s = .next t ∧ f.val ∉ t.flr ∧ ∀ g, g ≠ f.val → (g ∈ t.flr ↔ g ∈ s.flr))
    ∧ (f.val ∉ s.flr ∨ (∃ q < 4096, s.qOwner q = f.val ∧ s.reg .Q_HELD q ≠ 0) → exec (.flrComplete f) s = .next s)

/-- The keeper's commands and the lifecycle. -/
def Obligations.KeeperCommands : Prop :=
  (∀ (s : State) (c : CmdCtx), TakesNow s c →
    let p := c.payload
    (4 ≤ p.length → u16 p 2 ≤ 2048 → p.length = ceilDiv (credLen p) 4 * 4 → u8 p 0 ≤ 3 → u8 p 1 ≤ 15 → allZero (p.drop (credLen p)) = true →
      (u8 p 0 = 2 → u16 p 2 = 97 ∧ bitAt (s.fld Fld.KEEPER_STAT_SLOTS) (u8 p 1) = false ∧ bitAt (s.reg .KEEPER_REVOKED) (u8 p 1) = false) →
      (s.lifecycle ≤ 1 → allZero (slice p (4 + u16 p 2) 96) = true → ∃ t, exec (.credInstall c) s = .next t ∧ Replied s t c 0 []
        ∧ (u8 p 0 = 0 → t.kp.credNext = some (slice p 4 (u16 p 2)) ∧ t.fld Fld.KEEPER_STAT_CRED = 1)
        ∧ (u8 p 0 = 1 → t.kp.cert = slice p 4 (u16 p 2))
        ∧ (u8 p 0 = 2 → Sparse.get [] t.kp.slots (u8 p 1) = slice p 4 97 ∧ bitAt (t.fld Fld.KEEPER_STAT_SLOTS) (u8 p 1) = true)
        ∧ (u8 p 0 = 3 → bitAt (t.reg .KEEPER_REVOKED) (u8 p 1) = true ∧ bitAt (t.fld Fld.KEEPER_STAT_SLOTS) (u8 p 1) = false))
      ∧ (s.lifecycle = 2 → (u8 p 0 = 3 → u8 p 1 ≠ 0) → ∃ t, exec (.credInstall c) s = .next t ∧ t.kp.checks = s.kp.checks ++ [c]
        ∧ t.fld Fld.KEEPER_STAT_BUSY = 1 ∧ t.replies = s.replies))
    ∧ (p.length = 48 → s.lifecycle ≠ 3 → ∃ t, exec (.mgmtKeyInstall c) s = .next t ∧ Replied s t c 0 [] ∧ t.mgmtKey = p
      ∧ t.fld Fld.KEEPER_STAT_MGMT_KEY = 1 ∧ t.mg.portCounter = 0)
    ∧ (p = [] → ∃ t, exec (.keeperQuery c) s = .next t ∧ Replied s t c 0 s.keeperBytes ∧ Spoke s t)
    ∧ (p.length = 4 → allZero (p.drop 1) = true → s.lifeOk (u8 p 0) = true → s.transition = 0 → s.fld Fld.KEEPER_STAT_BUSY = 0 →
      ∃ t, exec (.lifecycleSet c) s = .next t ∧ t.kp.lifeCtx = some (c, u8 p 0) ∧ t.fld Fld.KEEPER_STAT_BUSY = 1 ∧ t.replies = s.replies
        ∧ t.lifecycle = s.lifecycle))
  ∧ (∀ (s : State) (c : CmdCtx) (st : Nat), s.fld Fld.STEWARD_STAT_STATE = 1 → st < 4 → s.kp.lifeCtx = some (c, st) →
    ∃ t pre tr, exec .fuseWriteDone s = .next t ∧ t.lifecycle = st ∧ t.kp.lifeCtx = none
      ∧ t.kp.wipe = (st == 3) ∧ (∀ n < 4, t.fld Fld.DBG_SESS_STATE n = 0) ∧ t.replies = s.replies ++ pre ++ [⟨c.src, replyPacket c 0 [] ++ tr⟩])
  ∧ (∀ s : State, s.kp.lifeCtx = none → exec .fuseWriteDone s = .next s)
  ∧ (∀ s : State, s.kp.wipe = true → ∃ t, exec .returnedWipe s = .next t ∧ t.mgmtKey = [] ∧ t.kp.slots = [] ∧ t.kp.cred = [] ∧ t.kp.cert = []
    ∧ t.kp.identity = [] ∧ t.fld Fld.KEEPER_STAT_SLOTS = 0 ∧ t.lifecycle = s.lifecycle ∧ t.fld Fld.GLOBAL_RESET_CAUSE_CAUSE = 4 ∧ t.cave = [])
  ∧ (∀ s : State, s.kp.wipe = false → exec .returnedWipe s = .next s)
  ∧ (∀ (s : State) (c : CmdCtx) (r : List CmdCtx), s.kp.checks = c :: r → ∃ t, exec .signatureCheckDone s = .next t
    ∧ t.kp.checks = r ∧ t.reg .KEEPER_CNT_VERIFY = (s.reg .KEEPER_CNT_VERIFY + 1) % 2 ^ 32
    ∧ (c.opcode = 0x500 → let p := c.payload
      let ok := (s.verifySig 4 0x10000 (leBytes 8 s.kp.serial ++ p.take (4 + u16 p 2)) (slice p (4 + u16 p 2) 96)).1
      (ok = true → Replied s t c 0 [] ∧ (u8 p 0 = 1 → t.kp.cert = slice p 4 (u16 p 2))
        ∧ (u8 p 0 = 2 → Sparse.get [] t.kp.slots (u8 p 1) = slice p 4 (u16 p 2)))
      ∧ (ok = false → (∃ pre tr, t.replies = s.replies ++ pre ++ [⟨c.src, replyPacket c 0x42 [] ++ tr⟩])
        ∧ t.kp.slots = s.kp.slots ∧ t.kp.cert = s.kp.cert ∧ t.kp.credNext = s.kp.credNext ∧ t.reg .KEEPER_REVOKED = s.reg .KEEPER_REVOKED)))
  ∧ ∀ s : State, s.kp.checks = [] → exec .signatureCheckDone s = .next s

/-- Debug sessions and test access. -/
def Obligations.DebugSessions : Prop :=
  (∀ (s : State) (c : CmdCtx), TakesNow s c →
    let p := c.payload
    let tr := transport c.src
    (p = [] → ∃ t b, exec (.dbgChallenge c) s = .next t ∧ Replied s t c 0 b ∧ b.length = 32
      ∧ (⟨tr.1, tr.2, b, s.tm.epochCount⟩ : Nonce) ∈ t.kp.nonces ∧ ∀ x ∈ t.kp.nonces, x.src = tr.1 → x.ip = tr.2 → x.bytes = b)
    ∧ (p.length = 160 → u64 p 0 = s.kp.serial →
      (∃ x ∈ s.kp.nonces, x.src = tr.1 ∧ x.ip = tr.2 ∧ x.bytes = slice p 8 32 ∧ s.tm.epochCount < x.epoch + 8) → 1 ≤ u8 p 40 → u8 p 40 ≤ 3 →
      (if u8 p 40 = 2 then u8 p 41 ≤ 63 else u8 p 41 = 0) → u16 p 42 ≠ 0 → allZero (slice p 48 16) = true →
      (u8 p 40 = 3 → s.lifecycle ≠ 1 ∧ s.lifecycle ≠ 2) → ∃ t, exec (.dbgOpen c) s = .next t ∧ t.kp.checks = s.kp.checks ++ [c]
        ∧ t.fld Fld.KEEPER_STAT_BUSY = 1 ∧ t.replies = s.replies ∧ SameRegs [(.KEEPER_STAT, 0)] s t
        ∧ ∀ x ∈ t.kp.nonces, x.src = tr.1 → x.ip = tr.2 → x.bytes ≠ slice p 8 32)
    ∧ (p.length = 160 → (∀ x ∈ s.kp.nonces, x.src = tr.1 → x.ip = tr.2 → x.bytes ≠ slice p 8 32) → ∃ t,
      exec (.dbgOpen c) s = .next t ∧ Replied s t c 0x21 [] ∧ t.reg .DBG_CNT_REFUSED = (s.reg .DBG_CNT_REFUSED + 1) % 2 ^ 32
        ∧ ∀ n, t.reg .DBG_SESS n = s.reg .DBG_SESS n)
    ∧ (p.length = 4 → allZero (p.drop 1) = true → u8 p 0 ≤ 3 → s.ownsSession c (u8 p 0) = true → ∃ t pre tr', exec (.dbgClose c) s = .next t
      ∧ t.fld Fld.DBG_SESS_STATE (u8 p 0) = 0 ∧ t.replies = s.replies ++ pre ++ [⟨c.src, replyPacket c 0 [] ++ tr'⟩])
    ∧ (p.length = 4 → allZero (p.drop 1) = true → u8 p 0 ≤ 3 → s.ownsSession c (u8 p 0) = false → ∃ t, exec (.dbgClose c) s = .next t
      ∧ Replied s t c 0x24 [] ∧ Spoke s t)
    ∧ (p = [] → ∃ t, exec (.dbgQuery c) s = .next t ∧ Spoke s t ∧ Replied s t c 0
        ((List.range 4).flatMap (fun n => leBytes 4 (s.reg .DBG_SESS n) ++ leBytes 4 (s.reg .DBG_SESS_SRC n)))))
  ∧ (∀ (s : State) (c : CmdCtx) (r : List CmdCtx), s.fld Fld.STEWARD_STAT_STATE = 1 → s.kp.checks = c :: r → c.opcode ≠ 0x21 → c.opcode ≠ 0x500 →
    let p := c.payload
    let ok := (s.verifySig 3 (u32 p 44) (p.take 64) (slice p 64 96)).1
    (∀ n, ok = true → u8 p 40 = 1 → u8 p 41 = 0 → s.transition = 0 → s.pwState ≤ 2 →
      (List.range 4).find? (fun n => s.fld Fld.DBG_SESS_STATE n == 0) = some n → ∃ t pre tr', exec .signatureCheckDone s = .next t
        ∧ t.fld Fld.DBG_SESS_STATE n = 2 ∧ t.fld Fld.DBG_SESS_LEVEL n = 1 ∧ t.fld Fld.DBG_SESS_EPOCHS_LEFT n = u16 p 42
        ∧ t.replies = s.replies ++ pre ++ [⟨c.src, replyPacket c 0 (leBytes 1 n ++ zeros 3 ++ leBytes 4 s.stamp) ++ tr'⟩])
    ∧ (ok = false → ∃ t pre tr', exec .signatureCheckDone s = .next t ∧ (∀ n, t.reg .DBG_SESS n = s.reg .DBG_SESS n)
      ∧ t.reg .DBG_CNT_REFUSED = (s.reg .DBG_CNT_REFUSED + 1) % 2 ^ 32
      ∧ t.replies = s.replies ++ pre ++ [⟨c.src, replyPacket c 0x42 [] ++ tr'⟩]))
  ∧ (∀ (s : State) (tile : Fin 64), s.kp.fills.contains tile.val = true → ∃ t, exec (.debugFillDone tile) s = .next t
    ∧ t.kp.fills = s.kp.fills.erase tile.val ∧ ∀ a, a / 2 ^ 21 = tile.val → Sparse.get 0 t.vm a = 0 ∧ Sparse.get 0 t.tsm a = 0)
  ∧ (∀ s : State, (∃ t, exec (.jtagInstruction .idcode) s = .next t ∧ t.kp.tap = some .idcode ∧ t.reads = s.reads ++ [leBytes 4 0x15120A63])
    ∧ (∀ i ∈ [JtagInstr.privateScan, .privateMemory],
      (s.levelActive 3 = true → exec (.jtagInstruction i) s = .next { s with kp := { s.kp with tap := some i } })
      ∧ (s.levelActive 3 = false → exec (.jtagInstruction i) s = .next { s with kp := { s.kp with tap := none } })))
  ∧ (∀ (s : State) (b : List Byte),
    (s.lifecycle = 0 ∨ s.lifecycle = 3 → exec (.uartInput b) s = .next { s with kp := { s.kp with console := s.kp.console ++ b } })
    ∧ (s.lifecycle = 1 ∨ s.lifecycle = 2 → exec (.uartInput b) s = .next s))
  ∧ ∀ (s : State) (v : Word) (src : Source), Reach s src → s.fld Fld.ECC_FLIP_CFG_ARM = 0 →
    (bitAt v.toNat 0 = true → s.flipAllowed (bits v.toNat 3 1) (bits v.toNat 12 4) = true → ∃ t, exec (.eccFlipArm v src) s = .next t ∧ RegsOnly s t
      ∧ t.fld Fld.ECC_FLIP_CFG_ARM = 1 ∧ SameRegs [(.ECC_FLIP_CFG, 0)] s t)
    ∧ (bitAt v.toNat 0 = true → s.flipAllowed (bits v.toNat 3 1) (bits v.toNat 12 4) = false →
      exec (.eccFlipArm v src) s = .next (s.werr (RegId.offset .ECC_FLIP_CFG) src))

/-- Queue settlement and the flow commands. -/
def Obligations.QueuesAndFlows : Prop :=
  (∀ s : State, s.qEnqs = [] → exec .queueSettle s = .next s)
  ∧ (∀ (s : State) (e : QEnq), s.qEnqs = [.put e] → e.desc.length = 32 → (∀ p x, e.producer ≠ .notice p x) →
    let q := e.queue
    let a := s.slotAddr q (s.reg .Q_TAIL q)
    let held := s.qState q ≠ 0 ∧ e.held ≠ 0
    let room := s.qState q = 1 ∧ 0 < s.qFree q
    (held ∨ room → ∃ t, exec .queueSettle s = .next t ∧ t.qEnqs = [] ∧ t.reg .Q_TAIL q = (s.reg .Q_TAIL q + 1) % (2 * s.qDepth q)
      ∧ t.reg .Q_HELD q = s.reg .Q_HELD q - e.held ∧ readBytes t.cave a 32 = e.desc
      ∧ (∀ b, b < a ∨ a + 32 ≤ b → Sparse.get 0 t.cave b = Sparse.get 0 s.cave b)
      ∧ (held ∨ (∀ d, e.producer ≠ .errorUnit d) → SameRegs [(.Q_TAIL, q), (.Q_HELD, q)] s t ∧ t.errs = s.errs)
      ∧ ∀ d, ¬held → e.producer = .errorUnit d → t.errs = setAt s.errs d ((s.errs.getD d []).drop 1))
    ∧ (¬held → ¬room → ∃ t, exec .queueSettle s = .next t ∧ t.reg .Q_TAIL q = s.reg .Q_TAIL q
      ∧ t.reg .Q_DROPS q = (s.reg .Q_DROPS q + 1) % 2 ^ 32
      ∧ (e.producer = .held ∨ (∃ d, e.producer = .errorUnit d) → t.errs = s.errs ∧ SameRegs [(.Q_DROPS, q)] s t ∧ SameMemory s t)))
  ∧ (∀ (s : State) (w : QIndex),
    (s.qEnqs = [.head w] → ∃ t, exec .queueSettle s = .next t ∧ t.cave = s.cave
      ∧ (s.headOk w.queue w.value = true → t.reg .Q_HEAD w.queue = w.value ∧ SameRegs [(.Q_HEAD, w.queue)] s t)
      ∧ (s.headOk w.queue w.value = false → t.reg .GLOBAL_WERR_CNT = (s.reg .GLOBAL_WERR_CNT + 1) % 2 ^ 32
        ∧ SameRegs [(.GLOBAL_WERR, 0), (.GLOBAL_WERR_CNT, 0)] s t))
    ∧ (s.qEnqs = [.tail w] → ∃ t, exec .queueSettle s = .next t ∧ t.cave = s.cave
      ∧ (s.tailOk w.queue w.value = true → t.reg .Q_TAIL w.queue = w.value ∧ SameRegs [(.Q_TAIL, w.queue)] s t)
      ∧ (s.tailOk w.queue w.value = false → t.reg .GLOBAL_WERR_CNT = (s.reg .GLOBAL_WERR_CNT + 1) % 2 ^ 32
        ∧ SameRegs [(.GLOBAL_WERR, 0), (.GLOBAL_WERR_CNT, 0)] s t))
    ∧ ∀ e, s.qEnqs = [.put e, .head w] → ∃ t u, exec .queueSettle { s with qEnqs := [.head w] } = .next u ∧ u.qEnqs = []
      ∧ exec .queueSettle { u with qEnqs := [.put e] } = .next t ∧ exec .queueSettle s = .next t)
  ∧ (∀ (s : State) (c : CmdCtx), TakesNow s c →
    (c.payload.length ≠ 8 → ∃ t, exec (.flowSetup c) s = .next t ∧ Replied s t c 0x22 [] ∧ Spoke s t)
    ∧ (c.payload.length ≠ 4 → (∃ t, exec (.flowRelease c) s = .next t ∧ Replied s t c 0x22 [] ∧ Spoke s t)
      ∧ ∃ t, exec (.flowQuery c) s = .next t ∧ Replied s t c 0x22 [] ∧ Spoke s t)
    ∧ (c.payload.length = 8 → flowArg c.payload = none ∨ 1023 < u16 c.payload 4 ∨ u16 c.payload 6 ≠ 0 →
      ∃ t, exec (.flowSetup c) s = .next t ∧ Replied s t c 0x21 [] ∧ Spoke s t)
    ∧ (c.payload.length = 4 → flowArg c.payload = none → (∃ t, exec (.flowRelease c) s = .next t ∧ Replied s t c 0x21 [] ∧ Spoke s t)
      ∧ ∃ t, exec (.flowQuery c) s = .next t ∧ Replied s t c 0x21 [] ∧ Spoke s t)
    ∧ ∀ f, flowArg c.payload = some f → let x := s.flow f
      (c.payload.length = 8 → u16 c.payload 4 ≤ 1023 → u16 c.payload 6 = 0 →
        (x.state = 0 → flowBlocks (u16 c.payload 4) ≤ s.genAvail → ∃ t, exec (.flowSetup c) s = .next t ∧ (t.flow f).state = 2
          ∧ (t.flow f).owner = c.issuer ∧ (t.flow f).sbBlocks = u16 c.payload 4
          ∧ t.blk.flow = s.blk.flow + flowBlocks (u16 c.payload 4) ∧ t.replies = s.replies ∧ (∀ g, g ≠ f → t.flow g = s.flow g)
          ∧ ⟨c, true⟩ ∈ t.mg.journal)
        ∧ (x.state = 0 → s.genAvail < flowBlocks (u16 c.payload 4) →
          ∃ t, exec (.flowSetup c) s = .next t ∧ Replied s t c 0x61 [] ∧ Spoke s t)
        ∧ (x.state ≠ 0 → ∃ t, exec (.flowSetup c) s = .next t ∧ Replied s t c 0x24 [] ∧ Spoke s t))
      ∧ (c.payload.length = 4 →
        let held := x.owner ≠ c.issuer ∨ x.state = 2 ∨ 0 < x.refs ∨ x.out = true
        (x.state = 0 → ∃ t, exec (.flowRelease c) s = .next t ∧ Replied s t c 0x21 [] ∧ Spoke s t)
        ∧ (x.state ≠ 0 → held → ∃ t, exec (.flowRelease c) s = .next t ∧ Replied s t c 0x24 [] ∧ Spoke s t)
        ∧ (x.state ≠ 0 → ¬held → ∃ t, exec (.flowRelease c) s = .next t ∧ t.flow f = {} ∧ (∀ g, g ≠ f → t.flow g = s.flow g)
          ∧ Replied s t c 0 [])
        ∧ let mine := c.issuer = 0 ∨ 15 < c.issuer ∨ (x.state ≠ 0 ∧ x.owner = c.issuer)
          (mine → ∃ t, exec (.flowQuery c) s = .next t ∧ Replied s t c 0 x.bytes ∧ Spoke s t)
          ∧ (¬mine → ∃ t, exec (.flowQuery c) s = .next t ∧ Replied s t c 0x24 [] ∧ Spoke s t)))
  ∧ ∀ (s : State) (c : CmdCtx) (x : Instr), x ∈ [.flowSetup c, .flowRelease c, .flowQuery c] →
    (s.fld Fld.STEWARD_STAT_STATE ≠ 1 → ∃ t, exec x s = .next t ∧ Replied s t c 0x25 [] ∧ Spoke s t)
    ∧ (s.fld Fld.STEWARD_STAT_STATE = 1 → s.stewardTurn c = false → exec x s = .next s)

/-- Image commands. -/
def Obligations.ImageCommands : Prop :=
  (∀ (s : State) (c : CmdCtx), s.inTurn c = true →
    (∀ st, s.imageLoadRefusal c.payload = some st → ∃ t, exec (.imageLoad c) s = .next t ∧ Replied s t c st (zeros 12) ∧ Spoke s t)
    ∧ (s.imageLoadRefusal c.payload = none → let n := u16 c.payload 0
      ∃ t, exec (.imageLoad c) s = .next t ∧ (t.image n).state = 1 ∧ (t.image n).loadCtx = some c ∧ (t.image n).loadLen = u32 c.payload 4
        ∧ (t.image n).blocks.length = ceilDiv (u32 c.payload 4) 4096 ∧ t.replies = s.replies ∧ ∀ m, m ≠ n → t.image m = s.image m))
  ∧ (∀ (s : State) (slot : Fin 256) (img : List Byte),
    ((s.image slot.val).state ≠ 1 ∨ (s.image slot.val).loadCtx = none → exec (.imageLoadComplete slot img) s = .next s)
    ∧ ∀ c, (s.image slot.val).state = 1 → (s.image slot.val).loadCtx = some c →
      let id := if 256 ≤ img.length then leBytes 4 (u32 img 8) ++ leBytes 4 (u32 img 12) else zeros 8
      let sized := u32 img 16 = (s.image slot.val).loadLen ∧ img.length = (s.image slot.val).loadLen
      let v := (s.verifySig 1 (u32 img 224) (imgSigned img) (slice img 128 96)).1
      let g := if (s.image slot.val).gen = 255 then 1 else (s.image slot.val).gen + 1
      let fails := fun st => ∃ t, exec (.imageLoadComplete slot img) s = .next t ∧ (t.image slot.val).state = 0
        ∧ (t.image slot.val).gen = (s.image slot.val).gen ∧ (t.image slot.val).bytes = [] ∧ (∀ m, m ≠ slot.val → t.image m = s.image m)
        ∧ Replied s t c st (zeros 4 ++ id)
      (¬sized → fails 0x22) ∧ (sized → imageOk img = false → fails 0x21) ∧ (sized → imageOk img = true → v = false → fails 0x42)
      ∧ (sized → imageOk img = true → v = true → ∃ t, exec (.imageLoadComplete slot img) s = .next t ∧ (t.image slot.val).state = 2
        ∧ (t.image slot.val).gen = g ∧ (t.image slot.val).bytes = img ∧ (∀ m, m ≠ slot.val → t.image m = s.image m)
        ∧ Replied s t c 0 (leBytes 2 (slot.val + 256 * g) ++ zeros 2 ++ id)))
  ∧ (∀ (s : State) (c : CmdCtx), s.inTurn c = true → c.payload.length = 4 →
    (∀ n, s.imageHandle (u16 c.payload 0) = some n →
      (u8 c.payload 2 ≤ 1 → u8 c.payload 3 = 0 → ∃ t, exec (.imageBlock c) s = .next t ∧ Replied s t c 0 []
        ∧ t.image n = { s.image n with state := if u8 c.payload 2 = 1 then 3 else 2 } ∧ ∀ m, m ≠ n → t.image m = s.image m)
      ∧ (u16 c.payload 2 = 0 → s.imageUsers n ≠ [] → ∃ t, exec (.imageRetire c) s = .next t ∧ Spoke s t
        ∧ Replied s t c 0x24 (leBytes 4 (s.imageUsers n).length ++ leBytes 4 (latestPromised (s.imageUsers n))))
      ∧ (u16 c.payload 2 = 0 → s.imageUsers n = [] → ∃ t, exec (.imageRetire c) s = .next t ∧ Replied s t c 0 (zeros 8)
        ∧ t.image n = { gen := (s.image n).gen } ∧ ∀ m, m ≠ n → t.image m = s.image m))
    ∧ (s.imageHandle (u16 c.payload 0) = none ∨ 1 < u8 c.payload 2 ∨ u8 c.payload 3 ≠ 0 →
      ∃ t, exec (.imageBlock c) s = .next t ∧ Replied s t c 0x21 [] ∧ Spoke s t)
    ∧ (s.imageHandle (u16 c.payload 0) = none ∨ u16 c.payload 2 ≠ 0 →
      ∃ t, exec (.imageRetire c) s = .next t ∧ Replied s t c 0x21 (zeros 8) ∧ Spoke s t)
    ∧ let n := u16 c.payload 0
      (n ≤ 255 → u16 c.payload 2 = 0 → ∃ t, exec (.imageQuery c) s = .next t ∧ Spoke s t
        ∧ Replied s t c 0 (leBytes 1 (s.image n).state ++ leBytes 1 (s.image n).gen ++ zeros 2 ++ leBytes 4 (s.imageUsers n).length
          ++ leBytes 4 (latestPromised (s.imageUsers n)) ++ leBytes 4 (u32 (s.image n).bytes 8) ++ leBytes 4 (u32 (s.image n).bytes 12)
          ++ leBytes 1 (u8 (s.image n).bytes 6) ++ zeros 3))
      ∧ (255 < n ∨ u16 c.payload 2 ≠ 0 → ∃ t, exec (.imageQuery c) s = .next t ∧ Replied s t c 0x21 [] ∧ Spoke s t))
  ∧ (∀ (s : State) (c : CmdCtx), s.inTurn c = true → c.payload.length ≠ 4 →
    (∃ t, exec (.imageBlock c) s = .next t ∧ Replied s t c 0x22 [] ∧ Spoke s t)
    ∧ (∃ t, exec (.imageRetire c) s = .next t ∧ Replied s t c 0x22 (zeros 8) ∧ Spoke s t)
    ∧ ∃ t, exec (.imageQuery c) s = .next t ∧ Replied s t c 0x22 [] ∧ Spoke s t)
  ∧ ∀ (s : State) (c : CmdCtx) (x : Instr), x ∈ [.imageLoad c, .imageBlock c, .imageRetire c, .imageQuery c] → s.inTurn c = false →
    exec x s = .next s

/-- Slot orders are refused, rejected or accepted. -/
def Obligations.SlotOrders : Prop :=
  (∀ (s : State) (c : CmdCtx) (p : Nat), s.inTurn c = true → c.src = .pair p →
    let sl := s.orderImage (u16 c.payload 0)
    let img := match sl with | some n => (s.image n).bytes | none => []
    let d := s.decideOrder (decInOf img c.payload) sl.isSome c.fetch
    (∀ st, s.rind c.issuer c.payload = some st → ∃ t, exec (.slotOrder c) s = .next t ∧ Replied s t c st (zeros 8 ++ leBytes 4 c.fetch)
      ∧ Spoke s t)
    ∧ (∀ st pool early, s.rind c.issuer c.payload = none → d = .rejected st pool early → ∃ t w, exec (.slotOrder c) s = .next t
      ∧ Replied s t c st (leBytes 4 w ++ leBytes 4 early ++ leBytes 4 c.fetch) ∧ t.orders = s.orders ∧ t.cal = s.cal ∧ t.curds = s.curds
      ∧ t.reg (rejCounter st) = (s.reg (rejCounter st) + 1) % 2 ^ 32 ∧ (∀ b i, pool = some (b, i) → w = b + i % 16 * 256 + 32768)
      ∧ (pool = none → w = 0))
    ∧ ∀ cal places promised, s.rind c.issuer c.payload = none → d = .accepted cal places promised → ∃ t h, exec (.slotOrder c) s = .next t
      ∧ Replied s t c 1 (leBytes 4 (mkStamp promised 1000) ++ leBytes 4 h ++ leBytes 4 c.fetch) ∧ h / 16384 = s.orderSeq
      ∧ t.orders.length = s.orders.length + 1 ∧ t.sentArmed = s.sentArmed + 1 ∧ t.cal = reserveAt cal promised 0x11 0 1
      ∧ t.reg .RENNET_ACCEPTS = (s.reg .RENNET_ACCEPTS + 1) % 2 ^ 32
      ∧ t.reg .Q_HELD (u16 c.payload 8) = s.reg .Q_HELD (u16 c.payload 8) + 1
      ∧ ∃ o ∈ t.orders, o.handle = h ∧ o.tag = c.tag ∧ o.func = c.issuer ∧ o.promised = mkStamp promised 1000)
  ∧ (∀ (s : State) (c : CmdCtx), s.inTurn c = true → (∀ p, c.src ≠ .pair p) → ∃ t, exec (.slotOrder c) s = .next t ∧ Replied s t c 0x20 []
    ∧ Spoke s t)
  ∧ ∀ (s : State) (c : CmdCtx), s.inTurn c = false → exec (.slotOrder c) s = .next s

/-- How an order ends, and the close of an input. -/
def Obligations.OrdersEnd : Prop :=
  (∀ (s : State) (n : Fin 16384) (outs : List AllocOut),
    (s.orderAt n.val = none → exec (.resultDelivery n outs) s = .next s ∧ exec (.sentinelFire n outs) s = .next s
      ∧ ∀ p, exec (.inputClose n p) s = .next s)
    ∧ ∀ o, s.orderAt n.val = some o →
      let sent := fun (u t : State) (flag job : _) => t.sentArmed = s.sentArmed - 1 ∧ t.sentFree = s.sentFree + 1
        ∧ (∀ x ∈ t.orders, x.handle ≠ o.handle) ∧ (∀ c ∈ t.curds, c.handle ≠ o.handle)
        ∧ ∃ x e, u.orderOf o.handle = some x ∧ .put e ∈ t.qEnqs ∧ e.queue = x.resultQ ∧ e.producer = .held ∧ e.held = 1
          ∧ e.msix = (if x.msix = 0xFFFF then none else some (x.func, x.msix)) ∧ e.desc.length = 32
          ∧ u8 e.desc 0 = orderStatus { x with fault := u.faulted x } false
            ((List.range x.allocs.length).map (u.recordStatus x (u.image x.slot).bytes false job))
          ∧ bitAt (u8 e.desc 1) 0 = flag
          ∧ slice e.desc 4 16 = leBytes 4 x.handle ++ leBytes 4 x.tag ++ leBytes 4 x.user ++ leBytes 4 x.promised
      (s.deliveringJob o = none → exec (.resultDelivery n outs) s = .next s)
      ∧ (∀ d, s.deliveringJob o = some d →
        ((∃ c ∈ s.curds, c.handle = o.handle ∧ c.addr ≠ d.addr ∧ c.freed = false) → exec (.resultDelivery n outs) s = .next s)
        ∧ ((∀ c ∈ s.curds, c.handle = o.handle → c.addr ≠ d.addr → c.freed = true) →
          (s.flr.contains o.func = true → exec (.resultDelivery n outs) s = .next (s.endCurd d.addr 0x10))
          ∧ (s.flr.contains o.func = false → s.orderOf o.handle = some o →
            ∃ t, exec (.resultDelivery n outs) s = .next t ∧ sent s t false (some d.addr))))
      ∧ (s.gridRun = true → s.beat = stampBeat o.promised → s.grain = 968 → o.remote = none →
        (s.flr.contains o.func = true → exec (.sentinelFire n outs) s = .next (s.cancelCurds o.handle))
        ∧ (s.flr.contains o.func = false → s.orderOf o.handle = some o →
          ∃ t, exec (.sentinelFire n outs) s = .next t ∧ sent (s.cancelCurds o.handle) t true none))
      ∧ (s.gridRun = false ∨ s.beat ≠ stampBeat o.promised ∨ s.grain ≠ 968 ∨ o.remote ≠ none → exec (.sentinelFire n outs) s = .next s))
  ∧ (∀ (s : State) (c : CmdCtx), s.inTurn c = true →
    let h := leBytes 4 (u32 c.payload 0)
    let said := fun (st : Nat) => ∃ t, exec (.orderCancel c) s = .next t ∧ Replied s t c st h ∧ Spoke s t
    ((∀ p, c.src ≠ .pair p) → ∃ t, exec (.orderCancel c) s = .next t ∧ Replied s t c 0x20 [] ∧ Spoke s t)
    ∧ ∀ p, c.src = .pair p →
      (c.payload.length ≠ 4 → said 0x22) ∧ (c.payload.length = 4 → s.orderOf (u32 c.payload 0) = none → said 0x21)
      ∧ ∀ o, c.payload.length = 4 → s.orderOf (u32 c.payload 0) = some o →
        (o.func ≠ c.issuer → said 0x21) ∧ (o.func = c.issuer → o.startedBefore c.fetch = true → said 0x24)
        ∧ (o.func = c.issuer → o.startedBefore c.fetch = false → ∃ t, exec (.orderCancel c) s = .next t
          ∧ (∀ x ∈ t.orders, x.handle ≠ o.handle) ∧ (∀ x ∈ t.curds, x.handle ≠ o.handle) ∧ Replied (s.cancelCurds o.handle) t c 0 h
          ∧ ∃ e, .put e ∈ t.qEnqs ∧ e.queue = o.resultQ ∧ e.held = 1 ∧ e.desc.length = 32 ∧ u8 e.desc 0 = 0x16
            ∧ slice e.desc 4 4 = leBytes 4 o.handle))
  ∧ (∀ (s : State) (c : CmdCtx), s.inTurn c = false → exec (.orderCancel c) s = .next s)
  ∧ ∀ (s : State) (n : Fin 16384) (p : Fin 16) (o : Order), s.orderAt n.val = some o →
    (o.input p.val = none → exec (.inputClose n p) s = .next s)
    ∧ ∀ i, o.input p.val = some i →
      (s.gridRun = false ∨ s.beat ≠ beatSub i.firstBeat 1 ∨ s.grain ≠ 1016 ∨ i.closed = true → exec (.inputClose n p) s = .next s)
      ∧ (s.gridRun = true → s.beat = beatSub i.firstBeat 1 → s.grain = 1016 → i.closed = false → (i.kind = 0 ∨ i.kind = 3 → Intact s) →
        ∃ t x j, exec (.inputClose n p) s = .next t ∧ t.orderAt n.val = some x ∧ x.input p.val = some j ∧ j.closed = true
          ∧ j.missing = !i.arrived)

/-- Stations release, select and stop curds. -/
def Obligations.StationsDispatch : Prop :=
  (∀ (s : State) (st : Fin 5),
    (s.gridRun = true → 1008 ≤ s.grain → s.stationOn st.val = true → ∃ t, exec (.heapRelease st) s = .next t
      ∧ t = { s with regs := t.regs, curds := t.curds, traces := t.traces, qEnqs := t.qEnqs } ∧ SameRegs [(.DISP_TRACE_DROPS, st.val)] s t
      ∧ t.curds = s.curds.map (fun c =>
          if s.curds.any (fun x => x.addr == c.addr && x.station == st.val && x.st == .held && x.beat == beatAdd s.beat 1) then
            { c with st := .released, relFault := !c.skip && c.dep != 0 } else c))
    ∧ (s.gridRun = false ∨ s.grain < 1008 ∨ s.stationOn st.val = false → exec (.heapRelease st) s = .next s))
  ∧ (∀ s : State,
    (s.gridRun = false ∨ (∀ st < 5, s.stationOn st = true → s.selectable st = []) → exec .dispatchSelect s = .next s)
    ∧ ∀ st c, s.gridRun = true → st < 5 → s.stationOn st = true → s.selectable st = [c] → s.curdAt c.addr = some c →
      (∀ k < 5, k ≠ st → s.stationOn k = true → s.selectable k = []) → c.cls ≤ 9 → (c.cls ≤ 5 → st < 4) → (2 ≤ c.cls → Intact s) →
      let free := (execsOf st c.cls).filter s.execFree
      let e := if hubJobClass c.cls = true then s.hubExec c else free.headD 0
      (hubJobClass c.cls = false → free = [] → exec .dispatchSelect s = .next s)
      ∧ (hubJobClass c.cls = true ∨ free ≠ [] →
        (c.hasFlow = false ∨ (s.flow c.flow).out = false → ∃ t x, exec .dispatchSelect s = .next t ∧ t.curdAt c.addr = some x ∧ x.exec = e
          ∧ x.startStamp = s.stamp ∧ x.token = c.hasFlow ∧ (c.cls ≤ 1 ∨ c.cls = 8 → x.st = .running)
          ∧ (c.cls = 0 → (t.core e).curd = some c.addr ∧ (t.core e).pc = c.entryOff ∧ t.fld Fld.CORE_STAT_STATE e = 2
            ∧ t.reg .CORE_CUR e = c.handle ∧ ∀ o, s.orderOf c.handle = some o → (t.core e).slot = o.slot)
          ∧ (c.hasFlow = true → (t.flow c.flow).out = true ∧ (t.flow c.flow).holder = e))
        ∧ (c.hasFlow = true → (s.flow c.flow).out = true → ∃ t x, exec .dispatchSelect s = .next t ∧ t.curdAt c.addr = some x ∧ x.st = .gated
          ∧ (t.flow c.flow).gateWaits = ((s.flow c.flow).gateWaits + 1) % 2 ^ 32 ∧ t.cores = s.cores ∧ SameMemory s t)))
  ∧ (∀ s : State, (s.gridRun = false → exec .hubJobOverrun s = .next s)
    ∧ (s.gridRun = true →
      let past := fun (c : Curd) => hubJobClass c.cls && beatBefore c.beat s.beat && (c.st == .running || c.st == .gated || c.st == .ready)
      (Intact s → ∃ t, exec .hubJobOverrun s = .next t ∧ ∀ c ∈ s.curds, past c = true → s.curdAt c.addr = some c →
        ∃ x, t.curdAt c.addr = some x ∧ x.st = .ended ∧ x.endStatus = 0x15)
      ∧ ((∀ p < 16, (s.port p).job = []) → ∃ t, exec .hubJobOverrun s = .next t ∧ SameRegs [(.DISP_UNSTARTED, 4)] s t ∧ SameMemory s t
        ∧ t.curds = s.curds.map (fun c =>
          if c.st ≠ .ended ∧ s.curds.any (fun x => x.addr == c.addr && past x) = true then c.ended s.stamp 0x15 else c))))
  ∧ (∀ s : State, (s.gridRun = false ∨ s.grain ≠ 1000 → exec .beatEndTrap s = .next s)
    ∧ (s.gridRun = true → s.grain = 1000 → (∀ c ∈ s.curds, c.cls ≤ 7 → c.st = .running → c.exec < 384 ∨ (448 ≤ c.exec ∧ c.exec ≤ 452)) →
      ∃ t, exec .beatEndTrap s = .next t ∧ SameMemory s t ∧ ∀ c ∈ s.curds, c.cls ≤ 7 →
      s.curdAt c.addr = some c →
      ((c.st = .ready ∨ c.st = .gated) ∨ (c.st = .running ∧ ((256 ≤ c.exec ∧ c.exec < 320 ∧ (s.bmu (c.exec - 256)).curd = some c.addr)
          ∨ (∃ n, engOfExec c.exec = some n ∧ (s.eng n).curd = some c.addr) ∨ ∃ n, pxOfExec c.exec = some n ∧ (s.px n).curd = some c.addr)) →
        t.curdAt c.addr = some (c.ended s.stamp 0x15))
      ∧ (c.st = .running → c.exec < 256 → (∀ k, (s.core c.exec).wait ≠ .stop k) →
        (t.core c.exec).wait = .stop 0x15 ∧ t.fld Fld.CORE_STAT_STATE c.exec = 3)))
  ∧ ∀ (s : State) (e : Fin 481), let run := s.curds.find? (fun c => c.exec == e.val && c.st == .running && c.cls ≤ 7)
    (run = none → exec (.budgetTrap e) s = .next s)
    ∧ ∀ c, run = some c →
      (s.grain < stampGrain c.startStamp + c.budget → exec (.budgetTrap e) s = .next s)
      ∧ (stampGrain c.startStamp + c.budget ≤ s.grain →
        (e.val < 256 → (∀ k, (s.core e.val).wait ≠ .stop k) → ∃ t, exec (.budgetTrap e) s = .next t ∧ (t.core e.val).wait = .stop 0x15
          ∧ t.fld Fld.CORE_STAT_STATE e.val = 3 ∧ SameRegs [(.CORE_STAT, e.val), (.CORE_CNT_SQUASH, e.val)] s t)
        ∧ (256 ≤ e.val → e.val < 320 → ∃ t, exec (.budgetTrap e) s = .next t ∧ (t.bmu (e.val - 256)).curd = none
          ∧ t.fld Fld.BMU_STAT_STATE (e.val - 256) = 1
          ∧ ∀ a x, (s.bmu (e.val - 256)).curd = some a → s.curdAt a = some x → x.st ≠ .ended → t.curdAt a = some (x.ended s.stamp 0x15))
        ∧ (∀ n a, engOfExec e.val = some n → (s.eng n).curd = some a → ∃ t, exec (.budgetTrap e) s = .next t ∧ (t.eng n).curd = none
          ∧ ∀ x, s.curdAt a = some x → x.st ≠ .ended → t.curdAt a = some (x.ended s.stamp 0x15))
        ∧ (∀ n a, pxOfExec e.val = some n → (s.px n).curd = some a → ∃ t, exec (.budgetTrap e) s = .next t ∧ (t.px n).curd = none
          ∧ ∀ x, s.curdAt a = some x → x.st ≠ .ended → t.curdAt a = some (x.ended s.stamp 0x15)))

/-- Completions and pre-staging. -/
def Obligations.CompletionsAndStaging : Prop :=
  (∀ (s : State) (st : Fin 5), (s.dueCompletions st.val = [] → exec (.completionProcess st) s = .next s)
    ∧ ∀ (c : Curd) (o : Order), s.dueCompletions st.val = [(false, c)] → s.orderOf c.handle = some o → s.curdAt c.addr = some c →
      (c.endStatus = 0x10 ∨ ∀ y ∈ s.curds, ∀ z ∈ s.curds, ∀ i < 64, canonAddr (y.args + i) / 64 * 64 ≠ z.addr) →
      let sc := imgSuccs (s.image o.slot).bytes (imgTaskAt (s.image o.slot).bytes c.task)
      ∃ t x, exec (.completionProcess st) s = .next t ∧ t.curdAt c.addr = some x ∧ x.freed = true ∧ x.status = c.endStatus ∧ x.st = .ended
      ∧ (c.token = true → (t.flow c.flow).out = false ∧ (t.flow c.flow).last = s.stamp ∧ (c.endStatus ≠ 0x10 → (t.flow c.flow).sbState = 2))
      ∧ ∀ y, s.curdAt y.addr = some y → y.handle = c.handle → y.addr ≠ c.addr → sc.any (fun z => z.1 == y.task) = true →
          ∃ z, t.curdAt y.addr = some z ∧ z.dep = y.dep - 1)
  ∧ (∀ (s : State) (d : Fin 4) (a : Nat) (c : Curd), s.curdAt a = some c →
    let may := s.fld Fld.DISP_CTRL_PRESTAGE d.val = 1 ∧ c.station = d.val ∧ c.cls ≤ 1 ∧ s.stationOn d.val = true ∧ c.staged = none
      ∧ (c.beat = s.beat ∨ c.beat = beatAdd s.beat 1) ∧ c.skip = false ∧ (c.st = .held ∨ c.st = .released ∨ c.st = .ready ∨ c.st = .gated)
    let head := stageExtents (s.caveRead c.args 80)
    (¬may ∨ head = none ∨ s.stageTile d.val = none ∨ (∃ xs, head = some xs ∧ ∃ x ∈ xs, s.stageEligible c x.2.2 = false) →
      exec (.prestage d a) s = .next s)
    ∧ ∀ xs tile, may → Intact s → head = some xs → s.stageTile d.val = some tile → (∀ x ∈ xs, s.stageEligible c x.2.2 = true) →
      ∃ t n y, exec (.prestage d a) s = .next t ∧ n < 4 ∧ n ∉ s.stageUsed tile ∧ t.curdAt a = some y ∧ y.staged = some (tile, n) ∧ y.st = c.st
      ∧ t.reg .DISP_STAGED d.val = (s.reg .DISP_STAGED d.val + 1) % 2 ^ 32 ∧ SameRegs [(.DISP_STAGED, d.val)] s t
      ∧ t.cave = s.cave ∧ t.vm = s.vm
      ∧ (∀ l x r, xs = l ++ x :: r → readBytes t.tsm (tile * 2 ^ 21 + 0x1C0000 + n * 0x10000 + (l.map (fun y => 64 * y.2.1)).sum) (64 * x.2.1)
          = s.caveRead x.1 (64 * x.2.1))
      ∧ ∀ k, k < tile * 2 ^ 21 + 0x1C0000 + n * 0x10000 ∨ tile * 2 ^ 21 + 0x1C0000 + (n + 1) * 0x10000 ≤ k →
          Sparse.get 0 t.tsm k = Sparse.get 0 s.tsm k)
  ∧ ∀ (s : State) (d : Fin 4) (a : Nat), s.curdAt a = none → exec (.prestage d a) s = .next s

/-- What a bundle leaves, and the exceptions of a fetch and of its words. -/
def Obligations.BundleIssue : Prop :=
  (∀ (s : State) (n : Fin 256) (cyc : Nat) (y : Fin 3),
    let c := s.core n.val
    let img := (s.image c.slot).bytes
    let ws := takeBundle 6 (s.codeWords c)
    let outs := s.bundleOuts n.val c ws cyc
    let next := c.pc + 4 * ws.length
    let c1 := outs.foldl (fun c o => o.1.wr.foldl Core.apply c) c
    let fetched := c.pc % 4 = 0 ∧ c.pc < u32 img 36 ∧ bundleOk c.pc ws = true
    let runs := c.wait = .none ∧ s.fld Fld.CORE_STAT_STATE n.val = 2
    let hit := fun (t : State) (cause slot : Nat) => t.reg .CORE_EXC n.val = cause + 256 * slot ∧ t.reg .CORE_EXC_PC n.val = c.pc
      ∧ t.reg .CORE_EXC_STAMP n.val = s.stamp ∧ t.reg .CORE_CNT_EXC n.val = (s.reg .CORE_CNT_EXC n.val + 1) % 2 ^ 32 ∧ SameMemory s t
      ∧ (runs → (t.core n.val).wait = .stop 0x12 ∧ t.fld Fld.CORE_STAT_STATE n.val = 3)
    (s.mayIssue n.val = false → ∀ err, exec (.bundleIssue n cyc err y) s = .next s)
    ∧ (s.mayIssue n.val = true →
      (fetched → c.stalls ws cyc = true → exec (.bundleIssue n cyc 0 y) s = .next s)
      ∧ (fetched → c.stalls ws cyc = false → firstExc outs = none → runs →
        ((∀ o ∈ outs, o.1.act = .none ∧ o.1.rd = []) → ∃ t, exec (.bundleIssue n cyc 0 y) s = .next t
          ∧ t.core n.val = { c1 with pc := next, cyc := cyc } ∧ t = { s with cores := t.cores, freeCtr := t.freeCtr }
          ∧ ∀ m, m ≠ n.val → t.core m = s.core m)
        ∧ (Intact s → ∃ t, exec (.bundleIssue n cyc 0 y) s = .next t ∧ (t.core n.val).s = c1.s ∧ (t.core n.val).v = c1.v
          ∧ (t.core n.val).p = c1.p ∧ (∀ m, m ≠ n.val → t.core m = s.core m)
          ∧ ∀ l o r, outs = l ++ o :: r → (∀ x ∈ l ++ r, x.1.act = .none) → (t.core n.val).pc = (match o.1.act with | .jump a => a | _ => next)))
      ∧ (Intact s → fetched → c.stalls ws cyc = false → ∀ e, firstExc outs = some e →
        ∃ t, exec (.bundleIssue n cyc 0 y) s = .next t ∧ hit t e.1 e.2)
      ∧ (Intact s → c.pc % 4 = 0 → c.pc < u32 img 36 →
        (bundleOk c.pc ws = false → ∃ t, exec (.bundleIssue n cyc 0 y) s = .next t
          ∧ hit t (if (ws.getLast?.map wEnd).getD false = true ∨ ws.length = 6 then 0x03 else 0x02) 0)
        ∧ (s.fld Fld.ECC_D_STORE_HANDLING (coreDie n.val) = 0 → ∃ t, exec (.bundleIssue n cyc 1 y) s = .next t ∧ hit t 0x01 0
          ∧ t.reg .ECC_D_CNT_UE (coreDie n.val) = (s.reg .ECC_D_CNT_UE (coreDie n.val) + 1) % 2 ^ 32))
      ∧ (Intact s → ∃ t, exec (.bundleIssue n cyc 2 y) s = .next t
          ∧ t.reg .ECC_D_CNT_CE (coreDie n.val) = (s.reg .ECC_D_CNT_CE (coreDie n.val) + 1) % 2 ^ 32)
      ∧ (c.pc % 4 ≠ 0 ∨ u32 img 36 ≤ c.pc → ∃ t, exec (.bundleIssue n cyc 0 y) s = .next t ∧ hit t 0x02 0)))
  ∧ ∀ (s : State) (c : Core) (w n slot cyc next : Nat), wMaj w = 0x02 →
    wordOut s n c w slot cyc next = { wr := [.s (wD w) (enc 32 ((natAt c.s (wA w) : Int) + sext 15 (bits w 14 0)) % 2 ^ 32)] }

/-- How a core's waits end. -/
def Obligations.CoreWaitsEnd : Prop :=
  (∀ (s : State) (n : Fin 256), ((∀ st, (s.core n.val).wait ≠ .give st) → exec (.giveEnd n) s = .next s)
    ∧ ((∀ st, (s.core n.val).wait ≠ .stop st) → exec (.curdStopEnd n) s = .next s)
    ∧ ((∀ k, (s.core n.val).wait ≠ .fence k) → exec (.fenceComplete n) s = .next s)
    ∧ ((s.core n.val).csts = [] → exec (.storePerformed n) s = .next s ∧ exec (.cstRefused n) s = .next s)
    ∧ (nextCmu (s.core n.val).cmu = none → ∀ rom, exec (.cmuOpComplete n rom) s = .next s))
  ∧ (∀ (s : State) (n : Fin 256) (st : Nat), (s.core n.val).wait = .give st →
    (s.coreQuiet n.val = true → Intact s → ∃ t, exec (.giveEnd n) s = .next t ∧ (t.core n.val).curd = none ∧ (t.core n.val).wait = .none
      ∧ t.fld Fld.CORE_STAT_STATE n.val = 2 ∧ t.reg .CORE_CUR n.val = 0
      ∧ ∀ a x, (s.core n.val).curd = some a → s.curdAt a = some x → x.st ≠ .ended → t.curdAt a = some (x.ended s.stamp
          (if (s.core n.val).wprot = true ∨ (s.core n.val).lateErr = true then 0x12 else st)))
    ∧ (s.coreQuiet n.val = false → exec (.giveEnd n) s = .next s))
  ∧ (∀ (s : State) (n : Fin 256) (st : Nat), (s.core n.val).wait = .stop st →
    let drained := (s.core n.val).cmu = [] ∧ s.tileBusy (coreTile n.val) (s.core n.val).curd = false
    (drained → Intact s → ∃ t, exec (.curdStopEnd n) s = .next t
      ∧ (t.core n.val).curd = none ∧ (t.core n.val).wait = .none ∧ t.fld Fld.CORE_STAT_STATE n.val = 1
      ∧ ∀ a x, (s.core n.val).curd = some a → s.curdAt a = some x → x.st ≠ .ended → t.curdAt a = some (x.ended s.stamp st))
    ∧ (¬drained → exec (.curdStopEnd n) s = .next s))
  ∧ (∀ (s : State) (n : Fin 256) (k : Nat), (s.core n.val).wait = .fence k →
    (s.fenceMet n.val k = true → Intact s → ∃ t, exec (.fenceComplete n) s = .next t ∧ (t.core n.val).wait = .none
      ∧ (k = 3 ∨ k = 6 → (t.core n.val).lbuf = [] ∧ ∀ l a b q, (s.core n.val).lbuf = l ++ [(a, b)] → localKey n.val a = some (2, q) →
        Sparse.get 0 t.vm q = b))
    ∧ (s.fenceMet n.val k = false → exec (.fenceComplete n) s = .next s))
  ∧ (∀ (s : State) (n : Fin 256) (x : CaveStore) (r : List CaveStore), (s.core n.val).csts = x :: r →
    (s.blockProtected x.addr = false → exec (.cstRefused n) s = .next s
      ∧ (Intact s → ∃ t, exec (.storePerformed n) s = .next t ∧ (t.core n.val).csts = r ∧ t.vm = s.vm ∧ t.tsm = s.tsm ∧ t.regs = s.regs
        ∧ (0x14000000 ≤ canonAddr x.addr → caveMapped (canonAddr x.addr) = true → canonAddr x.addr % 4096 + x.data.length ≤ 4096 →
          (∀ c ∈ s.curds, c.addr / 4096 ≠ canonAddr x.addr / 4096) → t.caveRead (canonAddr x.addr) x.data.length = x.data
          ∧ ∀ a, a < canonAddr x.addr ∨ canonAddr x.addr + x.data.length ≤ a → Sparse.get 0 t.cave a = Sparse.get 0 s.cave a)))
    ∧ (s.blockProtected x.addr = true → exec (.storePerformed n) s = .next s ∧ ∃ t, exec (.cstRefused n) s = .next t
      ∧ (t.core n.val).csts = r ∧ t.reg .CORE_EXC n.val = 0x09 ∧ t.reg .CORE_EXC_PC n.val = x.pc ∧ t.reg .CORE_EXC_STAMP n.val = s.stamp
      ∧ t.reg .CORE_CNT_EXC n.val = (s.reg .CORE_CNT_EXC n.val + 1) % 2 ^ 32 ∧ SameMemory s t
      ∧ (x.curd = (s.core n.val).curd → (t.core n.val).wprot = true)))
  ∧ ∀ (s : State) (n : Fin 256) (o : CmuOp), nextCmu (s.core n.val).cmu = some o →
    let c := s.core n.val
    let late := fun (t : State) => t.reg .CORE_LATE_PC n.val = o.pc ∧ t.reg .CORE_CNT_LATE n.val = (s.reg .CORE_CNT_LATE n.val + 1) % 2 ^ 32
      ∧ ((∀ k, c.wait ≠ .stop k) → (∀ k, c.wait ≠ .give k) → (t.core n.val).wait = .stop 0x12)
      ∧ ((∃ k, c.wait = .give k) → (t.core n.val).lateErr = true)
    (o.squashed = true → ∃ t, exec (.cmuOpComplete n 0) s = .next t ∧ t.core n.val = { c with cmu := c.cmu.erase o })
    ∧ (o.squashed = false →
      (o.flags = 0 ∨ bitAt c.cmucsr 0 = false →
        (∃ t, exec (.cmuOpComplete n 0) s = .next t ∧ t.core n.val = { c with
          cmu := c.cmu.erase o, v := if o.toV then modAt c.v o.dest o.over else c.v, c := if o.toV then c.c else modAt c.c o.dest o.over
          cmucsr := c.cmucsr ||| (o.flags * 256) } ∧ SameMemory s t)
        ∧ ∃ t, exec (.cmuOpComplete n 1) s = .next t ∧ t.reg .CORE_CNT_ROMCE n.val = (s.reg .CORE_CNT_ROMCE n.val + 1) % 2 ^ 32
          ∧ (t.core n.val).cmu = c.cmu.erase o)
      ∧ (o.flags ≠ 0 → bitAt c.cmucsr 0 = true → ∃ t, exec (.cmuOpComplete n 0) s = .next t ∧ late t)
      ∧ (s.fld Fld.ECC_D_STORE_HANDLING (coreDie n.val) = 0 → ∃ t, exec (.cmuOpComplete n 2) s = .next t ∧ late t
        ∧ t.reg .ECC_D_CNT_UE (coreDie n.val) = (s.reg .ECC_D_CNT_UE (coreDie n.val) + 1) % 2 ^ 32))

/-- Tile DMA and region commands. -/
def Obligations.TileGo : Prop :=
  (∀ (s : State) (n : Fin 256), Intact s → ∀ k, (k = 4 ∨ k < 4) →
    let i := if h : k < 4 then Instr.tileDmaGo n ⟨k, h⟩ else .regionCommandGo n
    let q := coreTile n.val * 8 + k
    let j : TileJob := {
      desc := (s.tchan q).shadow.flatMap (leBytes 4), core := n, curd := (s.core n).curd
      lost := k == 4 && s.fld Fld.LR_STAT_STATE (1 + n.val / 64) != 3 }
    ((s.tchan q).active = none → ∃ t, exec i s = .next t ∧ t.tchan q = { s.tchan q with active := some j, refused := false } ∧ t.cave = s.cave
      ∧ t.regs = s.regs)
    ∧ (∀ x, (s.tchan q).active = some x → (s.tchan q).armed = none → ∃ t, exec i s = .next t
      ∧ t.tchan q = { s.tchan q with armed := some j, refused := false } ∧ t.cave = s.cave ∧ t.regs = s.regs)
    ∧ ∀ x y, (s.tchan q).active = some x → (s.tchan q).armed = some y → ∃ t, exec i s = .next t
      ∧ t.tchan q = { s.tchan q with refused := true } ∧ t.cave = s.cave ∧ t.regs = s.regs)
  ∧ ∀ (s : State) (tile : Fin 64), let k := tile.val * 8 + 4
    let rg := 1 + tile.val / 16
    ((s.tchan k).active = none → exec (.regionCommandEnd tile) s = .next s)
    ∧ ∀ j, (s.tchan k).active = some j →
      let x : Xfer := { desc := j.desc, hub := false, tile := tile.val, exec := 0x400 + j.core, curd := j.curd
                        handle := ((j.curd.bind s.curdAt).map Curd.handle).getD 0 }
      let gone := j.lost = true ∨ s.fld Fld.LR_STAT_STATE rg ≠ 3
      let fine := x.regionOk (s.fld Fld.LR_CAP_CAP rg)
      let ends := fun (st : Nat) => ∃ t, exec (.regionCommandEnd tile) s = .next t ∧ (t.tchan k).lastStatus = st ∧ (t.tchan k).done = 0
        ∧ (t.tchan k).active = (s.tchan k).armed ∧ (t.tchan k).armed = none ∧ SameMemory s t
      (j.aborted = true → ends 0x16) ∧ (j.aborted = false → gone → ends 0x30) ∧ (j.aborted = false → ¬gone → fine = false → ends 0x21)
      ∧ (j.aborted = false → ¬gone → fine = true → ∀ f, s.firstFault x false = some f →
        (f.2 = 0x62 → s.merges = [] ∧ s.fld Fld.ECC_D_STORE_HANDLING (tile.val / 16) = 0) → ends f.2)
      ∧ (j.aborted = false → ¬gone → fine = true → Intact s → s.firstFault x false = none → ∃ t,
         exec (.regionCommandEnd tile) s = .next t ∧ (t.tchan k).lastStatus = 0x10 ∧ (t.tchan k).done = x.d.len
         ∧ (t.tchan k).active = (s.tchan k).armed ∧ (t.tchan k).armed = none
         ∧ t.reg .LR_CNT_CMD rg = (s.reg .LR_CNT_CMD rg + 1) % 2 ^ 32
         ∧ ((x.side x.d.dstSp x.d.dst).1 = 1 → readBytes t.tsm (x.side x.d.dstSp x.d.dst).2 x.d.len =
            (List.range x.d.len).map (Config.lrFunction (s.reg .LR_ID rg) (s.reg .LR_VER rg)
              (u8 j.desc 3) ((List.range x.d.len).map (s.sideByte (x.side x.d.srcSp x.d.src) [])))))

/-- The commands of a beamforming matrix unit. -/
def Obligations.BmuCommands : Prop :=
  let row := fun (op : Nat) (tile : Fin 64) => if op = 1 then Instr.gemm tile else if op = 2 then .gram tile else if op = 3 then .solve tile
    else if op = 4 then .demap tile else .bmuEnd tile
  (∀ (s : State) (tile : Fin 64) (op : Nat), op < 5 →
    (s.bmu tile.val).curd = none ∨ (∃ ca, (s.bmu tile.val).curd = some ca ∧ (s.curdAt ca = none
      ∨ ∃ c, s.curdAt ca = some c ∧ s.orderOf c.handle = none)) → exec (row op tile) s = .next s)
  ∧ ∀ (s : State) (tile : Fin 64) (op ca : Nat) (c : Curd) (o : Order), op < 5 → (s.bmu tile.val).curd = some ca → s.curdAt ca = some c →
    s.orderOf c.handle = some o → Intact s →
    let p := s.bmuCmd o.slot c (s.bmu tile.val).idx
    let sz := bmuSizes op (u8 p 2) (u8 p 3) (u16 p 4) (bitAt (u8 p 1) 2) (bitAt (u8 p 1) 1) (u8 p 7 % 16)
    let reps := 2 ^ u8 p 6
    let locA := s.bmuLoc tile.val c (u64 p 8) (sz.1 * reps) false
    let locB := if op = 2 then some (0, 0) else s.bmuLoc tile.val c (u64 p 16) (sz.2.1 * reps) false
    let locD := s.bmuLoc tile.val c (u64 p 24) (sz.2.2 * reps) true
    let fails := fun (cause : Nat) => ∃ t, exec (row op tile) s = .next t ∧ (t.bmu tile.val).curd = none
      ∧ t.reg .BMU_EXC tile.val = cause + 256 * ((s.bmu tile.val).idx % 4096) ∧ t.reg .BMU_EXC_HANDLE tile.val = c.handle
      ∧ t.reg .BMU_CNT_EXC tile.val = (s.reg .BMU_CNT_EXC tile.val + 1) % 2 ^ 32 ∧ SameMemory s t
      ∧ (c.st ≠ .ended → t.curdAt ca = some (c.ended s.stamp 0x12))
    (bmuCmdOk p = false → fails 1)
    ∧ (bmuCmdOk p = true → u8 p 0 ≠ op → exec (row op tile) s = .next s)
    ∧ (bmuCmdOk p = true → u8 p 0 = 0 → op = 0 → ∃ t, exec (.bmuEnd tile) s = .next t ∧ (t.bmu tile.val).curd = none
      ∧ t.fld Fld.BMU_STAT_STATE tile.val = 1 ∧ SameMemory s t ∧ (c.st ≠ .ended → t.curdAt ca = some (c.ended s.stamp 0x10)))
    ∧ (bmuCmdOk p = true → u8 p 0 = op → 1 ≤ op → locA = none ∨ locB = none ∨ locD = none
      ∨ (∃ d, locD = some d ∧ s.dstOk c.handle d (sz.2.2 * reps) = false) → fails 2)
    ∧ ∀ a b d, bmuCmdOk p = true → u8 p 0 = op → 1 ≤ op → locA = some a → locB = some b → locD = some d →
      s.dstOk c.handle d (sz.2.2 * reps) = true →
      ∃ t, exec (row op tile) s = .next t ∧ (t.bmu tile.val).curd = some ca ∧ (t.bmu tile.val).idx = (s.bmu tile.val).idx + 1
        ∧ t.reg .BMU_CNT_EXC tile.val = s.reg .BMU_CNT_EXC tile.val
        ∧ (d.1 = 1 → t.cave = s.cave ∧ t.vm = s.vm
          ∧ (∀ k, k < d.2 ∨ d.2 + sz.2.2 * reps ≤ k → Sparse.get 0 t.tsm k = Sparse.get 0 s.tsm k)
          ∧ (op = 1 → u8 p 1 = 0 → u8 p 6 = 0 → ∀ i < u8 p 2 * u8 p 3,
            let z := c16Dot (fun j => s.c16At a (i / u8 p 3 * u16 p 4 + j)) (fun j => s.c16At b (j * u8 p 3 + i % u8 p 3)) false (u16 p 4)
            readBytes t.tsm (d.2 + 4 * i) 4 = (outC16 (rndI z.1 (u8 p 7)) (rndI z.2 (u8 p 7))).1))

/-- Coding engines: blocks, ends, faults and fences. -/
def Obligations.CodingEngines : Prop :=
  (∀ (s : State) (e : Fin 64) (ca : Nat) (c : Curd), (s.eng e.val).curd = some ca → s.curdAt ca = some c → Intact s →
    let d := engDesc c.arg
    let n := d.tbLen c.cls
    let last := s.dstOk c.handle (0, d.statA + 4 * d.c) 4
    (∀ r, s.nextBlock d (d.n + 1) (s.eng e.val).next = some r →
      let er := if c.cls = 4 then d.g / d.c else eOf d.g d.nl d.qm d.c r
      let per := (ldpcSeg d.tbs d.code).kp - (if 1 < (ldpcSeg d.tbs d.code).c then 24 else 0)
      let inp := if c.cls = 3 then (if d.tbs < (d.first + d.n) * per then (d.inA, ceilDiv d.tbs 8)
          else (d.inA + r * per / 8, ceilDiv (r * per % 8 + per) 8))
        else if c.cls = 4 then (d.inA + r * er, er) else (d.inA + eBefore d.g d.nl d.qm d.c r, er)
      let off := if c.cls = 3 then eBefore d.g d.nl d.qm d.c r
        else if c.cls = 4 then (if r = 0 then 0 else ceilDiv d.tbs d.c - (d.c * ceilDiv d.tbs d.c - d.tbs)) else d.bitsBefore r
      (caveSpan inp.1 inp.2 = true → (∀ n, n ≤ d.tbs + 8448 + er → s.bitsOk c.handle d.outA off n = true) →
        s.dstOk c.handle (0, d.statA + 4 * r) 4 = true →
        (d.flag 5 = true → s.dstOk c.handle (0, d.appA + eBefore d.g d.nl d.qm d.c r) er = true) →
        ∃ t, exec (.codeBlockDone e) s = .next t ∧ (t.eng e.val).next = r + 1 ∧ (t.eng e.val).curd = some ca
          ∧ t.reg .ENG_CNT_CB e.val = (s.reg .ENG_CNT_CB e.val + 1) % 2 ^ 32 ∧ t.reg .ENG_EXC e.val = s.reg .ENG_EXC e.val
          ∧ t.vm = s.vm ∧ t.tsm = s.tsm)
      ∧ (caveSpan inp.1 inp.2 = true → s.dstOk c.handle (0, d.statA + 4 * r) 4 = false → ∃ t x, exec (.codeBlockDone e) s = .next t
        ∧ (t.eng e.val).curd = none ∧ t.reg .ENG_EXC e.val = 3 + 256 * (r % 256) ∧ t.vm = s.vm ∧ t.tsm = s.tsm
        ∧ t.curdAt ca = some x ∧ (c.st ≠ .ended → x.st = .ended ∧ x.endStatus = 0x12))
      ∧ (caveSpan inp.1 inp.2 = false → ∃ t, exec (.codeBlockDone e) s = .next t ∧ (t.eng e.val).curd = none
        ∧ t.reg .ENG_EXC e.val = s.reg .ENG_EXC e.val ∧ SameMemory s t ∧ (c.st ≠ .ended → t.curdAt ca = some (c.ended s.stamp 0x12)))
      ∧ exec (.engineJobEnd e) s = .next s)
    ∧ (s.nextBlock d (d.n + 1) (s.eng e.val).next = none → exec (.codeBlockDone e) s = .next s
      ∧ (caveSpan d.outA n = true → (d.first + d.n = d.c → last = true) → ∃ t x, exec (.engineJobEnd e) s = .next t
        ∧ (t.eng e.val).curd = none ∧ t.reg .ENG_CUR e.val = 0 ∧ t.curdAt ca = some x ∧ x.st = .ended
        ∧ (c.st ≠ .ended → x.endStatus = 0x10 ∧ x.endStamp = s.stamp))
      ∧ (caveSpan d.outA n = true → d.first + d.n = d.c → last = false → ∃ t, exec (.engineJobEnd e) s = .next t
        ∧ (t.eng e.val).curd = none ∧ t.reg .ENG_EXC e.val = 3 + 256 * ((d.c - 1) % 256) ∧ t.reg .ENG_EXC_HANDLE e.val = c.handle
        ∧ SameMemory s t ∧ (c.st ≠ .ended → t.curdAt ca = some (c.ended s.stamp 0x12)))
      ∧ (caveSpan d.outA n = false → ∃ t, exec (.engineJobEnd e) s = .next t ∧ (t.eng e.val).curd = none ∧ SameMemory s t
        ∧ (c.st ≠ .ended → t.curdAt ca = some (c.ended s.stamp 0x12)))))
  ∧ (∀ (s : State) (e : Fin 64), (s.eng e.val).curd = none ∨ (∃ a, (s.eng e.val).curd = some a ∧ s.curdAt a = none) →
    exec (.codeBlockDone e) s = .next s ∧ exec (.engineJobEnd e) s = .next s)
  ∧ (∀ (s : State) (u : Fin 69),
    (u.val < 64 → ((s.eng u.val).resetting = true → exec (.engineFault u) s = .next s)
      ∧ ((s.eng u.val).resetting = false → ∃ t, exec (.engineFault u) s = .next t ∧ (t.eng u.val).resetting = true
        ∧ (t.eng u.val).curd = none ∧ t.reg .ENG_CNT_FAULT u.val = (s.reg .ENG_CNT_FAULT u.val + 1) % 2 ^ 32
        ∧ Logged s t 0x0012 2 (u.val / 16) (engExec u.val) 0))
    ∧ (64 ≤ u.val → ((s.px (u.val - 64)).resetting = true → exec (.engineFault u) s = .next s)
      ∧ ((s.px (u.val - 64)).resetting = false → ∃ t, exec (.engineFault u) s = .next t
        ∧ (t.px (u.val - 64)).resetting = true ∧ (t.px (u.val - 64)).curd = none ∧ Logged s t 0x0012 2 4 (448 + (u.val - 64)) 0))
    ∧ ∃ t, exec (.engineSelfReset u) s = .next t ∧ t = { s with engs := t.engs, pxs := t.pxs }
      ∧ (u.val < 64 → t.eng u.val = { s.eng u.val with resetting := false })
      ∧ (64 ≤ u.val → t.px (u.val - 64) = { s.px (u.val - 64) with resetting := false }))
  ∧ ∀ (s : State) (d : Fin 4) (v : Word) (src : Source), Reach s src →
    let now := s.fld Fld.ENG_FENCE_STAT_FENCED d.val
    let cnt := fun p => ((List.range 16).filter (fun n => bitAt v.toNat n && !bitAt now n
      && decide ((enginePool p).1 ≤ n ∧ n < (enginePool p).1 + (enginePool p).2))).length
    (s.dieStat d.val ≠ 1 → ∃ t, exec (.engineFence d v src) s = .next t ∧ RegsOnly s t
      ∧ t.fld Fld.ENG_FENCE_STAT_FENCED d.val = now ∧ t.reg .GLOBAL_WERR_CNT = (s.reg .GLOBAL_WERR_CNT + 1) % 2 ^ 32)
    ∧ (s.dieStat d.val = 1 → (∀ p ∈ [2, 3, 4, 5], cnt p = 0 ∨ s.withdrawOk p d.val (1000 * cnt p) = true) →
      ∃ t, exec (.engineFence d v src) s = .next t ∧ (∀ n < 16, bitAt (t.fld Fld.ENG_FENCE_STAT_FENCED d.val) n = bitAt v.toNat n)
        ∧ ∀ n < 16, (bitAt v.toNat n = true → bitAt now n = false → (t.eng (d.val * 16 + n)).fenceFrom = some s.absFirst)
          ∧ (bitAt v.toNat n = false → bitAt now n = true → (t.eng (d.val * 16 + n)).fenceFrom = none
            ∧ (t.eng (d.val * 16 + n)).freeFrom = s.tm.absGrain + 1))
    ∧ (s.dieStat d.val = 1 → (∃ p ∈ [2, 3, 4, 5], cnt p ≠ 0 ∧ s.withdrawOk p d.val (1000 * cnt p) = false) →
      ∃ t, exec (.engineFence d v src) s = .next t ∧ t.fld Fld.ENG_FENCE_STAT_REFUSED d.val = 1
        ∧ ∀ n < 16, bitAt (t.fld Fld.ENG_FENCE_STAT_FENCED d.val) n = (bitAt now n && bitAt v.toNat n))

/-- PRACH jobs, channel access and the sensing log's head. -/
def Obligations.PrachAndAccess : Prop :=
  (∀ (s : State), (∀ n : Fin 4, (s.px n.val).curd.bind s.curdAt = none → exec (.prachJobEnd n) s = .next s)
    ∧ ((s.px 4).curd.bind s.curdAt = none → exec .lbtJobEnd s = .next s))
  ∧ (∀ (s : State) (n : Fin 4) (ca : Nat) (c : Curd), (s.px n.val).curd = some ca → s.curdAt ca = some c → Intact s →
    let len := (prachOf (c.arg.take 32)).rep * u16 c.arg 40 * (ceilDiv (prachOf (c.arg.take 32)).lra 16 * 16) * 4
    let r := prachData (c.arg.take 32) (u8 c.arg 42) (u16 c.arg 40) (s.caveRead (u64 c.arg 32) len)
    let mapped := caveSpan c.args 64 = true ∧ caveSpan (u64 c.arg 32) len = true
    (mapped → s.dstOk c.handle (0, u64 c.arg 48) r.1.length = true → ∃ t x, exec (.prachJobEnd n) s = .next t ∧ (t.px n.val).curd = none
      ∧ t.reg .PX_CNT_DET n.val = (s.reg .PX_CNT_DET n.val + r.2) % 2 ^ 32 ∧ t.reg .PX_CUR n.val = 0 ∧ t.curdAt ca = some x
      ∧ x.st = .ended ∧ (c.st ≠ .ended → x.endStatus = 0x10) ∧ t.vm = s.vm ∧ t.tsm = s.tsm)
    ∧ (mapped → s.dstOk c.handle (0, u64 c.arg 48) r.1.length = false → ∃ t, exec (.prachJobEnd n) s = .next t ∧ (t.px n.val).curd = none
      ∧ t.reg .PX_EXC n.val = 3 ∧ t.reg .PX_EXC_HANDLE n.val = c.handle ∧ SameMemory s t
      ∧ (c.st ≠ .ended → t.curdAt ca = some (c.ended s.stamp 0x12)))
    ∧ (¬mapped → ∃ t, exec (.prachJobEnd n) s = .next t ∧ (t.px n.val).curd = none ∧ SameMemory s t
      ∧ (c.st ≠ .ended → t.curdAt ca = some (c.ended s.stamp 0x12))))
  ∧ (∀ (s : State) (ca : Nat) (c : Curd), (s.px 4).curd = some ca → s.curdAt ca = some c → Intact s →
    let p := c.arg
    let may := ∀ n < 32, bitAt (u32 p 4) n = true →
      channelOk (s.stream n) (u8 p 1) (u8 p 2) (u16 p 8) (s.stampNs c.startStamp / 9000) (s.stampNs (u32 p 12) / 9000) = true
    let fails := fun (cause : Option Nat) => ∃ t, exec .lbtJobEnd s = .next t ∧ (t.px 4).curd = none
      ∧ t.reg .SE_J_EXC = cause.getD (s.reg .SE_J_EXC) ∧ SameMemory s t ∧ (∀ n, t.reg .SE_G_WIN n = s.reg .SE_G_WIN n)
      ∧ (c.st ≠ .ended → t.curdAt ca = some (c.ended s.stamp 0x12))
    let done := fun (t : State) => ∃ x, t.curdAt ca = some x ∧ x.st = .ended ∧ (c.st ≠ .ended → x.endStatus = 0x10)
    (caveSpan c.args 64 = false → fails none) ∧ (caveSpan c.args 64 = true → lbtOk p = false → fails (some 1))
    ∧ (caveSpan c.args 64 = true → lbtOk p = true → s.dstOk c.handle (0, u64 p 24) 16 = false → fails (some 3))
    ∧ (caveSpan c.args 64 = true → lbtOk p = true → s.dstOk c.handle (0, u64 p 24) 16 = true →
      (may → ∃ t, exec .lbtJobEnd s = .next t ∧ done t ∧ t.reg .SE_J_GRANTS = (s.reg .SE_J_GRANTS + 1) % 2 ^ 32
        ∧ ∀ n < 32, t.reg .SE_G_WIN n = if bitAt (u32 p 4) n then u32 p 16 else s.reg .SE_G_WIN n)
      ∧ (¬ may → ∃ t, exec .lbtJobEnd s = .next t ∧ done t ∧ t.reg .SE_J_GRANTS = s.reg .SE_J_GRANTS
        ∧ ∀ n, t.reg .SE_G_WIN n = s.reg .SE_G_WIN n)))
  ∧ ∀ (s : State) (v : Word) (src : Source), Reach s src →
    (let now := s.fld Fld.PX_FENCE_STAT_FENCED
     let k := ((List.range 4).filter (fun n => bitAt v.toNat n && !bitAt now n)).length
     (k = 0 ∨ s.withdrawOk 0xC 0 (1000 * k) = true → ∃ t, exec (.prachFence v src) s = .next t
       ∧ (∀ n < 4, bitAt (t.fld Fld.PX_FENCE_STAT_FENCED) n = bitAt v.toNat n)
       ∧ ∀ n < 4, (bitAt v.toNat n = true → bitAt now n = false → (t.px n).fenceFrom = some s.absFirst)
         ∧ (bitAt v.toNat n = false → bitAt now n = true → (t.px n).fenceFrom = none ∧ (t.px n).freeFrom = s.tm.absGrain + 1))
     ∧ (k ≠ 0 → s.withdrawOk 0xC 0 (1000 * k) = false → ∃ t, exec (.prachFence v src) s = .next t
       ∧ t.fld Fld.PX_FENCE_STAT_REFUSED = 1 ∧ ∀ n < 4, bitAt (t.fld Fld.PX_FENCE_STAT_FENCED) n = (bitAt now n && bitAt v.toNat n)))
    ∧ (let m := 2 ^ (s.fld Fld.SE_LOG_CFG_DEPTH_LOG2 + 1)
       let used := (s.reg .SE_LOG_TAIL % m + m - s.reg .SE_LOG_HEAD % m) % m
       (v.toNat < m → (v.toNat + m - s.reg .SE_LOG_HEAD % m) % m ≤ used → ∃ t, exec (.seLogHeadWrite v src) s = .next t ∧ RegsOnly s t
         ∧ t.reg .SE_LOG_HEAD = v.toNat ∧ SameRegs [(.SE_LOG_HEAD, 0)] s t)
       ∧ (m ≤ v.toNat ∨ used < (v.toNat + m - s.reg .SE_LOG_HEAD % m) % m → ∃ t, exec (.seLogHeadWrite v src) s = .next t ∧ RegsOnly s t
         ∧ t.reg .SE_LOG_HEAD = s.reg .SE_LOG_HEAD ∧ t.reg .GLOBAL_WERR_CNT = (s.reg .GLOBAL_WERR_CNT + 1) % 2 ^ 32))

/-- Sensing streams. -/
def Obligations.SensingStreams : Prop :=
  (∀ (s : State) (n : Fin 32),
    let x := s.stream n.val
    let rate := s.fld Fld.SE_S_CFG_RATE n.val
    let need := blockEdge rate (x.blocks + 1) - blockEdge rate x.blocks
    let mine := x.raw.take need
    let fin := (((mine.getLast?.map Prod.fst).getD 0 + (sampleUnits rate : Int)) / 384).toNat
    let y := (Config.seFront rate (-(sext 32 (s.reg .SE_S_CENTER n.val) + x.corr)) x.taken (mine.map Prod.snd) ++ List.replicate 16 (0, 0)).take 16
    let r := (x.hist ++ y).drop (x.hist.length + 16 - 64)
    let p := p16Of y
    let st := s.seState n.val
    let thr := s.db Fld.SE_DET_DET_THR
    let b := x.blk + 1
    let rearm := (s.fld Fld.SE_DET_RE_ARM_DB : Int) ≤ p - x.pRef
    let qual := 3 ≤ b ∧ stfQualifies r (s.fld Fld.SE_DET_QUAL_THR) = true
    let capture := (s.fld Fld.SE_DET_CAPTURE_DB : Int) ≤ p - x.pPkt
    let ended := st = 4 ∧ (match x.fin with | some e => e ≤ fin | none => p < thr ∧ x.prevP < thr)
    let goes := fun (v : Nat) (P : State → Prop) => ∃ t, exec (.senseBlock n) s = .next t ∧ t.seState n.val = v
      ∧ (t.stream n.val).raw = x.raw.drop need ∧ (t.stream n.val).prevP = p ∧ SameMemory s t ∧ P t
    let fresh := fun (t : State) => (t.stream n.val).pRef = p ∧ (t.stream n.val).blk = 0
    let more := fun (t : State) (c : RegId) => t.reg c n.val = (s.reg c n.val + 1) % 2 ^ 32
    (st = 0 ∨ x.raw.length < need → exec (.senseBlock n) s = .next s)
    ∧ (need ≤ x.raw.length →
      (st = 1 → (thr ≤ p → goes 2 fresh) ∧ (p < thr → goes 1 (fun t => SameRegs [(.SE_S_STAT, n.val)] s t)))
      ∧ (st = 2 → (b = 1 → goes 2 (fun t => (t.stream n.val).pRef = max x.pRef p ∧ (t.stream n.val).blk = 1))
        ∧ (b ≠ 1 → rearm → goes 2 (fun t => fresh t ∧ more t .SE_S_FALSE_DET))
        ∧ (b ≠ 1 → ¬rearm → qual → goes 3 (fun t => (t.stream n.val).search = some 0 ∧ (t.stream n.val).pPkt = x.pRef
          ∧ ∃ k < 2, t.reg .SE_S_CFO n.val = enc 32 (cfoOf (stfA r) k)))
        ∧ (b ≠ 1 → ¬rearm → ¬qual → b = 12 → goes 1 (fun t => more t .SE_S_NO_QUAL))
        ∧ (b ≠ 1 → ¬rearm → ¬qual → b ≠ 12 → goes 2 (fun t => (t.stream n.val).blk = b)))
      ∧ (st = 3 ∨ st = 4 → (capture → goes 2 (fun t => fresh t ∧ more t .SE_S_CAPTURED)) ∧ (¬capture → ended → goes 1 (fun _ => True))
        ∧ (¬capture → ¬ended → (∀ k, x.search = some k → (k < 23 → goes st (fun t => (t.stream n.val).search = some (k + 1)))
            ∧ (23 ≤ k → goes 4 (fun t => (t.stream n.val).search = none ∧ more t .SE_S_SIG_FAIL)))
          ∧ (x.search = none → goes st (fun t => t.regs = s.regs))))))
  ∧ (∀ (s : State) (n : Fin 32) (soft : List Int) (ltf : Nat),
    let f := lsigField soft
    let rate := 8 * b2n (bitAt f 0) + 4 * b2n (bitAt f 1) + 2 * b2n (bitAt f 2) + b2n (bitAt f 3)
    (s.seState n.val = 3 → (s.stream n.val).search.isSome = true → popCount f 18 % 2 = 0 → ndbps rate ≠ 0 → bits f 23 18 = 0 →
      ∃ t, exec (.lsigDecoded n soft ltf) s = .next t ∧ t.seState n.val = 4 ∧ (t.stream n.val).start = ltf - 8000
        ∧ (t.stream n.val).fin = some (ltf - 8000 + 20000 + 4000 * ceilDiv (22 + 8 * bits f 16 5) (ndbps rate))
        ∧ t.reg .SE_S_STARTS n.val = (s.reg .SE_S_STARTS n.val + 1) % 2 ^ 32)
    ∧ ((s.seState n.val ≠ 3 ∨ (s.stream n.val).search = none ∨ popCount f 18 % 2 = 1 ∨ ndbps rate = 0 ∨ bits f 23 18 ≠ 0) →
      exec (.lsigDecoded n soft ltf) s = .next s))
  ∧ (∀ (s : State) (n : Fin 32) (lo hi : Nat), (s.seState n.val = 0 → exec (.senseGap n lo hi) s = .next s)
    ∧ (s.seState n.val ≠ 0 → ∃ t, exec (.senseGap n lo hi) s = .next t ∧ t.seState n.val = 1 ∧ (lo, hi) ∈ (t.stream n.val).gaps
      ∧ t.reg .SE_S_GAPS n.val = (s.reg .SE_S_GAPS n.val + 1) % 2 ^ 32))
  ∧ ∀ (s : State) (n : Fin 32) (k : Nat),
    let x := s.stream n.val
    let a := (x.acc.find? (fun a => a.slot == k)).getD { slot := k }
    let nav := s.fld Fld.SE_ED_NAV_EN = 1 ∧ x.navs.any (overSlot k) = true
    let gap := s.seState n.val = 0 ∨ x.gaps.any (overSlot k) = true
    (gap → ∃ t, exec (.sensingSlotEnd n k) s = .next t ∧ (t.stream n.val).slots.getLast? = some (k, 2))
    ∧ (¬ gap → 5 ≤ a.hot ∨ a.active = true ∨ nav → ∃ t, exec (.sensingSlotEnd n k) s = .next t
      ∧ (t.stream n.val).slots.getLast? = some (k, 1) ∧ t.reg .SE_S_BUSY_SLOTS n.val = (s.reg .SE_S_BUSY_SLOTS n.val + 1) % 2 ^ 32)
    ∧ (¬ gap → a.hot < 5 → a.active = false → ¬ nav → ∃ t, exec (.sensingSlotEnd n k) s = .next t
      ∧ (t.stream n.val).slots.getLast? = some (k, 0) ∧ t = { s with streams := t.streams })

/-- Fronthaul ports: enable, disable, links, streams and keys. -/
def Obligations.FronthaulPorts : Prop :=
  (∀ (s : State) (p : Fin 16) (src : Source), Reach s src →
    (s.fhShadowed p.val = true → exec (.fhEnable p src) s = .next s ∧ exec (.fhDisable p src) s = .next s)
    ∧ (s.fhShadowed p.val = false →
      (s.fld Fld.FH_CFG_MODE p.val = 0 → ∃ t, exec (.fhEnable p src) s = .next t ∧ RegsOnly s t
        ∧ t.fld Fld.FH_CTRL_EN p.val = s.fld Fld.FH_CTRL_EN p.val ∧ t.reg .GLOBAL_WERR_CNT = (s.reg .GLOBAL_WERR_CNT + 1) % 2 ^ 32)
      ∧ (s.fld Fld.FH_CFG_MODE p.val ≠ 0 →
        ((s.port p.val).disAt ≠ none → ∃ t, exec (.fhEnable p src) s = .next t ∧ t.fld Fld.FH_CTRL_EN p.val = 1
          ∧ t.port p.val = { s.port p.val with pendEn := true } ∧ SameRegs [(.FH_STAT, p.val), (.FH_CTRL, p.val)] s t
          ∧ t = { s with regs := t.regs, fh := t.fh })
        ∧ ((s.port p.val).disAt = none → s.fhState p.val = 0 → ∃ t, exec (.fhEnable p src) s = .next t
          ∧ t.fhState p.val = 1 ∧ t.fld Fld.FH_CTRL_EN p.val = 1 ∧ t.fld Fld.FH_STAT_DIS_REFUSED p.val = 0 ∧ (t.port p.val).seq = []
          ∧ (t.port p.val).held = [] ∧ t.fld Fld.FH_GRAN_RX_FREE p.val = s.granules p.val
          ∧ t.fld Fld.FH_GRAN_TX_FREE p.val = s.granules p.val ∧ t.cap = s.cap)
        ∧ ((s.port p.val).disAt = none → s.fhState p.val ≠ 0 → ∃ t, exec (.fhEnable p src) s = .next t ∧ RegsOnly s t
          ∧ t.fld Fld.FH_STAT_DIS_REFUSED p.val = 0 ∧ t.fhState p.val = s.fhState p.val ∧ SameRegs [(.FH_STAT, p.val)] s t))
      ∧ (s.fhState p.val = 0 → ∃ t, exec (.fhDisable p src) s = .next t ∧ RegsOnly s t ∧ t.fld Fld.FH_CTRL_EN p.val = 0
        ∧ t.fhState p.val = 0 ∧ SameRegs [(.FH_STAT, p.val), (.FH_CTRL, p.val)] s t)
      ∧ (s.fhState p.val ≠ 0 → (s.port p.val).disAt ≠ none → ∃ t, exec (.fhDisable p src) s = .next t
        ∧ t.fld Fld.FH_CTRL_EN p.val = 0 ∧ t.port p.val = { s.port p.val with pendEn := false }
        ∧ SameRegs [(.FH_STAT, p.val), (.FH_CTRL, p.val)] s t ∧ t = { s with regs := t.regs, fh := t.fh })
      ∧ (s.fhState p.val ≠ 0 → (s.port p.val).disAt = none →
        (s.noReservation (fun x => x.pool == 0xE && x.index == p.val) = true → ∃ t, exec (.fhDisable p src) s = .next t
          ∧ t.fld Fld.FH_CTRL_EN p.val = 0 ∧ (t.port p.val).disAt = some s.absFirst ∧ natAt t.cap.egress p.val = 0
          ∧ t.fhState p.val = s.fhState p.val)
        ∧ (s.noReservation (fun x => x.pool == 0xE && x.index == p.val) = false → ∃ t, exec (.fhDisable p src) s = .next t ∧ RegsOnly s t
          ∧ t.fld Fld.FH_STAT_DIS_REFUSED p.val = 1 ∧ t.fhState p.val = s.fhState p.val ∧ SameRegs [(.FH_STAT, p.val)] s t))))
  ∧ (∀ (s : State) (p : Fin 16),
    let up := s.fhState p.val = 1 ∧ bitAt (s.reg .POWER_PADS) 7 = false ∧ (fhLanes p.val (s.fld Fld.FH_CFG_MODE p.val)).all s.laneUp = true
    (up → s.cap.egress.length = 16 → ∃ t, exec (.fhLinkUp p) s = .next t ∧ t.fhState p.val = 2
      ∧ t.port p.val = { s.port p.val with linked := true, seq := [] }
      ∧ ((s.port p.val).linked = false → (s.port p.val).disAt = none → natAt t.cap.egress p.val = modeBytes (s.fld Fld.FH_CFG_MODE p.val))
      ∧ ((s.port p.val).linked = true ∨ (s.port p.val).disAt ≠ none → t.cap = s.cap) ∧ SameMemory s t ∧ t.orders = s.orders)
    ∧ (¬up → exec (.fhLinkUp p) s = .next s)
    ∧ (s.fhState p.val = 2 → ∃ t, exec (.fhLinkDown p) s = .next t ∧ t.fhState p.val = 1 ∧ (t.port p.val).held = []
      ∧ t.fld Fld.FH_GRAN_RX_FREE p.val = s.granules p.val ∧ t.fld Fld.FH_GRAN_TX_FREE p.val = s.granules p.val
      ∧ (∀ g ∈ (t.port p.val).job, g.down = true) ∧ Logged s t 0x0020 1 p.val 0 0)
    ∧ (s.fhState p.val ≠ 2 → exec (.fhLinkDown p) s = .next s))
  ∧ (∀ (s : State) (p : Fin 16) (k : Fin 160),
    (Sparse.get none (s.port p.val).seq k.val = none → exec (.seqFreshTimeout p k) s = .next s)
    ∧ ∀ l : FhSeq, Sparse.get none (s.port p.val).seq k.val = some l →
    (l.ns + 1000000 ≤ s.tm.ns → ∃ t, exec (.seqFreshTimeout p k) s = .next t ∧ Sparse.get none (t.port p.val).seq k.val = none
      ∧ (∀ m, m ≠ k.val → Sparse.get none (t.port p.val).seq m = Sparse.get none (s.port p.val).seq m) ∧ t = { s with fh := t.fh })
    ∧ (s.tm.ns < l.ns + 1000000 → exec (.seqFreshTimeout p k) s = .next s))
  ∧ ∀ (s : State) (p : Fin 16) (an : Fin 4) (j : Fin 8) (v : Word) (src : Source), Reach s src → ∃ t, exec (.fhSakWrite p an j v src) s = .next t
    ∧ t.reg .FH_SEC_SAK ((p.val * 4 + an.val) * 8 + j.val) = v.toNat ∧ SameRegs [(.FH_SEC_SAK, (p.val * 4 + an.val) * 8 + j.val)] s t
    ∧ natAt (t.port p.val).txPn an.val = 0 ∧ natAt (t.port p.val).rxPn an.val = 0 ∧ (∀ q, q ≠ p.val → t.port q = s.port q)
    ∧ (∀ m, m ≠ an.val → natAt (t.port p.val).txPn m = natAt (s.port p.val).txPn m
      ∧ natAt (t.port p.val).rxPn m = natAt (s.port p.val).rxPn m)
    ∧ t = { s with regs := t.regs, fh := t.fh }

/-- Fronthaul frames in and out. -/
def Obligations.FronthaulFrames : Prop :=
  (∀ (s : State) (p : Fin 16) (f : RxFrame),
    let h := if f.sec.isSome = true ∧ s.fld Fld.FH_CFG_SEC_EN p.val = 0 then ⟨none, 0x88E5, 14⟩ else ethHdr f.bytes
    let counted := fun (r : RegId) => ∃ t, exec (.fhFrameReceive p f) s = .next t ∧ t.orders = s.orders
      ∧ t.reg .FH_RX_FRAMES p.val = (s.reg .FH_RX_FRAMES p.val + 1) % 2 ^ 32 ∧ t.reg r p.val = (s.reg r p.val + 1) % 2 ^ 32
    let passes := ceilDiv f.len 256 ≤ s.fld Fld.FH_GRAN_RX_FREE p.val ∧ s.linkCheck p.val f h = 0
    let policed := (s.police p.val (h.etype == 0xAEFE) f.len f.ns).1
    (s.fhState p.val ≠ 2 → exec (.fhFrameReceive p f) s = .next s)
    ∧ (s.fhState p.val = 2 →
      (s.fld Fld.FH_GRAN_RX_FREE p.val < ceilDiv f.len 256 → counted .FH_WHEY_NOBUF)
      ∧ (ceilDiv f.len 256 ≤ s.fld Fld.FH_GRAN_RX_FREE p.val → s.linkCheck p.val f h ≠ 0 → counted (wheyReg (s.linkCheck p.val f h)))
      ∧ (passes → policed = false → counted .FH_WHEY_POLICE)
      ∧ (passes → policed = true → h.etype ≠ 0xAEFE → ¬(h.etype = 0x88F7 ∧ s.fld Fld.FH_CFG_PTP_EN p.val = 1) →
        ¬(h.etype = 0x8809 ∧ u8 f.bytes h.off = 0x0A) →
        (s.fld Fld.FH_INQ_ENABLE p.val = 0 ∨ s.pickRun genLo genN (ceilDiv f.bytes.length 4096) = none → counted .FH_WHEY_INQ)
        ∧ (s.fld Fld.FH_INQ_ENABLE p.val = 1 → ∀ b, s.pickRun genLo genN (ceilDiv f.bytes.length 4096) = some b →
          ∃ t e, exec (.fhFrameReceive p f) s = .next t ∧ .put e ∈ t.qEnqs ∧ e.queue = s.fld Fld.FH_INQ_QUEUE p.val
            ∧ e.desc.take 8 = leBytes 8 (b * 4096)
            ∧ t.reg .FH_RX_FRAMES p.val = (s.reg .FH_RX_FRAMES p.val + 1) % 2 ^ 32))
      ∧ ∀ e o i, let b := f.bytes; let q := h.off; let w := beAt b (q + 10) 2
        let c := s.entryCar e; let mu := s.fld Fld.FH_C_CFG_MU c
        let slot := (s.nearFrame (u8 b (q + 9)) f.ns * 10 + w / 4096) * slotsPerSub mu + w / 64 % 64
        let pay := slice b (q + 12) (beAt b (q + 2) 2 - 8)
        let fi := u8 b (q + 8) % 16
        passes → policed = true → h.etype = 0xAEFE → ecpriOk b q = true → u8 b (q + 1) = 0 → 8 ≤ beAt b (q + 2) 2 →
        s.pcEntry p.val (beAt b (q + 4) 2) = some e → u8 b (q + 7) = 0x80 →
        ((s.port p.val).seqStep (e % 128) (u8 b (q + 6)) f.ns).1 = true →
        u8 b (q + 8) / 16 = 1 → (if s.fld Fld.FH_AXC_PRACH e = 1 then 1 ≤ fi ∧ fi ≤ 4 else fi = 0) →
        w / 4096 ≤ 9 → w / 64 % 64 < slotsPerSub mu → w % 64 ≤ 13 →
        s.airUnits mu slot (w % 64) + (s.fld Fld.FH_C_ULU_MIN c * 6144 : Nat) ≤ ((384 * f.ns : Nat) : Int) →
        ((384 * f.ns : Nat) : Int) ≤ s.airUnits mu slot (w % 64) + (s.fld Fld.FH_C_ULU_MAX c * 6144 : Nat) →
        s.matchInput (s.fld Fld.FH_AXC_AXC e) (w % 64) slot = some (o, i) → i.closed = false →
        (∃ n r, s.prbBytes (s.fld Fld.FH_C_CFG_METHOD c) (s.fld Fld.FH_C_CFG_WIDTH c) = some n ∧
          sectionsOf (s.fld Fld.FH_C_CFG_NPRB c) n (s.fld Fld.FH_C_CFG_STATIC c == 1)
            (s.fld Fld.FH_C_CFG_WIDTH c % 16 * 16 + s.fld Fld.FH_C_CFG_METHOD c) (pay.length + 1) pay = some r) →
        ∃ t x, exec (.fhFrameReceive p f) s = .next t ∧ (t.port p.val).held = (s.port p.val).held ++ [x] ∧ x.handle = o.handle
          ∧ x.inPort = i.port ∧ x.payload = pay ∧ t.orders = s.orders ∧ SameMemory s t
          ∧ t.fld Fld.FH_GRAN_RX_FREE p.val = s.fld Fld.FH_GRAN_RX_FREE p.val - ceilDiv f.len 256
          ∧ t.reg .FH_RX_FRAMES p.val = (s.reg .FH_RX_FRAMES p.val + 1) % 2 ^ 32))
  ∧ (∀ (s : State) (p : Fin 16), ((s.port p.val).held = [] → exec (.fhSectionWritten p) s = .next s)
    ∧ ∀ (h : FhHeld) (r : List FhHeld), Intact s → (s.port p.val).held = h :: r →
      ∃ t, exec (.fhSectionWritten p) s = .next t ∧ (t.port p.val).held = r
        ∧ (s.fld Fld.FH_GRAN_RX_FREE p.val + h.granules < 2 ^ 15 →
          t.fld Fld.FH_GRAN_RX_FREE p.val = s.fld Fld.FH_GRAN_RX_FREE p.val + h.granules)
        ∧ ∀ o i, s.orderOf h.handle = some o → o.input h.inPort = some i → ∃ x j, t.orderOf h.handle = some x ∧ x.input h.inPort = some j
          ∧ j.cov = i.cov ++ (s.heldSections p.val h).map (fun y => (h.unit, y.1, y.2.1))
          ∧ (j.arrived = true ↔ i.arrived = true ∨ ((∀ u < fhNSym i * fhN i, s.unitComplete i u j.cov = true)
            ∧ (i.closed = false ∨ (s.grain = 1016 ∧ s.beat = beatSub i.firstBeat 1)))))
  ∧ (∀ (s : State) (p : Fin 16),
    let u := s.txReturn p.val
    (u.egressNext p.val = none ∨ s.fhState p.val ≠ 2 → exec (.egressFrameSend p) s = .next u)
    ∧ ∀ (g : FhEgress) (c : Curd), u.egressNext p.val = some (g, c) → s.fhState p.val = 2 → Intact s →
      let m := u.nextMsg g
      let car := u.axcCar m.axc
      let w := u.txWindow m (u32 g.desc 4)
      let mu := u.fld Fld.FH_C_CFG_MU car
      let ea := u.fld Fld.FH_AXC_EAXC ((u.axcEntry m.axc).getD 0)
      let seq := Sparse.get 0 (u.port p.val).txSeq ea
      let pay := u.txPayload p.val g m seq
      let body := u.txEth p.val car ++ leBytes 1 0x10 ++ leBytes 1 (if m.type = 0 then 0 else 2) ++ beBytes 2 pay.1.length ++ pay.1
      let frame := body ++ zeros (60 - body.length)
      let dep := max (u.frameRelease p.val g) (384 * s.tm.ns : Nat)
      let last := dep + ((wireLen frame.length (u.secOn p.val) * 8 * 384 / u.fhGbps p.val : Nat) : Int)
      let gate := u.gateHolds m.axc (u.airUnits mu (u.airSlot mu (u32 g.desc 4)) m.sym / 384).toNat
      let stepped := fun (t : State) (x : FhEgress) =>
        (t.port p.val).job = (s.port p.val).job.map (fun y => if y.curd = g.curd then x else y) ∧ t.wire = s.wire ∧ SameMemory s t
      let miss := { g.next with missed := if m.sym ≤ 13 then orBit g.missed m.sym else g.missed }
      (u.msgOk p.val g m = false → ∃ t, exec (.egressFrameSend p) s = .next t ∧ stepped t miss ∧ SameRegs [(.FH_GRAN, p.val)] s t)
      ∧ (u.msgOk p.val g m = true →
        (((384 * (s.tm.ns + 153) : Nat) : Int) < dep → exec (.egressFrameSend p) s = .next u)
        ∧ (dep ≤ ((384 * (s.tm.ns + 153) : Nat) : Int) → w.2 < last → ∃ t, exec (.egressFrameSend p) s = .next t ∧ stepped t miss
          ∧ t.reg .FH_TX_MISSED p.val = (s.reg .FH_TX_MISSED p.val + 1) % 2 ^ 32 ∧ SameRegs [(.FH_GRAN, p.val), (.FH_TX_MISSED, p.val)] s t)
        ∧ (dep ≤ ((384 * (s.tm.ns + 153) : Nat) : Int) → last ≤ w.2 →
          (∀ n, gate = some n → ∃ t, exec (.egressFrameSend p) s = .next t
            ∧ stepped t { (g.past m pay.2) with held := orBit g.held m.sym }
            ∧ t.reg .SE_G_HELD n = (s.reg .SE_G_HELD n + 1) % 2 ^ 32 ∧ SameRegs [(.FH_GRAN, p.val), (.SE_G_HELD, n)] s t)
          ∧ (gate = none → u.canBuild p.val frame.length (u.secOn p.val) = false → exec (.egressFrameSend p) s = .next u)
          ∧ (gate = none → u.canBuild p.val frame.length (u.secOn p.val) = true → ∃ t x, exec (.egressFrameSend p) s = .next t
            ∧ t.wire = s.wire ++ [x] ∧ x.port = p.val ∧ x.ns = (dep / 384).toNat ∧ x.bytes = frame
            ∧ Sparse.get 0 (t.port p.val).txSeq ea = (seq + 1) % 256
            ∧ t.reg .FH_TX_FRAMES p.val = (s.reg .FH_TX_FRAMES p.val + 1) % 2 ^ 32
            ∧ SameRegs [(.FH_GRAN, p.val), (.FH_TX_FRAMES, p.val)] s t ∧ SameMemory s t))))
  ∧ (∀ (s : State) (p : Fin 16),
    let job := (s.egressJobs p.val).find? (fun x => !egressDescOk x.1.desc || x.1.down || x.1.done)
    (job = none → exec (.egressJobEnd p) s = .next s)
    ∧ ∀ (g : FhEgress) (c : Curd), job = some (g, c) → Intact s → ∃ t x, exec (.egressJobEnd p) s = .next t ∧ t.curdAt c.addr = some x
      ∧ x.st = .ended ∧ x.endStatus = (if g.bad = true ∨ g.down = true then 0x12 else 0x10) ∧ x.endStamp = s.stamp
      ∧ ∀ y ∈ (t.port p.val).job, y.curd ≠ c.addr)
  ∧ ∀ (s : State) (p : Fin 16) (host : List Byte),
    let u := s.txReturn p.val
    let q := s.fld Fld.FH_OUTQ_QUEUE p.val
    let off := s.fld Fld.FH_OUTQ_ENABLE p.val = 0 ∨ s.fhState p.val ≠ 2 ∨ s.qState q = 0 ∨ s.qOcc q = 0
    let slot := s.slotAddr q (s.reg .Q_HEAD q)
    let d := readBytes s.cave slot 32
    let b := if bitAt (u8 d 21) 0 = true then host.take (u32 d 8) else (s.caveRead (bits (u64 d 0) 39 0) (u32 d 8))
    let start := max s.tm.ns (s.port p.val).freeNs
    let fin := start + (wireLen b.length (s.secOn p.val) + 20) * 8 / s.fhGbps p.val + 64
    let ok := (∀ x, u.egressNext p.val = some x → ((384 * fin : Nat) : Int) ≤ (u.txWindow (u.nextMsg x.1) (u32 x.1.desc 4)).1)
      ∧ u.canBuild p.val b.length (s.secOn p.val) = true
    let headOn := fun (t : State) => t.reg .Q_HEAD q = (s.reg .Q_HEAD q + 1) % (2 * s.qDepth q)
    (off → exec (.hostFrameSend p host) s = .next u)
    ∧ (¬off → ptrOk d = false → ∃ t, exec (.hostFrameSend p host) s = .next t ∧ headOn t ∧ t.cave = writeBytes s.cave (slot + 20) [0x21]
      ∧ t.wire = s.wire ∧ SameRegs [(.Q_HEAD, q), (.FH_GRAN, p.val)] s t)
    ∧ (¬off → ptrOk d = true → ok → ∃ t x, exec (.hostFrameSend p host) s = .next t ∧ headOn t
      ∧ t.wire = s.wire ++ [x] ∧ x.port = p.val ∧ x.ns = start ∧ x.bytes = b
      ∧ t.reg .FH_TX_HOST p.val = (s.reg .FH_TX_HOST p.val + 1) % 2 ^ 32)
    ∧ (¬off → ptrOk d = true → ¬ok → exec (.hostFrameSend p host) s = .next u)

/-- Fabric links: enable, disable, train, greet, re-key and lose. -/
def Obligations.FabricLinks : Prop :=
  (∀ (s : State) (l : Fin 12) (src : Source), Reach s src →
    let off := fun (again : Bool) => s.fab.disAt.map (fun x => if x.1 = l.val then (l.val, x.2.1, again) else x)
    (∃ t, exec (.flEnable l src) s = .next t ∧ t.fld Fld.FL_CTRL_EN l.val = 1 ∧ t.fld Fld.FL_STAT_DIS_REFUSED l.val = 0
      ∧ (s.flState l.val = 0 → t.flState l.val = 1 ∧ t.fl l.val = {})
      ∧ (s.flState l.val ≠ 0 → t.flState l.val = s.flState l.val ∧ t.fab.disAt = off true
        ∧ t = { s with regs := t.regs, fab := { s.fab with disAt := t.fab.disAt } }))
    ∧ (s.flState l.val = 0 → ∃ t, exec (.flDisable l src) s = .next t ∧ RegsOnly s t ∧ t.fld Fld.FL_CTRL_EN l.val = 0 ∧ t.flState l.val = 0)
    ∧ (s.flState l.val ≠ 0 → s.fab.disAt.any (fun x => x.1 == l.val) = true → ∃ t, exec (.flDisable l src) s = .next t
      ∧ t.fld Fld.FL_CTRL_EN l.val = 0 ∧ t.flState l.val = s.flState l.val ∧ t.fab.disAt = off false
      ∧ t = { s with regs := t.regs, fab := { s.fab with disAt := t.fab.disAt } })
    ∧ (s.flState l.val ≠ 0 → s.fab.disAt.any (fun x => x.1 == l.val) = false →
      (s.noReservation (fun x => x.pool == 0xF && x.index == l.val) = true → ∃ t, exec (.flDisable l src) s = .next t
        ∧ t.fld Fld.FL_CTRL_EN l.val = 0 ∧ t.flState l.val = s.flState l.val ∧ t.fl l.val = s.fl l.val
        ∧ t.fab.disAt = s.fab.disAt ++ [(l.val, s.absFirst, false)] ∧ natAt t.cap.fabTt l.val = 0)
      ∧ (s.noReservation (fun x => x.pool == 0xF && x.index == l.val) = false → ∃ t, exec (.flDisable l src) s = .next t ∧ RegsOnly s t
        ∧ t.fld Fld.FL_STAT_DIS_REFUSED l.val = 1 ∧ SameRegs [(.FL_STAT, l.val)] s t ∧ t.flState l.val = s.flState l.val))
    ∧ (s.flState l.val = 4 → (s.fl l.val).rekeying = false → ∃ t, exec (.flRekey l src) s = .next t ∧ (t.fl l.val).rekeying = true
      ∧ (t.fl l.val).hello = s.helloBytes l.val false ∧ OnLink s t l.val 0x11 (s.helloBytes l.val false))
    ∧ ((s.flState l.val ≠ 4 ∨ (s.fl l.val).rekeying = true) → ∃ t, exec (.flRekey l src) s = .next t ∧ RegsOnly s t
      ∧ t.fld Fld.FL_STAT_DIS_REFUSED l.val = 0 ∧ SameRegs [(.FL_STAT, l.val)] s t))
  ∧ (∀ (s : State) (l : Fin 12) (margins : List (List (Nat × Nat))) (lats : List Nat),
    (s.flState l.val = 1 → (flLanes l.val).all s.laneUp = true → bitAt (s.reg .POWER_PADS) 8 = false → ∃ t x,
      exec (.linkTrained l margins lats) s = .next t ∧ t.flState l.val = 2 ∧ t.wire = s.wire ++ [x] ∧ x.port = 16 + l.val ∧ x.sec = none
      ∧ u8 x.bytes 0 = 0x10 ∧ x.bytes.drop 32 = (t.fl l.val).hello ∧ ∀ j : Fin 8, let i := 32 + 8 * l.val + j.val
        t.fld Fld.LN_STAT_SIG_DET i = 1 ∧ t.fld Fld.LN_STAT_CDR_LOCK i = 1 ∧ t.fld Fld.LN_STAT_ALIGNED i = 1
        ∧ t.reg .LN_LAT i = natAt lats j.val % 2 ^ 20
        ∧ t.fld Fld.LN_EQ_PEAK_USED i = if s.fld Fld.LN_EQ_AUTO i = 1 then eqSearch (margins.getD j.val []) else s.fld Fld.LN_EQ_PEAK i)
    ∧ ((s.flState l.val ≠ 1 ∨ (flLanes l.val).all s.laneUp = false ∨ bitAt (s.reg .POWER_PADS) 8 = true) →
      exec (.linkTrained l margins lats) s = .next s))
  ∧ (∀ (s : State) (l : Fin 12) (p : List Byte), (s.flState l.val ≠ 2 → exec (.hello l p) s = .next s)
    ∧ (s.flState l.val = 2 →
      (helloForm p = false → ∃ t, exec (.hello l p) s = .next t ∧ t.flState l.val = 2
        ∧ t.reg .FAB_CNT_BADHDR = (s.reg .FAB_CNT_BADHDR + 1) % 2 ^ 32 ∧ SameRegs [(.FL_CNT_RX, l.val), (.FAB_CNT_BADHDR, 0)] s t)
      ∧ (helloForm p = true → s.helloFail p ≠ 0 → ∃ t, exec (.hello l p) s = .next t ∧ t.flState l.val = 5
        ∧ t.reg .FL_CNT_HELLO_REJ l.val = (s.reg .FL_CNT_HELLO_REJ l.val + 1) % 2 ^ 32 ∧ Logged s t 0x0022 1 0xFF l.val (s.helloFail p))
      ∧ (helloForm p = true → s.helloFail p = 0 → let own := (s.fl l.val).hello; let k := linkKeys own p
        ∃ t b, exec (.hello l p) s = .next t ∧ t.flState l.val = 3
        ∧ t.fld Fld.FL_PEER_NUMBER l.val = (if bitAt (u16 p 16) 15 then u16 p 16 % 1024 else 0x3FF)
        ∧ t.fld Fld.FL_PEER_VALID l.val = b2n (bitAt (u16 p 16) 15) ∧ t.fld Fld.FL_PEER_LINK l.val = u8 p 18 % 16
        ∧ t.reg2 .FL_PEER_SERIAL_LO .FL_PEER_SERIAL_HI l.val = u64 p 0 ∧ (t.fl l.val).txKey = sealKey k own p
        ∧ (t.fl l.val).rxKey = sealKey k p own ∧ (t.fl l.val).rxSeq = 0 ∧ (t.fl l.val).sealedRx = false ∧ OnLink s t l.val 0x13 b)))
  ∧ ∀ (s : State) (l : Fin 12),
    let lost := (flLanes l.val).any (fun i => match (s.lane i).lostNs with | some t => t + 1000 ≤ s.tm.ns | none => false) = true
      ∨ (s.fl l.val).lastRx + 10000 ≤ s.tm.ns
    (2 ≤ s.flState l.val → s.flState l.val ≤ 4 → lost → ∃ t, exec (.flLinkLost l) s = .next t ∧ t.flState l.val = 1 ∧ t.fl l.val = {}
      ∧ (∀ vl : Fin 4, t.credit l.val vl.val = ⟨natAt vlCredits vl.val, 0, 0⟩) ∧ natAt t.cap.fabTt l.val = 0
      ∧ (∀ c ∈ t.cal, ∀ x ∈ c.cells, x.pool = 0xF → x.index = l.val → x.admits = 0 ∧ x.free = 0 ∧ x.res = 0)
      ∧ Logged s t 0x0021 1 0xFF l.val 0)
    ∧ ((s.flState l.val < 2 ∨ 4 < s.flState l.val ∨ ¬ lost) → exec (.flLinkLost l) s = .next s)

/-- The checks of an arriving frame, and frames in transit. -/
def Obligations.FabricFrames : Prop :=
  (∀ (s : State) (l : Fin 12) (f : FabFrame) (n m : Nat) (r : TopoReport) (w : RouteRows) (k : Fin 5242880)
    (a : Option (Bool × Nat)),
    let h := fabHdr f.bytes
    let u := s.ackFull l.val
    let x := u.fl l.val
    let next := h.lseq = x.rxSeq ∧ x.openKey h = some f.sealedBy
    let rate := s.fld Fld.FL_POLICE_VL1_RATE l.val
    ∀ c ∈ [Instr.frameForward l f, .rekeyFrame l f, .beacon l f n m, .topo l f r, .routeLoad l f w, .routeCommit l f, .fabData l f k,
      .fabCmd l f, .fabReply l f a, .remoteRun l f, .remoteAck l f, .fabTime l f n],
      (s.flSealed l.val = false → exec c s = .next s)
      ∧ (s.flSealed l.val = true → ¬next →
        ∃ t, exec c s = .next t ∧ t.reg .FL_CNT_AUTH l.val = (s.reg .FL_CNT_AUTH l.val + 1) % 2 ^ 32
        ∧ t.fab.sets = u.fab.sets ++ [.nak l.val x.rxSeq] ∧ (t.fl l.val).rxSeq = x.rxSeq
        ∧ SameRegs [(.FL_CNT_RX, l.val), (.FL_CNT_AUTH, l.val)] s t
        ∧ t = { s with regs := t.regs, fab := { s.fab with links := t.fab.links, sets := t.fab.sets } })
      ∧ (s.flSealed l.val = true → next → natAt x.rxFree h.vl < frameCost h.len → ∃ t, exec c s = .next t ∧ t.flState l.val = 5
        ∧ t.reg .FL_CNT_RX l.val = (s.reg .FL_CNT_RX l.val + 1) % 2 ^ 32
        ∧ t.reg .FL_CNT_CREDIT_OVR l.val = (s.reg .FL_CNT_CREDIT_OVR l.val + 1) % 2 ^ 32)
      ∧ (s.flState l.val = 4 → next → frameCost h.len ≤ natAt x.rxFree h.vl →
        (hdrOk f.bytes = false → ∃ t, exec c s = .next t ∧ t.reg .FAB_CNT_BADHDR = (s.reg .FAB_CNT_BADHDR + 1) % 2 ^ 32
          ∧ (t.fl l.val).rxSeq = x.rxSeq + 1 ∧ SameRegs [(.FL_CNT_RX, l.val), (.FAB_CNT_BADHDR, 0)] s t
          ∧ t = { s with regs := t.regs, fab := { s.fab with links := t.fab.links, sets := t.fab.sets } })
        ∧ (hdrOk f.bytes = true → h.vl = 1 → rate ≠ 0 → rate * 3125 < 2 * (x.vl1 + 48 + h.len) → ∃ t, exec c s = .next t
          ∧ t.reg .FL_CNT_POLICE l.val = (s.reg .FL_CNT_POLICE l.val + 1) % 2 ^ 32
          ∧ (t.fl l.val).rxSeq = x.rxSeq + 1 ∧ SameRegs [(.FL_CNT_RX, l.val), (.FL_CNT_POLICE, l.val)] s t
          ∧ t = { s with regs := t.regs, fab := { s.fab with links := t.fab.links, sets := t.fab.sets } })))
  ∧ (∀ (s : State) (l : Fin 12) (f : FabFrame), let h := fabHdr f.bytes; let x := (s.ackFull l.val).fl l.val
    s.flState l.val = 3 → h.lseq = x.rxSeq → x.openKey h = some f.sealedBy → frameCost h.len ≤ natAt x.rxFree h.vl →
      (Taken s l.val f).flState l.val = (if x.sealedTx then 4 else 3) ∧ ((Taken s l.val f).fl l.val).sealedRx = true)
  ∧ (∀ (s : State) (l : Fin 12) (f : FabFrame), Accepts s l.val f →
    let t := Taken s l.val f
    let u := s.ackFull l.val
    let h := fabHdr f.bytes
    (t.fl l.val).rxSeq = (s.fl l.val).rxSeq + 1 ∧ (t.fl l.val).unacked = (u.fl l.val).unacked + 1 ∧ (t.fl l.val).unacked ≤ 64
    ∧ natAt (t.fl l.val).rxFree h.vl = natAt (u.fl l.val).rxFree h.vl - frameCost h.len
    ∧ natAt (t.fl l.val).rxHeld h.vl = natAt (u.fl l.val).rxHeld h.vl + frameCost h.len
    ∧ t.reg .FL_CNT_RX l.val = (s.reg .FL_CNT_RX l.val + 1) % 2 ^ 32 ∧ SameRegs [(.FL_CNT_RX, l.val)] s t
    ∧ (∀ k, k ≠ l.val → t.fl k = s.fl k) ∧ t.fab.sets = u.fab.sets
    ∧ t = { s with regs := t.regs, fab := { s.fab with links := t.fab.links, sets := t.fab.sets } })
  ∧ ∀ (s : State) (l : Fin 12) (f : FabFrame), Accepts s l.val f →
    let h := fabHdr f.bytes
    let nl := s.routeLink h.gen h.dst h.ridx h.dph
    ((routedKind h.kind = false ∨ s.modNum = some h.dst) → exec (.frameForward l f) s = .next (Taken s l.val f))
    ∧ (routedKind h.kind = true → s.modNum ≠ some h.dst →
      (s.genLive h.gen = false → ∃ t, exec (.frameForward l f) s = .next t
        ∧ t.reg .FAB_CNT_EXPIRED = (s.reg .FAB_CNT_EXPIRED + 1) % 2 ^ 32
        ∧ (h.kind ≠ 2 → t.wire = s.wire ∧ t.fab.sets = (Taken s l.val f).fab.sets ++ [.credit l.val h.vl (frameCost h.len)])
        ∧ (h.kind = 2 → ∀ q r, s.pickRoute h.src 0 = some (q, r) →
          OnLink s t q 3 (mkPacket 0 (u16 f.bytes 36 % 32768 + 32768) (u32 f.bytes 40) (leBytes 4 0x32))))
      ∧ (s.genLive h.gen = true →
        (h.ttl = 0 → exec (.frameForward l f) s = .next ((Taken s l.val f).bump .FAB_CNT_TTL))
        ∧ (h.ttl ≠ 0 → 12 ≤ nl → exec (.frameForward l f) s = .next ((Taken s l.val f).bump .FAB_CNT_NOROUTE))
        ∧ (h.ttl ≠ 0 → nl < 12 → s.flState nl ≠ 4 → exec (.frameForward l f) s = .next ((Taken s l.val f).bump .FAB_CNT_DOWN))
        ∧ (h.ttl ≠ 0 → nl < 12 → s.flState nl = 4 → ∃ t, exec (.frameForward l f) s = .next t
          ∧ OnLink s t nl h.kind (f.bytes.drop 32))))

/-- Acknowledgement, credits, re-keying and time on a link. -/
def Obligations.LinkUpkeep : Prop :=
  (∀ (s : State) (l : Fin 12) (n : Nat) (vl : Fin 4), s.flSealed l.val = false → ∀ c ∈ [Instr.ack l n, .nak l n, .ackSend l, .creditReturn l vl n],
    exec c s = .next s)
  ∧ (∀ (s : State) (l : Fin 12) (n : Nat), let x := s.fl l.val
    let again := x.held.map (fun h => if n ≤ h.lseq then { h with resent := h.resent + 1 } else h)
    (s.flState l.val = 4 → ∃ t, exec (.ack l n) s = .next t
      ∧ t.fl l.val = { x with held := x.held.filter (fun h => n < h.lseq), sealedTx := (t.fl l.val).sealedTx, lastRx := s.tm.ns } ∧ t.regs = s.regs
      ∧ ∀ vl : Fin 4, let k := ((x.held.filter (fun h => h.lseq ≤ n && h.vl == vl.val)).map HeldFrame.cost).sum
        (t.credit l.val vl.val).inFlight = (s.credit l.val vl.val).inFlight - k ∧ (t.credit l.val vl.val).atSender = (s.credit l.val vl.val).atSender
        ∧ (t.credit l.val vl.val).inBuffer = (s.credit l.val vl.val).inBuffer + min k (s.credit l.val vl.val).inFlight)
    ∧ (s.flState l.val = 3 → ∃ t, exec (.ack l n) s = .next t
      ∧ t.flState l.val = (if (x.sealedTx = true ∨ ∃ h ∈ x.held, h.lseq ≤ n) ∧ x.sealedRx = true then 4 else 3))
    ∧ (s.flSealed l.val = true → x.held.any (fun h => h.lseq == n) = false → exec (.nak l n) s = .next s)
    ∧ (s.flSealed l.val = true → x.held.any (fun h => h.lseq == n) = true →
      (again.any (fun h => h.resent == 3) = false → ∃ t w, exec (.nak l n) s = .next t ∧ t.wire = s.wire ++ w
        ∧ w.map Wire.bytes = (x.held.filter (fun h => n ≤ h.lseq)).map HeldFrame.bytes ∧ (∀ y ∈ w, y.port = 16 + l.val)
        ∧ t.reg .FL_CNT_RESEND l.val = (s.reg .FL_CNT_RESEND l.val + w.length) % 2 ^ 32 ∧ (t.fl l.val).held = again
        ∧ t.flState l.val = s.flState l.val)
      ∧ (again.any (fun h => h.resent == 3) = true → ∃ t, exec (.nak l n) s = .next t ∧ t.flState l.val = 1 ∧ t.fl l.val = {}
        ∧ Logged s t 0x0021 1 0xFF l.val 0))
    ∧ (s.flSealed l.val = true → x.unacked = 0 → exec (.ackSend l) s = .next s)
    ∧ (s.flSealed l.val = true → x.unacked ≠ 0 → ∃ t, exec (.ackSend l) s = .next t
      ∧ t.fab.sets = s.fab.sets ++ .ack l.val (x.rxSeq - 1)
        :: ((List.range 4).filter (fun v => natAt x.rxHeld v != 0)).map (fun v => OrdSet.credit l.val v (natAt x.rxHeld v))
      ∧ (t.fl l.val).unacked = 0 ∧ (t.fl l.val).rxHeld = [0, 0, 0, 0]
      ∧ (t.fl l.val).rxFree = (List.range 4).map (fun v => natAt x.rxFree v + natAt x.rxHeld v) ∧ t.regs = s.regs))
  ∧ (∀ (s : State) (l : Fin 12) (vl : Fin 4) (n : Nat), s.flSealed l.val = true → ∃ t, exec (.creditReturn l vl n) s = .next t
    ∧ (∀ v : Fin 4, let a := s.credit l.val v.val; let b := t.credit l.val v.val
      b.atSender + b.inFlight + b.inBuffer = a.atSender + a.inFlight + a.inBuffer)
    ∧ ((s.fl l.val).txQ = [] → t.credit l.val vl.val = (let c := s.credit l.val vl.val
      let a := min n c.inBuffer; let b := min (n - a) c.inFlight; ⟨c.atSender + a + b, c.inFlight - b, c.inBuffer - a⟩)))
  ∧ (∀ (s : State) (l : Fin 12) (f : FabFrame), Accepts s l.val f → (fabHdr f.bytes).kind = 0x11 →
    let p := f.bytes.drop 32
    let form := helloForm p = true ∧ u16 p 192 = 0 ∧ u16 p 194 = 0
    let moved := s.fld Fld.FL_PEER_VALID l.val = 1 ∧ u16 p 16 ≠ s.fld Fld.FL_PEER_NUMBER l.val + 2 ^ 15
    let own := if (s.fl l.val).rekeying then (s.fl l.val).hello else s.helloBytes l.val false
    let tx := sealKey (linkKeys own p) own p
    (¬form → exec (.rekeyFrame l f) s = .next ((Taken s l.val f).bump .FAB_CNT_BADHDR))
    ∧ (form → s.rekeyFail l.val p ≠ 0 → ∃ t, exec (.rekeyFrame l f) s = .next t ∧ t.flState l.val = 5
      ∧ t.reg .FL_CNT_HELLO_REJ l.val = (s.reg .FL_CNT_HELLO_REJ l.val + 1) % 2 ^ 32
      ∧ Logged s t 0x0022 1 0xFF l.val (s.rekeyFail l.val p))
    ∧ (form → s.rekeyFail l.val p = 0 → moved → ∃ t, exec (.rekeyFrame l f) s = .next t ∧ t.flState l.val = 1 ∧ t.fl l.val = {})
    ∧ (form → s.rekeyFail l.val p = 0 → ¬moved → ∃ t, exec (.rekeyFrame l f) s = .next t ∧ (t.fl l.val).rekeying = false
      ∧ (t.fl l.val).keyEpochs = 0 ∧ (t.fl l.val).hello = own ∧ (t.fl l.val).nextRx = some (sealKey (linkKeys own p) p own)
      ∧ ((t.fl l.val).nextTx = some tx ∨ (t.fl l.val).txKey = tx)
      ∧ ((s.fl l.val).rekeying = false → OnLink s t l.val 0x11 own)
      ∧ ((s.fl l.val).rekeying = true → (s.fl l.val).txQ.any (fun g => g.kind == 0x11) = false →
        (t.fl l.val).txPhase = !(s.fl l.val).txPhase ∧ (t.fl l.val).txKey = tx)
      ∧ ((s.fl l.val).rekeying = true → (s.fl l.val).txQ.any (fun g => g.kind == 0x11) = true →
        (t.fl l.val).txPhase = (s.fl l.val).txPhase ∧ (t.fl l.val).nextTx = some tx)))
  ∧ (∀ (s : State) (l : Fin 12) (f : FabFrame) (at4 : Nat), Accepts s l.val f → (fabHdr f.bytes).kind = 0x13 →
    let p := f.bytes.drop 32
    let t3 : Nat := u64 p 0 * 2 ^ 32 + u32 p 8
    let t2 : Nat := u64 p 12 * 2 ^ 32 + u32 p 20
    let t1 : Nat := (s.fl l.val).sentAt
    ∃ t, exec (.fabTime l f at4) s = .next t ∧ (t.fl l.val).timeRx = some at4
      ∧ (s.parentLink = some l.val → t.tm.parentOf = some l.val
        ∧ t.tm.parentFrames = if s.tm.parentOf = some l.val then s.tm.parentFrames + 1 else 1)
      ∧ (∀ t4 : Nat, (s.fl l.val).timeRx = some t4 → t1 ≠ 0 → t2 ≠ 0 → t3 ≠ 0 → ∃ d o : Int,
        t.reg .FL_DELAY l.val = enc 32 d ∧ t.reg .FL_T_OFFSET l.val = enc 32 o
        ∧ ((d - sext 16 (s.fld Fld.FL_ASYM_ASYM l.val)) * 2 ^ 33 - ((t4 : Int) - (t1 : Int) - ((t3 : Int) - (t2 : Int))) * 1000).natAbs < 2 ^ 33
        ∧ ((o + d) * 2 ^ 32 - ((t2 : Int) - (t1 : Int)) * 1000).natAbs < 2 ^ 32))
  ∧ ∀ s : State, ∃ t, exec .timeFrameSend s = .next t ∧ t.upLinks = s.upLinks ∧ t.orders = s.orders ∧ SameMemory s t
    ∧ ∀ l ∈ s.upLinks, ∃ p, p.length = 24 + s.timeQuality.length ∧ OnLink s t l 0x13 p

/-- Coordinator, reports, routes and the queries about them. -/
def Obligations.FabricMembership : Prop :=
  let way := fun (s : State) => if s.modNum.isSome = true ∧ s.fld Fld.FAB_COORD_VALID = 1 ∧ (s.pickRoute (s.fld Fld.FAB_COORD_NUMBER) 0).isSome = true then
    (s.pickRoute (s.fld Fld.FAB_COORD_NUMBER) 0).map Prod.fst else s.numberedPeer
  let bytes := fun (r : TopoReport) => Config.topoBytes r.serial r.number r.stored r.links r.quality
  (∀ (s : State) (l : Fin 12) (f : FabFrame) (n m : Nat), Accepts s l.val f → (fabHdr f.bytes).kind = 0x12 →
    ∃ t, exec (.beacon l f n m) s = .next t ∧ (t.fl l.val).beacon = some (n, m, s.absBeat) ∧ SameRegs [(.FL_CNT_RX, l.val)] s t
      ∧ t = { s with regs := t.regs, fab := { s.fab with links := t.fab.links, sets := t.fab.sets } })
  ∧ (∀ s : State, let due := s.gridRun = true ∧ s.grain = 0 ∧ s.beat % 80 = 0
    let st := if s.bestCand.1 = s.kp.serial then s.fab.stable + 1 else 0
    (due → ∃ t, exec .beaconTick s = .next t ∧ t.fab.best = s.bestCand ∧ t.fab.stable = st
      ∧ t.fld Fld.FAB_MODNUM_COORD = (if 8 ≤ st then 1 else 0)
      ∧ (8 ≤ st → t.fld Fld.FAB_COORD_NUMBER = s.srcNum ∧ t.fld Fld.FAB_COORD_VALID = s.fld Fld.FAB_MODNUM_VALID)
      ∧ (st < 8 → s.isCoord = true → t.fld Fld.FAB_COORD_NUMBER = 0x3FF ∧ t.fld Fld.FAB_COORD_VALID = 0)
      ∧ (st < 8 → s.isCoord = false → t.reg .FAB_COORD = s.reg .FAB_COORD)
      ∧ ∀ l ∈ s.upLinks, OnLink s t l 0x12 (Config.beaconBytes s.bestCand.1 s.bestCand.2))
    ∧ (¬ due → exec .beaconTick s = .next s))
  ∧ (∀ s : State, let due := s.gridRun = true ∧ (s.fab.dirty ≠ none ∨ s.fab.reported ≠ some s.tm.epochCount)
    (due → ∃ t, exec .topoReport s = .next t ∧ t.fab.dirty = none ∧ t.fab.reported = some s.tm.epochCount
      ∧ (s.isCoord = true → ∃ r ∈ t.fab.reports, r.serial = s.kp.serial ∧ r.links = s.ownReport.links ∧ r.number = s.modNum
        ∧ r.quality = s.topoQuality ∧ r.seen = s.tm.epochCount)
      ∧ (s.isCoord = false → ∀ k, way s = some k → OnLink s t k 6 (bytes s.ownReport)))
    ∧ (¬ due → exec .topoReport s = .next s))
  ∧ (∀ (s : State) (l : Fin 12) (f : FabFrame) (r : TopoReport), ForUs s l.val 6 f →
    (s.isCoord = true → ∃ t, exec (.topo l f r) s = .next t ∧ { r with seen := s.tm.epochCount } ∈ t.fab.reports
      ∧ (∀ x ∈ s.fab.reports, x.serial ≠ r.serial → x ∈ t.fab.reports) ∧ ∀ x ∈ t.fab.reports, x.serial = r.serial → x.links = r.links)
    ∧ (s.isCoord = false → (way s = none → exec (.topo l f r) s = .next (Taken s l.val f))
      ∧ ∀ k, way s = some k → ∃ t, exec (.topo l f r) s = .next t ∧ OnLink s t k 6 (bytes r) ∧ t.fab.reports = s.fab.reports))
  ∧ (∀ s : State,
    let idle := s.isCoord = false ∨ s.fab.changed = false ∨ s.fab.computed = some s.tm.epochCount ∨ s.fab.change ≠ none
      ∨ s.fld Fld.FAB_GEN_OVERLAP = 1 ∨ s.epochLate = true ∨ s.gridRun = false
    let reps := sortReps (s.ownReport :: s.fab.reports.filter (fun r => r.serial != s.kp.serial && s.tm.epochCount < r.seen + 64))
    (idle ∨ numOf (assignNums reps) s.kp.serial = none → exec .routeCompute s = .next s)
    ∧ (¬ idle → numOf (assignNums reps) s.kp.serial ≠ none → ∃ t, exec .routeCompute s = .next t ∧ t.fab.changed = false
      ∧ t.fab.computed = some s.tm.epochCount
      ∧ (∃ c, t.fab.change = some c ∧ c.epoch = nextEpoch s.epoch ∧ c.acked = [] ∧ c.committed = false)
      ∧ t.fab.loadEpoch = some (nextEpoch s.epoch) ∧ t.fld Fld.FAB_GEN_PENDING = 1 ∧ t.fld Fld.FAB_GEN_ACTIVE = s.fld Fld.FAB_GEN_ACTIVE
      ∧ ∀ d < 1024, t.reg .ROUTE (s.gen * 1024 + d) = s.reg .ROUTE (s.gen * 1024 + d)))
  ∧ (∀ (s : State) (l : Fin 12) (f : FabFrame) (w : RouteRows),
    ForUs s l.val 7 f ∨ (s.modNum = none ∧ Accepts s l.val f ∧ (fabHdr f.bytes).kind = 7) →
    let src := (fabHdr f.bytes).src
    let late := 1152 < s.beat % 1280 ∨ s.fld Fld.FAB_GEN_OVERLAP = 1
    (s.trusted src = false → exec (.routeLoad l f w) s = .next ((Taken s l.val f).bump .FAB_CNT_BADHDR))
    ∧ (s.trusted src = true → late → ∃ t, exec (.routeLoad l f w) s = .next t ∧ t.fab.loadEpoch = s.fab.loadEpoch ∧ t.cap = s.cap
      ∧ (∀ i, t.reg .ROUTE i = s.reg .ROUTE i) ∧ ∀ k q, s.pickRoute src 0 = some (k, q) → OnLink s t k 3 (Config.routeAck false 0x24))
    ∧ (s.trusted src = true → ¬late → ∃ t, exec (.routeLoad l f w) s = .next t
      ∧ t.fab.loadEpoch = some (nextEpoch s.epoch) ∧ t.fab.commitEpoch = none
      ∧ t.fld Fld.FAB_GEN_PENDING = 1 ∧ t.fld Fld.FAB_GEN_ACTIVE = s.fld Fld.FAB_GEN_ACTIVE ∧ t.fab.timeSrc = w.timeSrc
      ∧ (∀ d < 1024, t.reg .ROUTE (s.gen * 1024 + d) = s.reg .ROUTE (s.gen * 1024 + d))
      ∧ ((w.routes.map Prod.fst).Nodup → ∀ r ∈ w.routes, r.1 < 1024 → t.reg .ROUTE ((1 - s.gen) * 1024 + r.1) = r.2 % 2 ^ 32)
      ∧ ∀ k q, s.pickRoute src 0 = some (k, q) → OnLink s t k 3 (Config.routeAck false 0)))
  ∧ (∀ (s : State) (l : Fin 12) (f : FabFrame), ForUs s l.val 8 f ∨ (s.modNum = none ∧ Accepts s l.val f ∧ (fabHdr f.bytes).kind = 8) →
    (s.fab.loadEpoch = some (u32 f.bytes 32) → ∃ t, exec (.routeCommit l f) s = .next t ∧ t.fab.commitEpoch = some (u32 f.bytes 32)
      ∧ ∀ k q, s.pickRoute (fabHdr f.bytes).src 0 = some (k, q) → OnLink s t k 3 (Config.routeAck true 0))
    ∧ (s.fab.loadEpoch ≠ some (u32 f.bytes 32) → exec (.routeCommit l f) s = .next (Taken s l.val f)))
  ∧ ∀ (s : State) (c : CmdCtx),
    let coord := s.fld Fld.FAB_COORD_NUMBER
    (∀ i ∈ [Instr.fabQuery c, .routeQuery c, .ttRequest c],
      (s.fld Fld.STEWARD_STAT_STATE ≠ 1 → ∃ t, exec i s = .next t ∧ Replied s t c 0x25 [] ∧ Spoke s t)
      ∧ (s.fld Fld.STEWARD_STAT_STATE = 1 → s.stewardTurn c = false → exec i s = .next s))
    ∧ (TakesNow s c →
      (c.payload.length ≠ 0 → ∃ t, exec (.fabQuery c) s = .next t ∧ Replied s t c 0x22 [] ∧ Spoke s t)
      ∧ (c.payload.length ≠ 4 → ∀ i ∈ [Instr.routeQuery c, .ttRequest c], ∃ t, exec i s = .next t ∧ Replied s t c 0x22 [] ∧ Spoke s t)
      ∧ (c.payload.length = 0 → ∃ t, exec (.fabQuery c) s = .next t ∧ Spoke s t ∧ Replied s t c 0 (leBytes 4 (s.reg .FAB_MODNUM)
        ++ leBytes 4 (s.reg .FAB_COORD) ++ leBytes 8 s.fab.best.1 ++ leBytes 4 (s.reg .FAB_GEN)
        ++ leBytes 4 (s.upLinks.foldl (fun m l => m + 2 ^ l) 0)))
      ∧ (c.payload.length = 4 → 1024 ≤ u16 c.payload 0 ∨ u16 c.payload 2 ≠ 0 → ∃ t, exec (.routeQuery c) s = .next t
        ∧ Replied s t c 0x21 [] ∧ Spoke s t)
      ∧ (c.payload.length = 4 → u16 c.payload 0 < 1024 → u16 c.payload 2 = 0 → ∃ t, exec (.routeQuery c) s = .next t ∧ Spoke s t
        ∧ Replied s t c 0 (leBytes 4 (s.reg .ROUTE (u16 c.payload 0)) ++ leBytes 4 (s.reg .ROUTE (1024 + u16 c.payload 0))))
      ∧ (c.payload.length = 4 → 1024 ≤ u16 c.payload 0 ∨ 1024 < u16 c.payload 2 → ∃ t, exec (.ttRequest c) s = .next t
        ∧ Replied s t c 0x21 [] ∧ Spoke s t)
      ∧ (c.payload.length = 4 → u16 c.payload 0 < 1024 → u16 c.payload 2 ≤ 1024 →
        (s.isCoord = true → ∃ t, exec (.ttRequest c) s = .next t ∧ Replied s t c 0 (leBytes 4 (1 - s.gen)) ∧ t.fab.changed = true
          ∧ t.fab.wishes = s.fab.wishes.filter (fun w => !(w.src == s.asker c && w.dst == u16 c.payload 0))
            ++ [⟨s.asker c, u16 c.payload 0, u16 c.payload 2⟩])
        ∧ (s.isCoord = false → s.fld Fld.FAB_COORD_VALID ≠ 1 ∨ s.pickRoute coord 0 = none → ∃ t, exec (.ttRequest c) s = .next t
          ∧ Replied s t c 0x25 [] ∧ Spoke s t)
        ∧ (s.isCoord = false → s.fld Fld.FAB_COORD_VALID = 1 → ∀ k q, s.pickRoute coord 0 = some (k, q) →
          ∃ t, exec (.ttRequest c) s = .next t ∧ OnLink s t k 2 (mkPacket 2 c.opcode c.tag c.payload) ∧ t.replies = s.replies
            ∧ ∃ j ∈ t.mg.journal, j.ctx = c ∧ j.done = false)))

/-- Streams, jobs and commands over the fabric. -/
def Obligations.FabricJobs : Prop :=
  (∀ (s : State) (l : Fin 12) (f : FabFrame) (k : Fin 5242880), ForUs s l.val 1 f → (fabHdr f.bytes).stag ≠ 0xFFFF →
    let h := fabHdr f.bytes
    let p := f.bytes.drop 32
    (s.fabInput h.src h.stag = none → exec (.fabData l f k) s = .next ((Taken s l.val f).bump .FAB_CNT_NOINPUT))
    ∧ ∀ o i, s.fabInput h.src h.stag = some (o, i) → let n := bits i.ref 47 32 * 64
      let wrong := i.got.contains (h.off / 2048) = true ∨ n < h.off + h.len ∨ (h.len ≠ 2048 ∧ h.off / 2048 + 1 ≠ nChunks n)
      (wrong → exec (.fabData l f k) s = .next ((Taken s l.val f).bump .FAB_CNT_BADHDR))
      ∧ (¬wrong →
        (i.closed = true → exec (.fabData l f k) s = .next ((Taken s l.val f).bump .FAB_CNT_CLOSED))
        ∧ (i.closed = false → Intact s → s.orderOf o.handle = some o → o.input i.port = some i → ∃ t x j, exec (.fabData l f k) s = .next t
          ∧ t.orderOf o.handle = some x ∧ x.input i.port = some j ∧ j.got = i.got ++ [h.off / 2048]
          ∧ (j.arrived = true ↔ i.arrived = true ∨ i.got.length + 1 = nChunks n)
          ∧ x.fault = (o.fault || (h.last && h.status != 0 && h.status != 0x10))
          ∧ (arenaLo * 4096 ≤ i.buf + h.off → i.buf + h.off + p.length ≤ (arenaLo + arenaN) * 4096 →
            (∀ c ∈ s.curds, c.addr + 64 ≤ i.buf + h.off ∨ i.buf + h.off + p.length ≤ c.addr) →
            (∀ b, (i.buf + h.off) / 4096 ≤ b → b * 4096 < i.buf + h.off + p.length → s.owner b = none ∨ s.owner b = some (.order o.handle)) →
            t.caveRead (i.buf + h.off) p.length = p))))
  ∧ (∀ (s : State) (l : Fin 12) (f : FabFrame) (k : Fin 5242880), ForUs s l.val 1 f → (fabHdr f.bytes).stag = 0xFFFF →
    let h := fabHdr f.bytes
    let x := s.flow k.val
    let here := s.fab.moveIn.any (fun m => m.live && m.peer == h.src && m.first ≤ k.val && k.val < m.first + m.n)
    let fits := x.sbState = 0 ∧ x.state = 1 ∧ h.off + h.len ≤ x.sbBlocks * 4096
    (here = false → exec (.fabData l f k) s = .next ((Taken s l.val f).bump .FAB_CNT_NOINPUT))
    ∧ (here = true → fits → ∃ t, exec (.fabData l f k) s = .next t ∧ t.flow k.val = (if h.last then { x with sbState := 1 } else x) ∧ t.orders = s.orders)
    ∧ (here = true → ¬fits → exec (.fabData l f k) s = .next
      (if h.last then (Taken s l.val f).bump .FAB_CNT_MOVE_DISC else Taken s l.val f)))
  ∧ (∀ (s : State) (a : Nat), (s.curdAt a = none → exec (.fabricJobEnd a) s = .next s)
    ∧ ∀ c, s.curdAt a = some c →
    let ready := c.cls = 10 ∧ c.st = .running ∧ s.fab.jobs.any (fun j => j.curd == a) = true ∧ s.jobSent c = true
    (ready → ∃ t x, exec (.fabricJobEnd a) s = .next t ∧ t.curdAt a = some x ∧ x.st = .ended ∧ x.endStatus = 0x10 ∧ x.endStamp = s.stamp
      ∧ ∀ j ∈ t.fab.jobs, j.curd ≠ a)
    ∧ (¬ ready → exec (.fabricJobEnd a) s = .next s))
  ∧ (∀ (s : State) (l : Fin 12) (f : FabFrame), ForUs s l.val 4 f →
    let h := fabHdr f.bytes
    let p := f.bytes.drop 32
    let b := beatAdd s.beat 1
    let g? := s.fab.grants.find? (fun g => g.lessee == h.src && g.slot == u8 p 1 && g.lease.epoch == epochOf b)
    let answered := fun (t : State) (st handle : Nat) => ∀ k q, s.pickRoute h.src 0 = some (k, q) → OnLink s t k 5 (leBytes 4 st ++ leBytes 4 handle)
    let refused := fun (st : Nat) => ∃ t, exec (.remoteRun l f) s = .next t ∧ t.orders = s.orders ∧ t.sentFree = s.sentFree ∧ answered t st 0
    (g? = none → refused 0x24 ∧ ∃ t, exec (.remoteRun l f) s = .next t ∧ t.reg .FAB_CNT_BADHDR = (s.reg .FAB_CNT_BADHDR + 1) % 2 ^ 32)
    ∧ ∀ g, g? = some g →
      ((p.length ≠ 64 ∨ u8 p 0 ≠ 0 ∨ remoteOk p = false ∨ u64 p 20 ≠ 0) →
        exec (.remoteRun l f) s = .next ((Taken s l.val f).bump .FAB_CNT_BADHDR))
      ∧ (p.length = 64 → u8 p 0 = 0 → remoteOk p = true → u64 p 20 = 0 →
        (s.orderImage (u16 p 2) = none → refused 0x04)
        ∧ ∀ slot, s.orderImage (u16 p 2) = some slot →
          let img := (s.image slot).bytes
          let runs := certified (remoteDec s g slot p b) s.judgedStep = true ∧ u16 p 4 < imgNTask img
          let fits := classPool (imgTaskAt img (u16 p 4)).cls = some g.lease.pool
            ∧ s.leaseFits h.src (u8 p 1) b g.lease (remoteNeed img p g.lease.die) = true
          (¬runs → refused 0x04) ∧ (runs → ¬fits → refused 0x05) ∧ (runs → fits → 1007 < s.grain → refused 0x03)
          ∧ (runs → fits → s.grain ≤ 1007 → Intact s →
            ∃ t o, exec (.remoteRun l f) s = .next t ∧ o ∈ t.orders ∧ o.promised = mkStamp b 1012 ∧ o.slot = slot
            ∧ (o.remote.map (fun r => (r.lessee, r.slot, r.outTag, r.outLen, r.cost))
              = some (h.src, u8 p 1, u16 p 10, u32 p 16, u16 p 6 * quantumOf (u16 p 8))) ∧ answered t 1 o.handle
            ∧ t.orders.length = s.orders.length + 1 ∧ t.sentFree = s.sentFree - 1 ∧ t.sentArmed = s.sentArmed + 1)))
  ∧ (∀ (s : State) (l : Fin 12) (f : FabFrame), ForUs s l.val 5 f →
    let waits := fun (j : RemoteJob) => j.lessor == (fabHdr f.bytes).src && !j.acked
      && (match s.curdAt j.curd with | some c => c.cls == 11 && c.st == .running | none => false)
    (s.fab.jobs.find? waits = none → exec (.remoteAck l f) s = .next (Taken s l.val f))
    ∧ ∀ j c, s.fab.jobs.find? waits = some j → s.curdAt j.curd = some c →
      let ends := fun (st : Nat) => ∃ t x, exec (.remoteAck l f) s = .next t ∧ t.curdAt j.curd = some x ∧ x.st = .ended ∧ x.endStatus = st
        ∧ ∀ y ∈ t.fab.jobs, y.curd ≠ j.curd
      (u8 f.bytes 32 ≠ 1 → ends 0x12)
      ∧ (u8 f.bytes 32 = 1 → s.jobSent c = true → ends 0x10)
      ∧ (u8 f.bytes 32 = 1 → s.jobSent c = false → ∃ t, exec (.remoteAck l f) s = .next t
        ∧ ∃ y ∈ t.fab.jobs, y.curd = j.curd ∧ y.acked = true))
  ∧ (∀ (s : State) (n : Fin 16384), (s.orderAt n.val = none ∨ (∃ o, s.orderAt n.val = some o ∧ o.remote = none) → exec (.remoteSentinel n) s = .next s)
    ∧ ∀ (o : Order) (r : RemoteSt), s.orderAt n.val = some o → o.remote = some r →
    let due := s.gridRun = true ∧ s.beat = stampBeat o.promised ∧ s.grain = 1000
    (due → Intact s → ∃ t, exec (.remoteSentinel n) s = .next t ∧ (∀ x ∈ t.orders, x.handle ≠ o.handle) ∧ (∀ c ∈ t.curds, c.handle ≠ o.handle)
      ∧ t.sentFree = s.sentFree + 1 ∧ ∀ k q, s.pickRoute r.lessee 0 = some (k, q) →
        ∀ i < nChunks r.outLen, OnLink s t k 1 (slice (s.caveRead r.outAddr r.outLen) (2048 * i) 2048))
    ∧ (¬ due → exec (.remoteSentinel n) s = .next s))
  ∧ (∀ (s : State) (l : Fin 12) (f : FabFrame), ForUs s l.val 2 f → let p := f.bytes.drop 32
    let ok := pktMagicOk p && p.length == pktBytes p && pktCrcOk p && pktFlags p == 2 && (pktOpcode p == 0x1401 || pktOpcode p == 0x1420)
    (ok = false → exec (.fabCmd l f) s = .next ((Taken s l.val f).bump .FAB_CNT_BADHDR))
    ∧ (ok = true → ∃ t c, exec (.fabCmd l f) s = .next t ∧ t.mg = { s.mg with fetched := s.mg.fetched ++ [c] }
      ∧ c.src = .fabric (fabHdr f.bytes).src ∧ c.opcode = pktOpcode p ∧ c.tag = pktTag p))
  ∧ ∀ (s : State) (l : Fin 12) (f : FabFrame), ForUs s l.val 3 f →
    let src := (fabHdr f.bytes).src
    let p := f.bytes.drop 32
    let ok := pktMagicOk p && p.length == pktBytes p && pktCrcOk p
    let st := u8 (pktPayload p) 0
    let sent := s.mg.journal.find? (fun j => j.ctx.tag == pktTag p && j.ctx.opcode + 32768 == pktOpcode p && !j.done
          && (match j.ctx.src with | .fabric _ => false | _ => true))
    (∀ (m : Bool) (n : Nat), (s.fab.change = none → exec (.fabReply l f (some (m, n))) s = .next (Taken s l.val f))
      ∧ ∀ c, s.fab.change = some c → let all := ∀ x ∈ c.members, x = src ∨ x ∈ c.acked
        (m = true → ∃ t, exec (.fabReply l f (some (m, n))) s = .next t ∧ t.fab.change = some { c with confirmed := src :: c.confirmed })
        ∧ (m = false → c.committed = true → exec (.fabReply l f (some (m, n))) s = .next (Taken s l.val f))
        ∧ (m = false → c.committed = false → n ≠ 0 → ∃ t, exec (.fabReply l f (some (m, n))) s = .next t ∧ t.fab.change = none
          ∧ t.fab.changed = true)
        ∧ (m = false → c.committed = false → n = 0 → ¬all → ∃ t, exec (.fabReply l f (some (m, n))) s = .next t
          ∧ t.fab.change = some { c with acked := src :: c.acked })
        ∧ (m = false → c.committed = false → n = 0 → all → ∃ t, exec (.fabReply l f (some (m, n))) s = .next t
          ∧ t.fab.change = some { c with acked := src :: c.acked, committed := true }
          ∧ ∀ x ∈ c.members, ∀ k q, s.pickRoute x 0 = some (k, q) → OnLink s t k 8 (leBytes 4 c.epoch)))
    ∧ (ok = false → exec (.fabReply l f none) s = .next ((Taken s l.val f).bump .FAB_CNT_BADHDR))
    ∧ (ok = true → sent = none → exec (.fabReply l f none) s = .next (Taken s l.val f))
    ∧ (ok = true → ∀ j, sent = some j → ∃ t sw rest, exec (.fabReply l f none) s = .next t ∧ Replied s t j.ctx sw rest
      ∧ (statusListed st = false → sw ∈ failureCodes)
      ∧ (statusListed st = true → j.ctx.opcode ≠ 0x1401 → sw = st ∧ rest = if st ≤ 1 then (pktPayload p).drop 4 else [])
      ∧ (j.ctx.opcode = 0x1401 → ∀ a, s.fab.asked.find? (fun a => a.1 == j.ctx) = some a →
        (st = 0 → u16 j.ctx.payload 0 = src → sw = 0 ∧ rest = leBytes 4 a.2 ∧ (a.2 < s.fab.leases.length →
          ∃ z, t.fab.leases.getD a.2 none = some z ∧ z.lessor = src ∧ z.epoch = nextEpoch s.epoch))
        ∧ (2 ≤ st → statusListed st = true → sw = st ∧ t.fab.leases = s.fab.leases)))

/-- Leases and cell moves. -/
def Obligations.LeasesAndMoves : Prop :=
  (∀ (s : State) (c : CmdCtx) (h n : Nat) (b : Bool), let p := c.payload
    ∀ i ∈ [(Instr.leaseRequest c, 16), (.leaseGrant c h n, 16), (.leaseQuery c, 4), (.moveIn c, 16), (.moveOut c b, 12)],
      (s.fld Fld.STEWARD_STAT_STATE ≠ 1 → ∃ t, exec i.1 s = .next t ∧ Replied s t c 0x25 [] ∧ Spoke s t)
      ∧ (s.fld Fld.STEWARD_STAT_STATE = 1 → s.stewardTurn c = false → exec i.1 s = .next s)
      ∧ (TakesNow s c → p.length ≠ i.2 → i.1 ≠ .leaseGrant c h n ∨ (∃ m, c.src = .fabric m) →
        ∃ t, exec i.1 s = .next t ∧ Replied s t c 0x22 [] ∧ Spoke s t))
  ∧ (∀ (s : State) (c : CmdCtx), TakesNow s c → let p := c.payload
    (p.length = 16 → leaseArgsOk p = false → ∃ t, exec (.leaseRequest c) s = .next t ∧ Replied s t c 0x21 [] ∧ Spoke s t)
    ∧ (p.length = 16 → leaseArgsOk p = true →
      (s.leaseFree = [] → ∃ t, exec (.leaseRequest c) s = .next t ∧ Replied s t c 0x24 [] ∧ Spoke s t)
      ∧ (s.leaseFree ≠ [] → s.pickRoute (u16 p 0) 0 = none → ∃ t, exec (.leaseRequest c) s = .next t ∧ Replied s t c 0x25 [] ∧ Spoke s t)
      ∧ (s.leaseFree ≠ [] → ∀ k q, s.pickRoute (u16 p 0) 0 = some (k, q) → ∃ t slot, exec (.leaseRequest c) s = .next t
        ∧ t.replies = s.replies ∧ slot ∈ s.leaseFree ∧ (c, slot) ∈ t.fab.asked ∧ t.leaseFree = s.leaseFree.filter (· != slot)
        ∧ OnLink s t k 2 (mkPacket 2 c.opcode c.tag p)))
    ∧ (p.length = 4 → 16 ≤ u8 p 0 ∨ u32 p 0 / 256 ≠ 0 ∨ s.fab.leases.getD (u8 p 0) none = none →
      ∃ t, exec (.leaseQuery c) s = .next t ∧ Replied s t c 0x21 [] ∧ Spoke s t)
    ∧ (p.length = 4 → u8 p 0 < 16 → u32 p 0 / 256 = 0 →
      ∀ z, s.fab.leases.getD (u8 p 0) none = some z → ∃ t, exec (.leaseQuery c) s = .next t ∧ Spoke s t ∧ Replied s t c 0 (leBytes 2 z.lessor
        ++ leBytes 1 z.pool ++ leBytes 1 z.die ++ leBytes 4 z.amount ++ leBytes 4 z.cave ++ leBytes 4 z.link ++ leBytes 4 z.epoch)))
  ∧ (∀ (s : State) (c : CmdCtx) (hops slot : Nat), TakesNow s c → ((∀ m, c.src ≠ .fabric m) → exec (.leaseGrant c hops slot) s = .next s)
    ∧ ∀ m, c.src = .fabric m → c.payload.length = 16 →
    let p := c.payload
    let e := nextEpoch s.epoch
    let z : Lease := ⟨u16 p 0, u8 p 2, u8 p 3, u32 p 4, u32 p 8, u32 p 12, e⟩
    let room := ∀ x ∈ s.cal, epochOf x.beat = e → fits s.cal x.beat (leaseCosts z) = true
    let few := (s.fab.grants.filter (fun g => g.lease.epoch == e)).length < 16
    (leaseArgsOk p = false → ∃ t, exec (.leaseGrant c hops slot) s = .next t ∧ Replied s t c 0x21 [] ∧ Spoke s t)
    ∧ (leaseArgsOk p = true → (s.epochLate = true ∨ 6 < hops ∨ ¬ few ∨ ¬ room) → ∃ t, exec (.leaseGrant c hops slot) s = .next t
      ∧ Replied s t c 0x24 [] ∧ Spoke s t)
    ∧ (leaseArgsOk p = true → s.epochLate = false → hops ≤ 6 → few → room → ∃ t, exec (.leaseGrant c hops slot) s = .next t
      ∧ Replied s t c 0 (leBytes 4 slot) ∧ t.fab.grants = s.fab.grants ++ [⟨m, slot, z⟩]
      ∧ t.cal = (s.cal.filter (fun x => epochOf x.beat == e)).foldl (fun a (x : Column) => reserveAll a x.beat (leaseCosts z)) s.cal))
  ∧ (∀ (s : State) (c : CmdCtx), TakesNow s c → c.payload.length = 16 → let p := c.payload
    let args := s.moveArgsOk p = true ∧ u16 p 12 ≤ 1023 ∧ u8 p 14 ≤ 0x0F ∧ u8 p 15 = 0
    let room := u32 p 8 * flowBlocks (u16 p 12) ≤ s.genAvail
    let idle := ∀ i < u32 p 8, (s.flow (u32 p 4 + i)).state = 0
    let refused := fun (st : Nat) => ∃ t, exec (.moveIn c) s = .next t ∧ Replied s t c st [] ∧ Spoke s t
    (¬ args → refused 0x21) ∧ (args → s.epochLate = true → refused 0x24) ∧ (args → s.epochLate = false → ¬room → refused 0x61)
    ∧ (args → s.epochLate = false → room → ¬idle → refused 0x24)
    ∧ (args → s.epochLate = false → room → idle →
      ∃ t, exec (.moveIn c) s = .next t ∧ Replied s t c 0 [] ∧ t.fab.moveIn = s.fab.moveIn ++ [moveOf p]
        ∧ ∀ i < u32 p 8, (t.flow (u32 p 4 + i)).state = 2 ∧ (t.flow (u32 p 4 + i)).owner = u8 p 14
          ∧ (t.flow (u32 p 4 + i)).sbBlocks = u16 p 12))
  ∧ (∀ (s : State) (c : CmdCtx) (b : Bool), TakesNow s c → c.payload.length = 12 → let p := c.payload
    let same := fun (m : Move) => m.peer == u16 p 0 && m.epoch == u8 p 2 && m.first == u32 p 4 && m.n == u32 p 8
    (∀ m, s.fab.moveOut.find? same = some m → ∃ t, exec (.moveOut c b) s = .next t ∧ Replied s t c 0 (leBytes 4 m.copied) ∧ Spoke s t)
    ∧ (s.fab.moveOut.find? same = none →
      (s.moveArgsOk p = false → ∃ t, exec (.moveOut c b) s = .next t ∧ Replied s t c 0x21 [] ∧ Spoke s t)
      ∧ (s.moveArgsOk p = true → b = false ∨ s.epochLate = true → ∃ t, exec (.moveOut c b) s = .next t ∧ Replied s t c 0x24 [] ∧ Spoke s t)
      ∧ (s.moveArgsOk p = true → b = true → s.epochLate = false → ∃ t, exec (.moveOut c b) s = .next t
        ∧ Replied s t c 0 (leBytes 4 0) ∧ t.fab.moveOut = s.fab.moveOut ++ [moveOf p])))
  ∧ ∀ s : State, let next := s.fab.moveOut.find? (fun m => m.live && (s.moveNext m).isSome)
    (next = none → exec .moveCopy s = .next s)
    ∧ ∀ m f, next = some m → s.moveNext m = some f →
      let x := s.flow f
      let whole := ∀ i < m.n, m.first + i = f ∨ (s.flow (m.first + i)).state = 0
      let y : Move := { m with copied := m.copied + 1 }
      (x.sbState = 1 → s.pickRoute m.peer 0 = none → exec .moveCopy s = .next s)
      ∧ (x.sbState ≠ 1 ∨ s.pickRoute m.peer 0 ≠ none → ∃ t, exec .moveCopy s = .next t ∧ (t.flow f).state = 0
        ∧ (whole → y ∉ t.fab.moveOut) ∧ (¬whole → y ∈ t.fab.moveOut)
        ∧ (x.sbState = 1 → ∀ k q, s.pickRoute m.peer 0 = some (k, q) → ∀ i < nChunks (x.sbBlocks * 4096),
          OnLink s t k 1 (slice ((List.range (x.sbBlocks * 4096)).map (fun j => s.caveByte (s.sbAddr f j))) (2048 * i) 2048)))

/-- DMA channels: arm, abort, resume, transfers that complete or halt. -/
def Obligations.DmaCommands : Prop :=
  let apart := fun (s : State) (x : Xfer) => x.d.stat = 0 ∧ (x.d.dstSp = 0 → ∀ c ∈ s.curds, c.addr + 64 ≤ x.d.dst ∨ x.d.dst + x.d.len ≤ c.addr)
  let quiet := fun (s : State) => s.merges = [] ∧ s.fld Fld.ECC_FLIP_CFG_ARM = 0
  (∀ (s : State) (c : Fin 64) (k : Fin 2) (src : Source), Reach s src →
    ((s.dma c.val).setBusy k.val = false → exec (.dmaArm c k src) s
      = .next (s.setDma c.val { s.dma c.val with armed := (s.dma c.val).armed ++ [k.val] }))
    ∧ ((s.dma c.val).setBusy k.val = true → ∃ t, exec (.dmaArm c k src) s = .next t ∧ RegsOnly s t
      ∧ t.reg .GLOBAL_WERR_CNT = (s.reg .GLOBAL_WERR_CNT + 1) % 2 ^ 32 ∧ SameRegs [(.GLOBAL_WERR, 0), (.GLOBAL_WERR_CNT, 0)] s t)
    ∧ ((s.dma c.val).active ≠ none ∨ (s.dma c.val).armed ≠ [] → exec (.dmaAbort c src) s
      = .next (s.setDma c.val { s.dma c.val with aborting := true }))
    ∧ ((s.dma c.val).active = none → (s.dma c.val).armed = [] → exec (.dmaAbort c src) s = .next s)
    ∧ exec (.dmaResume c src) s = .next (s.setDma c.val { s.dma c.val with halted := false }))
  ∧ (∀ (s : State) (c : Fin 64) (done : Nat) (host : List Byte),
    ((s.dma c.val).aborting = false → exec (.dmaAbortComplete c done host) s = .next s)
    ∧ ((s.dma c.val).aborting = true → quiet s → ∃ t, exec (.dmaAbortComplete c done host) s = .next t
      ∧ t.dma c.val = { halted := true } ∧ t.fld Fld.DMA_CH_STAT_LAST_STATUS c.val = 0x16
      ∧ t.reg .DMA_CH_CNT_HALT c.val = (s.reg .DMA_CH_CNT_HALT c.val + 1) % 2 ^ 32))
  ∧ (∀ s : State, Intact s → ∃ t, exec .dmaGrain s = .next t ∧ t.sentWrites = (if s.gridRun then 0 else s.sentWrites) ∧ ∀ c : Fin 64,
    let x := s.dma c.val
    let free := s.gridRun = false ∨ (s.sentWrites ≤ c.val ∧ ∀ c ∈ s.curds, ¬ (c.cls = 8 ∧ c.st = .running))
    let q := s.dmaQueue c.val
    let p := readBytes s.cave (s.slotAddr q (s.reg .Q_HEAD q)) 32
    let words := if ptrOk p = true ∧ bitAt (u8 p 21) 0 = false then s.caveRead (bits (u64 p 0) 39 0) 64 else zeros 64
    (x.active ≠ none ∨ x.halted = true ∨ x.aborting = true ∨ (s.gridRun = true ∧ c.val < s.sentWrites)
      ∨ (s.gridRun = true ∧ ∃ j ∈ t.dmaJobs, j.chan = some c.val) → t.dma c.val = x)
    ∧ (free → x.active = none → x.halted = false → x.aborting = false →
      (∀ k r, x.armed = k :: r → t.dma c.val = { x with armed := r, active := some { kind := k, desc := s.setWords c.val k } })
      ∧ (x.armed = [] → s.fld Fld.DMA_CH_CFG_QEN c.val = 1 → s.qType q = 7 → s.qState q ≠ 0 → 0 < s.qOcc q →
        (∀ e < 64, e ≠ c.val → s.dmaQueue e ≠ q) → t.dma c.val = { x with active := some ⟨2, words, 1, p, false⟩ })
      ∧ (x.armed = [] → s.fld Fld.DMA_CH_CFG_QEN c.val ≠ 1 ∨ s.qType q ≠ 7 ∨ s.qState q = 0 ∨ s.qOcc q = 0 → t.dma c.val = x)))
  ∧ (∀ (s : State) (c : Curd), Intact s → s.gridRun = true → s.dmaJobs = [] → s.sentWrites < 64 → s.curdAt c.addr = some c → c.exec = 0x3FF →
    s.curds.filter (fun c => c.cls == 8 && c.st == .running) = [c] → ∃ t x, exec .dmaGrain s = .next t
      ∧ t.dmaJobs = [{ curd := c.addr, remaining := s.dmaCost c - 1, desc := s.caveRead c.args 64, chan := some 63 }]
      ∧ t.reg .DMA_CH_CNT_JOBGR 63 = (s.reg .DMA_CH_CNT_JOBGR 63 + 1) % 2 ^ 32 ∧ t.curdAt c.addr = some x ∧ x.exec = 384 + 63)
  ∧ (∀ (s : State) (u : DmaUnit) (done : Nat) (he : Bool) (host : List Byte), s.xferOf u = none →
    exec (.dmaTransferComplete u host) s = .next s ∧ exec (.dmaTransferHalt u done he host) s = .next s)
  ∧ (∀ (s : State) (u : DmaUnit) (x : Xfer) (done : Nat) (host : List Byte), s.xferOf u = some x →
    (s.xferFault x ≠ none → exec (.dmaTransferComplete u host) s = .next s)
    ∧ (s.xferFault x = none → (∀ t n j, u = .tile t n → (s.tchan (t.val * 8 + n.val)).active = some j → j.aborted = false) →
      exec (.dmaTransferHalt u done false host) s = .next s))
  ∧ (∀ (s : State) (c : Fin 64) (x : Xfer) (w : DmaWork) (host : List Byte), s.xferOf (.hub c) = some x → (s.dma c.val).active = some w →
    (s.xferFault x = none → Intact s →
      (x.d.next = 0 → ∃ t, exec (.dmaTransferComplete (.hub c) host) s = .next t ∧ (t.dma c.val).active = none
        ∧ (t.dma c.val).armed = (s.dma c.val).armed ∧ t.reg .DMA_CH_DONE c.val = x.d.len ∧ t.reg .DMA_CH_RESIDUE c.val = 0
        ∧ t.fld Fld.DMA_CH_STAT_LAST_STATUS c.val = 0x10 ∧ t.reg .DMA_CH_CNT_XFER c.val = (s.reg .DMA_CH_CNT_XFER c.val + 1) % 2 ^ 32
        ∧ (x.d.dstSp = 0 → apart s x → w.kind ≠ 2 → t.caveRead x.d.dst x.d.len = s.xferData x host)
        ∧ (x.d.dstSp = 1 → s.flr.contains x.d.func = false → ⟨x.d.dst, s.xferData x host⟩ ∈ t.hostOut))
      ∧ (x.d.next ≠ 0 → ∃ t, exec (.dmaTransferComplete (.hub c) host) s = .next t
        ∧ (t.dma c.val).active = some { w with desc := t.caveRead x.d.next 64, n := w.n + 1, ue := false }))
    ∧ (∀ st k done he, s.xferFault x = some (st, k) → quiet s → ∃ t, exec (.dmaTransferHalt (.hub c) done he host) s = .next t
      ∧ (t.dma c.val).halted = true ∧ (t.dma c.val).active = none ∧ t.fld Fld.DMA_CH_STAT_LAST_STATUS c.val = st
      ∧ t.reg .DMA_CH_DONE c.val = x.moved (min done k) ∧ t.reg .DMA_CH_RESIDUE c.val = x.d.len - x.moved (min done k)
      ∧ t.reg .DMA_CH_CNT_HALT c.val = (s.reg .DMA_CH_CNT_HALT c.val + 1) % 2 ^ 32)
    ∧ (∀ done, s.xferFault x = none → x.d.srcSp = 1 → quiet s → ∃ t, exec (.dmaTransferHalt (.hub c) done true host) s = .next t
      ∧ (t.dma c.val).halted = true ∧ t.fld Fld.DMA_CH_STAT_LAST_STATUS c.val = 0x63))
  ∧ (∀ (s : State) (a : Nat) (x : Xfer) (host : List Byte), s.xferOf (.job a) = some x → apart s x → Intact s →
    (s.xferFault x = none → x.d.next = 0 → ∃ t y, exec (.dmaTransferComplete (.job a) host) s = .next t ∧ t.curdAt a = some y
      ∧ (y.st = .ended ∧ y.endStatus = 0x10 ∧ (∀ j ∈ t.dmaJobs, j.curd ≠ a) ∨ y.st = .running ∧ ∃ j ∈ t.dmaJobs, j.curd = a ∧ j.desc = []))
    ∧ (s.xferFault x = none → x.d.next ≠ 0 → ∃ t, exec (.dmaTransferComplete (.job a) host) s = .next t
      ∧ ∃ j ∈ t.dmaJobs, j.curd = a ∧ j.desc = t.caveRead x.d.next 64 ∧ j.n = x.n + 1)
    ∧ (∀ f done he, s.xferFault x = some f → ∃ t y, exec (.dmaTransferHalt (.job a) done he host) s = .next t ∧ t.curdAt a = some y
      ∧ y.st = .ended ∧ y.endStatus = 0x12 ∧ ∀ j ∈ t.dmaJobs, j.curd ≠ a))
  ∧ ∀ (s : State) (n : Fin 64) (c : Fin 4) (x : Xfer) (j : TileJob) (host : List Byte), s.xferOf (.tile n c) = some x → Intact s →
    let k := n.val * 8 + c.val
    (s.tchan k).active = some j →
    (j.aborted = false → s.xferFault x = none → ∃ t, exec (.dmaTransferComplete (.tile n c) host) s = .next t
      ∧ t.tchan k = { s.tchan k with active := (s.tchan k).armed, armed := none, lastStatus := 0x10, done := x.d.len }
      ∧ t.reg .TDMA_CNT_XFER (n.val * 4 + c.val) = (s.reg .TDMA_CNT_XFER (n.val * 4 + c.val) + 1) % 2 ^ 32
      ∧ (x.d.dstSp = 3 → readBytes t.vm (x.side 3 x.d.dst).2 x.d.len = s.xferData x host)
      ∧ (x.d.dstSp = 2 → readBytes t.tsm (x.side 2 x.d.dst).2 x.d.len = s.xferData x host))
    ∧ (j.aborted = true → s.xferFault x = none → exec (.dmaTransferComplete (.tile n c) host) s = .next s)
    ∧ (∀ st i done he, s.xferFault x = some (st, i) ∨ (s.xferFault x = none ∧ j.aborted = true ∧ i = x.d.len) →
      ∃ t, exec (.dmaTransferHalt (.tile n c) done he host) s = .next t
      ∧ t.tchan k = { s.tchan k with
          active := (s.tchan k).armed, armed := none, lastStatus := if j.aborted then 0x16 else st, done := x.moved (min done i) }
      ∧ t.reg .TDMA_CNT_ABORT (n.val * 4 + c.val) = (s.reg .TDMA_CNT_ABORT (n.val * 4 + c.val) + 1) % 2 ^ 32)

/-- Lanes: margin tests, alignment, lock and power exit. -/
def Obligations.LaneEvents : Prop :=
  (∀ (s : State) (i : Fin 145) (v : Word) (src : Source), Reach s src → ∃ t, exec (.marginTestStart i v src) s = .next t
    ∧ t.reg .LN_MARGIN_CTRL i.val = bits v.toNat 6 0 + bits v.toNat 14 8 * 2 ^ 8 + bits v.toNat 21 16 * 2 ^ 16
    ∧ (s.laneUp i.val = true → (t.lane i.val).test = some s.tm.ns ∧ t.reg .LN_MARGIN_RES i.val = 0)
    ∧ (s.laneUp i.val = false → (t.lane i.val).test = none ∧ t.fld Fld.LN_MARGIN_RES_ABORTED i.val = 1 ∧ t.fld Fld.LN_MARGIN_RES_DONE i.val = 0)
    ∧ ∀ k, k ≠ i.val → t.lane k = s.lane k)
  ∧ (∀ (s : State) (i : Fin 145) (e : Nat),
    ((s.lane i.val).test = none → exec (.marginTestDone i e) s = .next s)
    ∧ ((s.lane i.val).test ≠ none → s.laneUp i.val = true → ∃ t, exec (.marginTestDone i e) s = .next t ∧ (t.lane i.val).test = none
      ∧ t.reg .LN_MARGIN_RES i.val = min (min e (2 ^ (20 + s.fld Fld.LN_MARGIN_CTRL_DWELL i.val))) 0xFFFFFF * 256 + 1
      ∧ SameRegs [(.LN_MARGIN_RES, i.val)] s t)
    ∧ ((s.lane i.val).test ≠ none → s.laneUp i.val = false → ∃ t, exec (.marginTestDone i e) s = .next t ∧ (t.lane i.val).test = none
      ∧ t.fld Fld.LN_MARGIN_RES_ABORTED i.val = 1 ∧ SameRegs [(.LN_MARGIN_RES, i.val)] s t))
  ∧ (∀ (s : State) (i : Fin 16), ((s.lane (128 + i.val)).test = none → exec (.pcieMarginingCommand i) s = .next s)
    ∧ ((s.lane (128 + i.val)).test ≠ none → ∃ t, exec (.pcieMarginingCommand i) s = .next t ∧ (t.lane (128 + i.val)).test = none
      ∧ t.fld Fld.LN_MARGIN_RES_ABORTED (128 + i.val) = 1 ∧ SameRegs [(.LN_MARGIN_RES, 128 + i.val)] s t))
  ∧ ∀ (s : State) (i : Fin 145),
    (s.fld Fld.LN_STAT_ALIGNED i.val = 0 → exec (.laneAlignLoss i) s = .next s)
    ∧ (s.fld Fld.LN_STAT_ALIGNED i.val ≠ 0 → ∃ t, exec (.laneAlignLoss i) s = .next t ∧ t.fld Fld.LN_STAT_ALIGNED i.val = 0
      ∧ t.reg .LN_CNT_ERR i.val = (s.reg .LN_CNT_ERR i.val + 4) % 2 ^ 32
      ∧ t.reg .LN_CNT_ALIGN_LOSS i.val = (s.reg .LN_CNT_ALIGN_LOSS i.val + 1) % 2 ^ 32 ∧ (t.lane i.val).lostNs = some s.tm.ns
      ∧ ((∀ l, laneLink i.val = some l → s.fld Fld.FL_STAT_STATE l ≠ 1) →
        SameRegs [(.LN_STAT, i.val), (.LN_CNT_ERR, i.val), (.LN_CNT_ALIGN_LOSS, i.val)] s t))
    ∧ (s.laneUp i.val = true → 32 ≤ i.val ∧ i.val < 128 ∨ i.val = 144 → ∃ t, exec (.laneAligned i) s = .next t
      ∧ t.fld Fld.LN_STAT_ALIGNED i.val = 1 ∧ t.fld Fld.LN_STAT_CDR_LOCK i.val = 1 ∧ (t.lane i.val).lostNs = none
      ∧ SameRegs [(.LN_STAT, i.val)] s t)
    ∧ (s.laneUp i.val = false ∨ i.val < 32 ∨ (128 ≤ i.val ∧ i.val < 144) → exec (.laneAligned i) s = .next s)
    ∧ (∃ t, exec (.cdrLockLoss i) s = .next t ∧ t.fld Fld.LN_STAT_CDR_LOCK i.val = 0 ∧ t.fld Fld.LN_STAT_ALIGNED i.val = 0
      ∧ t.reg .LN_CNT_ALIGN_LOSS i.val = (s.reg .LN_CNT_ALIGN_LOSS i.val + 1) % 2 ^ 32 ∧ (t.lane i.val).test = none
      ∧ ∀ l, laneLink i.val = some l → s.flState l = 1 → ∀ j ∈ flLanes l, t.fld Fld.LN_STAT_CDR_LOCK j = 0
        ∧ t.fld Fld.LN_STAT_ALIGNED j = 0 ∧ (t.lane j).test = none)
    ∧ (s.fld Fld.LN_STAT_PWR_STATE i.val = 3 → ∃ t, exec (.lanePowerExitDone i) s = .next t ∧ t.laneUp i.val = true ∧ RegsOnly s t
      ∧ SameRegs [(.LN_STAT, i.val)] s t)
    ∧ (s.fld Fld.LN_STAT_PWR_STATE i.val ≠ 3 → exec (.lanePowerExitDone i) s = .next s)

/-- Logic regions: streams, verification, start and scrubbing. -/
def Obligations.LogicRegions : Prop :=
  (∀ (s : State) (d : List Byte),
    let shut := s.sspFlag 0 = false ∨ s.lr.closed = true ∨ ∃ l, s.lr.load = some l ∧ l.ssp = false
    let had := match s.lr.load with | some l => l.bytes | none => []
    (shut → exec (.streamWrite d) s = .next { s with lr := { s.lr with dropped := true } })
    ∧ (¬ shut → (∃ t, exec (.streamWrite d) s = .next t ∧ ((∃ m, t.lr.load = some m ∧ m.ssp = true ∧ m.bytes = had ++ d)
        ∨ (t.lr.load = none ∧ t.fld Fld.LR_LOAD_STAT_STATUS ∈ [0x21, 0x23, 0x40])))
      ∧ (s.lr.load = none →
        (d.length < 128 → ∃ t, exec (.streamWrite d) s = .next t ∧ t.lr.load = some { ssp := true, bytes := d } ∧ t.sspFlag 1 = true ∧ t.sspFlag 2 = false)
        ∧ (128 ≤ d.length → lrHeaderOk d = false → ∃ t, exec (.streamWrite d) s = .next t ∧ t.lr.load = none ∧ t.sspFlag 1 = false
          ∧ t.fld Fld.LR_LOAD_STAT_STATUS = 0x21 ∧ t.fld Fld.LR_LOAD_STAT_FAIL_POS = 6))))
  ∧ (∀ s : State, exec .statusRead s = .next { s with reads := s.reads ++ [leBytes 4 s.sspStatus] }
    ∧ (s.lr.window = false → exec .loadSkip s = .next s ∧ ∀ b, exec (.retryWindowClose b) s = .next s)
    ∧ (s.lr.window = true → let closes := fun (i : Instr) => ∃ t, exec i s = .next t ∧ t.lr.window = false ∧ t.lr.closed = true
      let settled := s.lr.loadEnded = true ∧ s.lr.load = none ∧ ∀ p < 5, s.lrState p = 0 ∨ s.lrState p = 3
      closes .loadSkip ∧ closes (.retryWindowClose true) ∧ (settled → closes (.retryWindowClose false))
      ∧ (¬settled → exec (.retryWindowClose false) s = .next s))
    ∧ ((∀ l, s.lr.load = some l → l.ssp = false ∨ l.verify = true) → exec .streamTruncated s = .next s)
    ∧ (∀ l, s.lr.load = some l → l.ssp = true → l.verify = false → ∃ t, exec .streamTruncated s = .next t ∧ t.lr.load = none
      ∧ t.fld Fld.LR_LOAD_STAT_STATUS = 0x41 ∧ t.fld Fld.LR_LOAD_STAT_FAIL_POS = l.at % 8)
    ∧ ((∀ l, s.lr.load = some l → l.verify = false) → exec .bitstreamVerified s = .next s)
    ∧ (∀ l, s.lr.load = some l → l.verify = true → let n := u32 l.bytes 8
      let holds := (s.verifySig 2 (u32 l.bytes 20) (l.bytes.take (n - 96)) (slice l.bytes (n - 96) 96)).1
      (holds = true → ∃ t, exec .bitstreamVerified s = .next t ∧ t.lr.load = none
        ∧ t.fld Fld.LR_LOAD_STAT_STATUS = 0 ∧ ∀ p ∈ l.named, t.lrState p = 2 ∧ t.fld Fld.LR_STAT_GOLDEN p = 1)
      ∧ (holds = false → ∃ t, exec .bitstreamVerified s = .next t ∧ t.lr.load = none
        ∧ t.fld Fld.LR_LOAD_STAT_STATUS = 0x42 ∧ t.fld Fld.LR_LOAD_STAT_FAIL_POS = 5
        ∧ ∀ p ∈ l.named, t.lrState p = 0 ∧ t.fld Fld.LR_STAT_GOLDEN p = 0)))
  ∧ (∀ (s : State) (p : Fin 5),
    (s.lrState p.val ≠ 2 → exec (.regionLockDone p) s = .next s ∧ exec (.lrLockTimeout p) s = .next s)
    ∧ (s.lrState p.val = 2 → (∃ t, exec (.regionLockDone p) s = .next t ∧ t.lrState p.val = 3)
      ∧ ∃ t, exec (.lrLockTimeout p) s = .next t ∧ t.lrState p.val = 0 ∧ t.fld Fld.LR_STAT_LAST_STATUS p.val = 0x64
        ∧ Logged s t 0x0100 1 p.val 0x64 0))
  ∧ (∀ (s : State) (c : CmdCtx) (host : List Byte), let p := u8 c.payload 0
    (∀ i ∈ [Instr.lrQuery c, .lrLoad c host],
      (s.fld Fld.STEWARD_STAT_STATE ≠ 1 → ∃ t, exec i s = .next t ∧ Replied s t c 0x25 [] ∧ Spoke s t)
      ∧ (s.fld Fld.STEWARD_STAT_STATE = 1 → s.stewardTurn c = false → exec i s = .next s))
    ∧ (TakesNow s c →
      let answers := fun (st : Nat) => ∃ t, exec (.lrQuery c) s = .next t ∧ Replied s t c st [] ∧ Spoke s t
      let refused := fun (st : Nat) => ∃ t r, exec (.lrLoad c host) s = .next t ∧ Replied s t c st r ∧ Spoke s t
      let used := u8 host 128 = 0 ∧ s.lr0InUse = true
      (c.payload.length ≠ 4 → answers 0x22)
      ∧ (c.payload.length = 4 → 4 < p ∨ allZero (c.payload.drop 1) = false → answers 0x21)
      ∧ (c.payload.length = 4 → p ≤ 4 → allZero (c.payload.drop 1) = true → ∃ t, exec (.lrQuery c) s = .next t ∧ Spoke s t
        ∧ Replied s t c 0 (leBytes 1 (s.lrState p) ++ leBytes 1 (s.fld Fld.LR_STAT_LAST_STATUS p) ++ leBytes 1 (s.fld Fld.LR_CAP_CAP p)
          ++ leBytes 1 (s.fld Fld.LR_STAT_GOLDEN p) ++ leBytes 4 (s.reg .LR_ID p) ++ leBytes 4 (s.reg .LR_VER p)
          ++ leBytes 4 (s.reg .LR_CNT_REPAIR p)))
      ∧ (s.classLRuns c = true → refused 0x25)
      ∧ (s.classLRuns c = false →
        (c.payload.length ≠ 16 → refused 0x22)
        ∧ (c.payload.length = 16 → u64 c.payload 0 % 4096 ≠ 0 ∨ u32 c.payload 12 ≠ 0 → refused 0x21)
        ∧ (c.payload.length = 16 → u64 c.payload 0 % 4096 = 0 → u32 c.payload 12 = 0 →
          (u32 c.payload 8 < 1280 ∨ 25166208 < u32 c.payload 8 → refused 0x22)
          ∧ (1280 ≤ u32 c.payload 8 → u32 c.payload 8 ≤ 25166208 → (used → refused 0x24)
            ∧ (¬used → s.lr.load ≠ none ∨ s.lr.pendReply ≠ none → refused 0x25)
            ∧ (¬used → s.lr.load = none → s.lr.pendReply = none → ∃ t, exec (.lrLoad c host) s = .next t
              ∧ ((∃ l, t.lr.load = some l ∧ l.verify = true ∧ l.ctx = some c)
                ∨ (t.lr.load = none ∧ t.fld Fld.LR_LOAD_STAT_STATUS ∈ [0x21, 0x23, 0x40, 0x41] ∧ t.sspFlag 2 = true))))))))
  ∧ ∀ (s : State) (u b : Bool),
    ((s.fld Fld.LR_SCRUB_CFG_EN = 0 ∨ s.lr.stopped = true) → ∀ n, exec (.lrScrubFrame n u b) s = .next s)
    ∧ (s.fld Fld.LR_SCRUB_CFG_EN ≠ 0 → s.lr.stopped = false →
      exec (.lrScrubFrame 2 u b) s = .next { s with lr := { s.lr with stopped := true, region := 0, frame := 0 } }
      ∧ (s.scrubAt = none → exec (.lrScrubFrame 0 u b) s = .next s ∧ exec (.lrScrubFrame 1 u b) s = .next (s.bump .LR_SCRUB_VOTES))
      ∧ ∀ p k (v : Fin 3), s.scrubAt = some (p, k) → v ≠ 2 → p < s.lr.regions.length →
        let a := goldenAddr p + k * 1024
        let mine := slice (s.region p).data (k * 1024) 1024
        let gold := s.caveRead a 1024
        let sound := s.rangeOk 0 a 1024
        let goesOn := fun (t : State) => (t.lr.region, t.lr.frame) = ((s.scrubNext p k).1, (s.scrubNext p k).2.1)
          ∧ t.reg .LR_SCRUB_VOTES = (if v = 1 then (s.reg .LR_SCRUB_VOTES + 1) % 2 ^ 32 else s.reg .LR_SCRUB_VOTES)
        (mine = [] ∨ (sound = true ∧ u = false ∧ mine = gold.take mine.length) → ∃ t, exec (.lrScrubFrame v u b) s = .next t ∧ goesOn t
          ∧ t.region p = s.region p ∧ SameRegs [(.LR_SCRUB_PASS, 0), (.LR_SCRUB_VOTES, 0)] s t ∧ SameMemory s t)
        ∧ (mine ≠ [] → sound = true → u = true ∨ mine ≠ gold.take mine.length → ∃ t, exec (.lrScrubFrame v u b) s = .next t ∧ goesOn t
          ∧ slice (t.region p).data (k * 1024) 1024 = gold.take mine.length
          ∧ t.reg .LR_CNT_REPAIR p = (s.reg .LR_CNT_REPAIR p + 1) % 2 ^ 32 ∧ SameMemory s t)
        ∧ (mine ≠ [] → sound = false → b = false → ∃ t, exec (.lrScrubFrame v u b) s = .next t ∧ goesOn t ∧ t.region p = s.region p
          ∧ t.reg .LR_CNT_GFIX p = (s.reg .LR_CNT_GFIX p + 1) % 2 ^ 32)
        ∧ (mine ≠ [] → sound = false → b = true → ∃ t, exec (.lrScrubFrame v u b) s = .next t ∧ goesOn t ∧ t.lrState p = 0
          ∧ t.fld Fld.LR_STAT_GOLDEN p = 0 ∧ Logged s t 0x0101 2 p k 0))

/-- Drains, the scrub walk, the zero-fill and the end of handling. -/
def Obligations.IntegrityEvents : Prop :=
  (∀ (s : State) (mem word : Nat), let w := (mem, word)
    (s.mergeAt w = none → exec (.mergeDrain mem word) s = .next s)
    ∧ ∀ (m : Merge), s.mergeAt w = some m →
      (s.wordErr w = none → exec (.mergeDrain mem word) s = .next { s with merges := s.merges.filter (fun x => x != m) })
      ∧ ∀ b, s.wordErr w = some b →
        (b.err = .ce → ∃ t, exec (.mergeDrain mem word) s = .next t ∧ t.mergeAt w = none ∧ t.wordErr w = none
          ∧ t.reg .ECC_D_CNT_CE m.die = (s.reg .ECC_D_CNT_CE m.die + 1) % 2 ^ 32 ∧ SameMemory s t)
        ∧ (b.err = .poison → ∃ t, exec (.mergeDrain mem word) s = .next t ∧ m ∉ t.merges ∧ t.bad = s.bad
          ∧ t.reg .ECC_D_CNT_POISON m.die = (s.reg .ECC_D_CNT_POISON m.die + 1) % 2 ^ 32 ∧ SameMemory s t)
        ∧ (b.err = .ue → s.fld Fld.ECC_D_STORE_HANDLING m.die ≠ 1 ∨ s.inHand.contains (m.die, mem, word) = true →
          ∃ t, exec (.mergeDrain mem word) s = .next t ∧ m ∉ t.merges ∧ t.fld Fld.ECC_D_STORE_HANDLING m.die = 1
          ∧ t.reg .ECC_D_CNT_UE m.die = (s.reg .ECC_D_CNT_UE m.die + 1) % 2 ^ 32 ∧ SameMemory s t
          ∧ (copyB w = none → (t.wordErr w).map BadWord.err = some .poison)
          ∧ (copyB w ≠ none → s.wordBad w = false → t.wordErr w = none)
          ∧ (copyB w ≠ none → s.wordBad w = true → (t.wordErr w).map BadWord.err = some .poison ∧ t.fld Fld.RENNET_CTRL_OPEN = 0)))
  ∧ (∀ (s : State) (fit : Nat) (found : List FoundErr), s.fld Fld.ECC_SCRUB_CFG_EN ≠ 1 ∨ 2 ≤ s.pwState → exec (.scrubWalk fit found) s = .next s)
  ∧ (∀ (s : State) (fit : Nat), s.fld Fld.ECC_SCRUB_CFG_EN = 1 → s.pwState ≤ 1 →
    let want := s.fld Fld.ECC_SCRUB_CFG_LINES
    let n := min want fit
    let p := scrubIndex (s.reg2 .ECC_SCRUB_POS_LO .ECC_SCRUB_POS_HI)
    (s.bad = [] → ∃ t, exec (.scrubWalk fit []) s = .next t ∧ t = { s with regs := t.regs, scrubLines := t.scrubLines })
    ∧ (∀ found, ∃ t, exec (.scrubWalk fit found) s = .next t
      ∧ t.reg2 .ECC_SCRUB_POS_LO .ECC_SCRUB_POS_HI = scrubAddr ((p + n) % scrubTotal)
      ∧ t.reg .ECC_SCRUB_DEFER = (if n < want then (s.reg .ECC_SCRUB_DEFER + 1) % 2 ^ 32 else s.reg .ECC_SCRUB_DEFER)
      ∧ t.reg .ECC_SCRUB_PASS = (if scrubTotal ≤ p + n then (s.reg .ECC_SCRUB_PASS + 1) % 2 ^ 32 else s.reg .ECC_SCRUB_PASS))
    ∧ ∀ b : BadWord, s.merges = [] → s.scrubVisits p s.scrubLines n (b.mem, b.word) = true →
      (s.bad = [b] → b.err = .ce → ∃ t, exec (.scrubWalk fit []) s = .next t ∧ t.bad = [] ∧ SameMemory s t
        ∧ t.reg .ECC_D_CNT_CE 4 = (s.reg .ECC_D_CNT_CE 4 + 1) % 2 ^ 32)
      ∧ (s.bad = [b] → b.err = .ue → copyB (b.mem, b.word) = none → s.fld Fld.ECC_D_STORE_HANDLING 4 = 0 → ∃ t,
        exec (.scrubWalk fit []) s = .next t ∧ t.bad = [{ b with err := .poison }] ∧ SameMemory s t
        ∧ t.reg .ECC_D_CNT_UE 4 = (s.reg .ECC_D_CNT_UE 4 + 1) % 2 ^ 32)
      ∧ (s.bad = [b] → b.err = .poison → ∃ t, exec (.scrubWalk fit []) s = .next t ∧ t.bad = [b] ∧ t.errs = s.errs ∧ SameMemory s t)
      ∧ (s.bad = [] → b.err = .ce → ∃ t, exec (.scrubWalk fit [⟨b.mem, b.word, false⟩]) s = .next t ∧ t.bad = [] ∧ SameMemory s t
        ∧ t.reg .ECC_D_CNT_CE 4 = (s.reg .ECC_D_CNT_CE 4 + 1) % 2 ^ 32))
  ∧ (∀ (s : State) (n : Nat), ∃ t, exec (.zeroFill n) s = .next t
    ∧ t = { s with cave := t.cave, bad := t.bad, merges := t.merges, fillQ := s.fillQ.drop n }
    ∧ ∀ a, Sparse.get 0 t.cave a = if a / 4096 ∈ s.fillQ.take n then 0 else Sparse.get 0 s.cave a)
  ∧ ∀ (s : State) (d : Fin 5), ∃ t, exec (.errorHandlingDone d) s = .next t ∧ t.fld Fld.ECC_D_STORE_HANDLING d.val = 0
    ∧ SameRegs [(.ECC_D_STORE, d.val)] s t
    ∧ t = { s with regs := t.regs, inHand := s.inHand.filter (fun x => x.1 != d.val) }

/-- An error of a code word that has a record merges into it. -/
def Obligations.ErrorRecordsMerge : Prop :=
  ∀ (s : State) (d : Fin 5) (st mem word flags req synd handle : Nat), s.errs.length = 5 → st ∈ [0x62, 0x65, 0x66] →
    (∃ x ∈ s.errs.getD d.val [], x.mem = mem ∧ x.word = word) →
    let t := s.errRecord d.val st mem word flags req synd handle
    (t.errs.getD d.val []).length = (s.errs.getD d.val []).length
    ∧ (∀ k, k ≠ d.val → t.errs.getD k [] = s.errs.getD k [])
    ∧ ∀ (i : Nat) (x : ErrRec), (s.errs.getD d.val [])[i]? = some x → ∃ y, (t.errs.getD d.val [])[i]? = some y
      ∧ (¬ (x.mem = mem ∧ x.word = word) → y = x)
      ∧ (x.mem = mem → x.word = word → y.count = min (x.count + 1) 65535 ∧ y.stamp = x.stamp ∧ y.req = x.req
        ∧ y.handle = (if x.handle = 0 then handle else x.handle)
        ∧ (x.status ∈ [0x62, 0x65, 0x66] →
          y.status = if x.status = 0x62 ∨ st = 0x62 then 0x62 else if x.status = 0x66 ∨ st = 0x66 then 0x66 else 0x65))

/-- The Cave window, register commands and debug access. -/
def Obligations.HostAccess : Prop :=
  let apart := fun (s : State) (a n : Nat) => ∀ c ∈ s.curds, c.addr + 64 ≤ a ∨ a + n ≤ c.addr
  (∀ (s : State) (x n : Nat), let a := s.winAddr x; let m := mappedLen a n
    let reached := m = 0 ∨ (s.filled a = true ∧ s.filled (a + m - 1) = true)
    (3 ≤ s.pwState → exec (.bar4Read x n) s = .next { s with reads := s.reads ++ [List.replicate n 255] })
    ∧ (s.pwState ≤ 2 → ¬reached → exec (.bar4Read x n) s = .next { s with reads := s.reads ++ [[]] })
    ∧ (s.pwState ≤ 2 → reached → s.rangeOk 0 a m = false → ∃ t, exec (.bar4Read x n) s = .next t ∧ t.reads = s.reads ++ [[]])
    ∧ (s.pwState ≤ 2 → reached → s.rangeOk 0 a m = true → ∃ t b, exec (.bar4Read x n) s = .next t ∧ t.reads = s.reads ++ [b] ∧ b.length = n
      ∧ (Intact s → b = (List.range n).map (fun i => s.winByte (a + i)) ∧ t.regs = s.regs ∧ SameMemory s t)))
  ∧ (∀ (s : State) (x : Nat) (d : List Byte), let a := s.winAddr x
    (3 ≤ s.pwState → exec (.bar4Write x d) s = .next s)
    ∧ (s.pwState ≤ 2 → Intact s → apart s a d.length → ∃ t, exec (.bar4Write x d) s = .next t
      ∧ (∀ i < d.length, t.caveByte (a + i) = if s.winWritable (a + i) = true then d.getD i 0 else s.caveByte (a + i))
      ∧ (∀ b, b < a ∨ a + d.length ≤ b → Sparse.get 0 t.cave b = Sparse.get 0 s.cave b)
      ∧ t.reg .KEEPER_CNT_BAR4 = (if ∃ i < d.length, caveMapped (a + i) = true ∧ s.blockProtected (a + i) = true then
          (s.reg .KEEPER_CNT_BAR4 + 1) % 2 ^ 32 else s.reg .KEEPER_CNT_BAR4)
      ∧ SameRegs [(.KEEPER_CNT_BAR4, 0)] s t ∧ t.orders = s.orders ∧ t.vm = s.vm ∧ t.tsm = s.tsm))
  ∧ (∀ (s : State) (c : CmdCtx), ∀ i ∈ [Instr.regRead c, .regWrite c, .regStage c, .dbgRead c, .dbgWrite c],
    (s.fld Fld.STEWARD_STAT_STATE ≠ 1 → ∃ t, exec i s = .next t ∧ Replied s t c 0x25 [] ∧ Spoke s t)
    ∧ (s.fld Fld.STEWARD_STAT_STATE = 1 → s.stewardTurn c = false → exec i s = .next s))
  ∧ (∀ (s : State) (c : CmdCtx), TakesNow s c → let p := c.payload; let off := u32 p 0; let n := u32 p 4
    let refused := fun (i : Instr) (st : Nat) => ∃ t, exec i s = .next t ∧ Replied s t c st [] ∧ Spoke s t
    (p.length ≠ 8 → refused (.regRead c) 0x22) ∧ (p.length = 8 → spanOk off n 256 = false → refused (.regRead c) 0x21)
    ∧ (p.length = 8 → spanOk off n 256 = true → ∃ t, exec (.regRead c) s = .next t
      ∧ Replied s t c 0 (s.readMasked (match c.src with | .pair _ => false | _ => true) off n).1)
    ∧ ((p.length < 8 ∨ p.length ≠ 8 + 4 * n) → refused (.regWrite c) 0x22)
    ∧ (8 ≤ p.length → p.length = 8 + 4 * n → spanOk off n 256 = false → refused (.regWrite c) 0x21)
    ∧ (8 ≤ p.length → p.length = 8 + 4 * n → spanOk off n 256 = true →
      let r := s.writeList (busSource c.src) ((List.range n).map (fun k => (off + 4 * k, u32 p (8 + 4 * k))))
      ∃ t, exec (.regWrite c) s = .next t ∧ Replied r.2 t c 0 (leBytes 4 r.1) ∧ Spoke r.2 t)
    ∧ ((p.length < 8 ∨ p.length ≠ 8 + 8 * n) → refused (.regStage c) 0x22)
    ∧ (8 ≤ p.length → p.length = 8 + 8 * n →
      let fields := u8 p 0 ≤ 63 ∧ allZero (slice p 1 3) = true ∧ 1 ≤ n ∧ n ≤ 128 ∧ (stagePairs p).all (fun x => spanOk x.1 1 1) = true
      let full := 8 ≤ s.mg.stage.length ∨ 1024 < s.stagePairsHeld + n
      (¬fields → refused (.regStage c) 0x21) ∧ (fields → full → refused (.regStage c) 0x25)
      ∧ (fields → ¬full → ∃ t b, exec (.regStage c) s = .next t ∧ t.mg.stage = s.mg.stage ++ [b]
        ∧ b.boundary = u8 p 0 * 1280 ∧ b.notBefore = s.absBeat + 128 ∧ b.writes = stagePairs p ∧ b.ctx = c ∧ t.regs = s.regs
        ∧ t.replies = s.replies)))
  ∧ (∀ s : State, let now := s.gridRun = true ∧ (s.beat + 1) % 1280 = 0 ∧ 1008 ≤ s.grain ∧ s.grain ≤ 1022
    let due := fun (b : StageBatch) => decide (b.boundary = (s.absBeat + 1) % beatMod ∧ b.notBefore ≤ s.absBeat + 1)
    ((¬ now ∨ s.mg.stage.filter due = []) → exec .stageBatchApply s = .next s)
    ∧ (now → exec .stageBatchApply s = .next ((s.mg.stage.filter due).foldl (fun (u : State) b =>
        let r := u.writeList .stage b.writes
        r.2.lateReply b.ctx 0 (leBytes 4 r.1 ++ leBytes 4 (mkStamp b.boundary 0)))
      { s with mg := { s.mg with stage := s.mg.stage.filter (fun b => !due b) } })))
  ∧ ∀ (s : State) (c : CmdCtx), TakesNow s c →
    let d := c.payload.drop 16
    let gone := fun (x : DbgAccess) => 2 ≤ x.space ∧ s.tileOn x.target = false
    (∀ st, s.dbgAccess c false = .inl st → ∃ t, exec (.dbgRead c) s = .next t ∧ Replied s t c st [] ∧ Spoke s t)
    ∧ (∀ st, s.dbgAccess c true = .inl st → ∃ t, exec (.dbgWrite c) s = .next t ∧ Replied s t c st [] ∧ Spoke s t)
    ∧ (∀ x, s.dbgAccess c false = .inr x →
      (x.mem = none ∨ gone x → ∃ t, exec (.dbgRead c) s = .next t ∧ Replied (s.dbgBytes x).2 t c 0 (s.dbgBytes x).1)
      ∧ ∀ m a, x.mem = some (m, a) → ¬gone x →
        (s.rangeOk m a x.len = false → ∃ t, exec (.dbgRead c) s = .next t ∧ Replied (s.readBad m a x.len x.die 0x3F2 0) t c 0x62 [])
        ∧ (s.rangeOk m a x.len = true → let u := s.readRange m a x.len x.die 0 0x3F2 0
          (∃ t, exec (.dbgRead c) s = .next t ∧ Replied u t c 0 (u.dbgBytes x).1) ∧ (Intact s → (u.dbgBytes x).1 = (s.dbgBytes x).1)))
    ∧ (∀ x, s.dbgAccess c true = .inr x →
      (x.space = 0 → ∃ t, exec (.dbgWrite c) s = .next t
        ∧ Replied (s.writeList (busSource c.src) ((List.range (x.len / 4)).map (fun k => (x.addr + 4 * k, u32 d (4 * k))))).2 t c 0 [])
      ∧ (x.space = 1 → Intact s → apart s x.addr x.len → (∀ i < x.len, caveSystem (x.addr + i) = false) → ∃ t, exec (.dbgWrite c) s = .next t
        ∧ Replied s t c 0 [] ∧ t.caveRead x.addr x.len = d ∧ t.vm = s.vm ∧ t.tsm = s.tsm)
      ∧ (gone x → ∃ t, exec (.dbgWrite c) s = .next t ∧ Replied s t c 0 [] ∧ Spoke s t)
      ∧ (x.space = 2 ∨ x.space = 3 → ¬gone x → Intact s → ∃ t, exec (.dbgWrite c) s = .next t ∧ Replied s t c 0 []
        ∧ (x.space = 2 → readBytes t.tsm x.key x.len = d ∧ t.vm = s.vm)
        ∧ (x.space = 3 → readBytes t.vm x.key x.len = d ∧ t.tsm = s.tsm))
      ∧ (x.space = 4 → ¬gone x → ∃ t, exec (.dbgWrite c) s = .next t ∧ Replied s t c 0 []
        ∧ t.core (bits x.addr 27 20) = (s.core (bits x.addr 27 20)).ofImage (patch (s.core (bits x.addr 27 20)).image x.offset d)))

/-- Every step keeps the memories in canonical form. -/
def Obligations.MemoryStaysCanonical : Prop :=
  ∀ s t : State, Memory.wf s = true → step s = .next t → Memory.wf t = true
end

