-- ==== Sys2Proof/Laws/Bits.lean ====
section
/-!
SUPPORT. Laws of bit fields: a field just put reads back, and a field that does not overlap it is unchanged.
-/
namespace Sys2Proof.Machine

/-- A word with one field put, as its part below the field, the field, and its part above. -/
theorem putBits_eq (v hi lo x : Nat) :
    putBits v hi lo x = v % 2 ^ lo + 2 ^ lo * (x % 2 ^ (hi + 1 - lo) + 2 ^ (hi + 1 - lo) * (v / 2 ^ lo / 2 ^ (hi + 1 - lo))) := by
  unfold putBits bits
  generalize hi + 1 - lo = n
  have h1 : v / 2 ^ lo = 2 ^ n * (v / 2 ^ lo / 2 ^ n) + v / 2 ^ lo % 2 ^ n := (Nat.div_add_mod _ _).symm
  have h2 : v = 2 ^ lo * (v / 2 ^ lo) + v % 2 ^ lo := (Nat.div_add_mod _ _).symm
  have h3 : 2 ^ lo * (v / 2 ^ lo) = 2 ^ lo * (2 ^ n * (v / 2 ^ lo / 2 ^ n)) + 2 ^ lo * (v / 2 ^ lo % 2 ^ n) := by
    rw [← Nat.mul_add, ← h1]
  have h4 : v / 2 ^ lo % 2 ^ n * 2 ^ lo = 2 ^ lo * (v / 2 ^ lo % 2 ^ n) := Nat.mul_comm _ _
  have h5 : x % 2 ^ n * 2 ^ lo = 2 ^ lo * (x % 2 ^ n) := Nat.mul_comm _ _
  rw [Nat.mul_add, h4, h5]; omega

/-- The field just put. -/
@[simp] theorem bits_putBits_same (v hi lo x : Nat) : bits (putBits v hi lo x) hi lo = x % 2 ^ (hi + 1 - lo) := by
  rw [putBits_eq, bits]
  generalize hi + 1 - lo = n
  rw [Nat.add_mul_div_left _ _ (Nat.two_pow_pos lo), Nat.div_eq_of_lt (Nat.mod_lt _ (Nat.two_pow_pos lo)), Nat.zero_add,
    Nat.add_mul_mod_self_left, Nat.mod_mod]

/-- A field wholly below the one put. -/
theorem bits_putBits_below (v hi lo x hi' lo' : Nat) (h : hi' < lo) : bits (putBits v hi lo x) hi' lo' = bits v hi' lo' := by
  have key : putBits v hi lo x % 2 ^ lo = v % 2 ^ lo := by rw [putBits_eq, Nat.add_mul_mod_self_left, Nat.mod_mod]
  have red : ∀ w : Nat, bits w hi' lo' = bits (w % 2 ^ lo) hi' lo' := by
    intro w
    unfold bits
    by_cases hl : lo' ≤ hi'
    · have e : lo = lo' + (lo - lo') := by omega
      rw [e, Nat.pow_add, Nat.mod_mul_right_div_self, Nat.mod_mod_of_dvd]
      exact Nat.pow_dvd_pow 2 (by omega)
    · have : hi' + 1 - lo' = 0 := by omega
      simp [this, Nat.mod_one]
  rw [red, key, ← red]

/-- A field wholly above the one put. -/
theorem bits_putBits_above (v hi lo x hi' lo' : Nat) (h : hi < lo') (hl : lo ≤ lo') : bits (putBits v hi lo x) hi' lo' = bits v hi' lo' := by
  rw [putBits_eq]
  unfold bits
  obtain ⟨k, rfl⟩ : ∃ k, lo' = lo + (hi + 1 - lo) + k := ⟨lo' - (lo + (hi + 1 - lo)), by omega⟩
  generalize hi + 1 - lo = n
  rw [Nat.add_assoc, Nat.pow_add, ← Nat.div_div_eq_div_mul, Nat.add_mul_div_left _ _ (Nat.two_pow_pos lo),
    Nat.div_eq_of_lt (Nat.mod_lt _ (Nat.two_pow_pos lo)), Nat.zero_add, Nat.pow_add, ← Nat.div_div_eq_div_mul,
    Nat.add_mul_div_left _ _ (Nat.two_pow_pos n), Nat.div_eq_of_lt (Nat.mod_lt _ (Nat.two_pow_pos n)), Nat.zero_add,
    ← Nat.div_div_eq_div_mul, ← Nat.div_div_eq_div_mul]

/-- A field that the one put does not overlap. -/
theorem bits_putBits_other (v hi lo x hi' lo' : Nat) (h : hi' < lo ∨ (hi < lo' ∧ lo ≤ lo')) :
    bits (putBits v hi lo x) hi' lo' = bits v hi' lo' := by
  rcases h with h | ⟨h, hl⟩
  · exact bits_putBits_below v hi lo x hi' lo' h
  · exact bits_putBits_above v hi lo x hi' lo' h hl

/-- A field of a word of `b` bits is below 2 to its width. -/
theorem bits_lt (v hi lo : Nat) : bits v hi lo < 2 ^ (hi + 1 - lo) := Nat.mod_lt _ (Nat.two_pow_pos _)

end Sys2Proof.Machine
end

