-- ==== Sys2Proof/Laws/Sparse.lean ====
section
/-!
SUPPORT. Laws of sparse tables: a read after a write to the same key and to another, and that every operation keeps the
canonical form.
-/
namespace Sys2Proof.Machine

variable {V : Type}

theorem Sparse.get_erase_same (d : V) (m : Sparse V) (a : Nat) : Sparse.get d (m.erase a) a = d := by
  induction m with
  | nil => rfl
  | cons e r ih =>
    obtain ⟨k, v⟩ := e
    by_cases h : k = a
    · simpa [Sparse.erase, h] using ih
    · simpa [Sparse.erase, h, Sparse.get] using ih

theorem Sparse.get_erase_other (d : V) (m : Sparse V) {a b : Nat} (h : b ≠ a) : Sparse.get d (m.erase a) b = Sparse.get d m b := by
  induction m with
  | nil => rfl
  | cons e r ih =>
    obtain ⟨k, v⟩ := e
    by_cases hk : k = a
    · have : k ≠ b := fun hb => h (hb ▸ hk)
      simpa [Sparse.erase, hk, Sparse.get, h.symm] using ih
    · by_cases hb : k = b
      · simp [Sparse.erase, Sparse.get, hb, h]
      · simpa [Sparse.erase, hk, Sparse.get, hb] using ih

theorem Sparse.get_insert_same (d : V) (m : Sparse V) (a : Nat) (v : V) (h : ∀ e ∈ m, e.1 ≠ a) : Sparse.get d (m.insert a v) a = v := by
  induction m with
  | nil => simp [Sparse.insert, Sparse.get]
  | cons e r ih =>
    obtain ⟨k, w⟩ := e
    have hk : k ≠ a := h (k, w) (by simp)
    by_cases hl : a < k
    · simp [Sparse.insert, hl, Sparse.get]
    · simpa [Sparse.insert, hl, Sparse.get, hk] using ih (fun e he => h e (by simp [he]))

theorem Sparse.get_insert_other (d : V) (m : Sparse V) {a b : Nat} (v : V) (h : b ≠ a) :
    Sparse.get d (m.insert a v) b = Sparse.get d m b := by
  induction m with
  | nil => simp [Sparse.insert, Sparse.get, h.symm]
  | cons e r ih =>
    obtain ⟨k, w⟩ := e
    by_cases hl : a < k
    · simp [Sparse.insert, hl, Sparse.get, h.symm]
    · by_cases hb : k = b
      · subst hb; simp [Sparse.insert, hl, Sparse.get]
      · simpa [Sparse.insert, hl, Sparse.get, hb] using ih

variable [DecidableEq V]

/-- A read of the key just written. -/
@[simp] theorem Sparse.get_set_same (d : V) (m : Sparse V) (a : Nat) (v : V) : Sparse.get d (Sparse.set d m a v) a = v := by
  unfold Sparse.set
  by_cases h : v = d
  · simp [h, Sparse.get_erase_same]
  · simp only [h, if_false]
    exact Sparse.get_insert_same d _ a v (by simp [Sparse.erase])

/-- A read of another key, whatever default it has. -/
theorem Sparse.get_set_other (d d' : V) (m : Sparse V) {a b : Nat} (v : V) (h : b ≠ a) :
    Sparse.get d' (Sparse.set d m a v) b = Sparse.get d' m b := by
  unfold Sparse.set
  split
  · exact Sparse.get_erase_other d' m h
  · rw [Sparse.get_insert_other d' _ v h, Sparse.get_erase_other d' m h]

/-! ## The canonical form -/

/-- The canonical form as two facts: no entry holds its key's default, and keys rise. -/
theorem Sparse.wfFrom_iff (df : Nat → V) (lo : Nat) (m : Sparse V) :
    Sparse.wfFrom df lo m = true ↔ (∀ e ∈ m, lo ≤ e.1 ∧ e.2 ≠ df e.1) ∧ m.Pairwise (fun x y => x.1 < y.1) := by
  induction m generalizing lo with
  | nil => simp [Sparse.wfFrom]
  | cons e r ih =>
    obtain ⟨k, v⟩ := e
    simp only [Sparse.wfFrom, Bool.and_eq_true, decide_eq_true_eq, ih, List.mem_cons, forall_eq_or_imp, List.pairwise_cons]
    constructor
    · rintro ⟨⟨h1, h2⟩, h3, h4⟩
      exact ⟨⟨⟨h1, h2⟩, fun e he => ⟨by have := (h3 e he).1; omega, (h3 e he).2⟩⟩, fun e he => by have := (h3 e he).1; omega, h4⟩
    · rintro ⟨⟨⟨h1, h2⟩, h3⟩, h4, h5⟩
      exact ⟨⟨h1, h2⟩, fun e he => ⟨by have := h4 e he; omega, (h3 e he).2⟩, h5⟩

theorem Sparse.wf_iff (df : Nat → V) (m : Sparse V) :
    Sparse.wf df m = true ↔ (∀ e ∈ m, e.2 ≠ df e.1) ∧ m.Pairwise (fun x y => x.1 < y.1) := by
  simp [Sparse.wf, Sparse.wfFrom_iff]

omit [DecidableEq V] in
theorem Sparse.insert_pairwise (m : Sparse V) (a : Nat) (v : V) (h : ∀ e ∈ m, e.1 ≠ a) (hp : m.Pairwise (fun x y => x.1 < y.1)) :
    (m.insert a v).Pairwise (fun x y => x.1 < y.1) ∧ ∀ e ∈ m.insert a v, e = (a, v) ∨ e ∈ m := by
  induction m with
  | nil => simp [Sparse.insert]
  | cons e r ih =>
    obtain ⟨k, w⟩ := e
    rw [List.pairwise_cons] at hp
    have hk : k ≠ a := h (k, w) (by simp)
    by_cases hl : a < k
    · simp only [Sparse.insert, hl, if_true]
      refine ⟨?_, fun e he => by simpa using he⟩
      refine List.pairwise_cons.2 ⟨fun e he => ?_, List.pairwise_cons.2 hp⟩
      rcases List.mem_cons.1 he with rfl | he
      · exact hl
      · have := hp.1 e he; simp at this ⊢; omega
    · obtain ⟨h1, h2⟩ := ih (fun e he => h e (by simp [he])) hp.2
      simp only [Sparse.insert, hl, if_false]
      refine ⟨List.pairwise_cons.2 ⟨fun e he => ?_, h1⟩, fun e he => ?_⟩
      · rcases h2 e he with rfl | he
        · simp; omega
        · exact hp.1 e he
      · rcases List.mem_cons.1 he with rfl | he
        · simp
        · rcases h2 e he with rfl | he <;> simp [*]

/-- A filtered table is canonical. -/
theorem Sparse.wf_filter (df : Nat → V) (m : Sparse V) (p : Nat × V → Bool) (h : Sparse.wf df m = true) :
    Sparse.wf df (m.filter p) = true := by
  rw [Sparse.wf_iff] at *
  exact ⟨fun e he => h.1 e (List.mem_filter.1 he).1, h.2.filter p⟩

/-- A write keeps the canonical form. -/
theorem Sparse.wf_set (df : Nat → V) (m : Sparse V) (a : Nat) (v : V) (h : Sparse.wf df m = true) :
    Sparse.wf df (Sparse.set (df a) m a v) = true := by
  have he : Sparse.wf df (m.erase a) = true := Sparse.wf_filter df m _ h
  unfold Sparse.set
  split
  · exact he
  · rename_i hv
    rw [Sparse.wf_iff] at *
    obtain ⟨h1, h2⟩ := Sparse.insert_pairwise (m.erase a) a v (by simp [Sparse.erase]) he.2
    refine ⟨fun e hm => ?_, h1⟩
    rcases h2 e hm with rfl | hm
    · exact hv
    · exact he.1 e hm

/-! ## Byte strings -/

/-- Memory bytes, whose unlisted addresses read zero, in canonical form. -/
theorem writeBytes_wf (p : List Byte) : ∀ (m : Sparse Byte) (a : Nat), Sparse.wf (fun _ => 0) m = true →
    Sparse.wf (fun _ => 0) (writeBytes m a p) = true := by
  induction p with
  | nil => intro m a h; exact h
  | cons b r ih => intro m a h; exact ih _ _ (Sparse.wf_set (fun _ => 0) m a b h)

/-- Addresses outside the written bytes read as before. -/
theorem get_writeBytes_other (p : List Byte) : ∀ (m : Sparse Byte) (a x : Nat), (x < a ∨ a + p.length ≤ x) →
    Sparse.get 0 (writeBytes m a p) x = Sparse.get 0 m x := by
  induction p with
  | nil => intro m a x _; rfl
  | cons b r ih =>
    intro m a x h
    have hl : (b :: r).length = r.length + 1 := rfl
    rw [writeBytes, ih _ _ _ (by omega), Sparse.get_set_other _ _ _ _ (by omega)]

/-- The written bytes read back. -/
theorem get_writeBytes_same (p : List Byte) : ∀ (m : Sparse Byte) (a i : Nat) (h : i < p.length),
    Sparse.get 0 (writeBytes m a p) (a + i) = p[i] := by
  induction p with
  | nil => intro m a i h; simp at h
  | cons b r ih =>
    intro m a i h
    cases i with
    | zero =>
      rw [writeBytes, get_writeBytes_other _ _ _ _ (by omega)]
      simp
    | succ n =>
      have hn : n < r.length := by simpa using h
      have e : a + (n + 1) = a + 1 + n := by omega
      rw [writeBytes, e, ih _ _ n hn]; simp

end Sys2Proof.Machine
end

