-- ==== Sys2Proof/Laws/State.lean ====
section
/-!
SUPPORT. Laws of the state: what the named updates of registers and of the free-value counter leave in each field of
`State`, and what a register or a field reads as after them.
-/
namespace Sys2Proof.Machine

@[simp] theorem State.setReg_pending (s : State) (r : RegId) (i v : Nat) : (s.setReg r i v).pending = s.pending := by rw [State.setReg]
@[simp] theorem State.setReg_rwsNew (s : State) (r : RegId) (i v : Nat) : (s.setReg r i v).rwsNew = s.rwsNew := by rw [State.setReg]
@[simp] theorem State.setReg_rwsLatched (s : State) (r : RegId) (i v : Nat) : (s.setReg r i v).rwsLatched = s.rwsLatched := by rw [State.setReg]
@[simp] theorem State.setReg_rweNew (s : State) (r : RegId) (i v : Nat) : (s.setReg r i v).rweNew = s.rweNew := by rw [State.setReg]
@[simp] theorem State.setReg_rweLatched (s : State) (r : RegId) (i v : Nat) : (s.setReg r i v).rweLatched = s.rweLatched := by rw [State.setReg]
@[simp] theorem State.setReg_rwsLate (s : State) (r : RegId) (i v : Nat) : (s.setReg r i v).rwsLate = s.rwsLate := by rw [State.setReg]
@[simp] theorem State.setReg_rweLate (s : State) (r : RegId) (i v : Nat) : (s.setReg r i v).rweLate = s.rweLate := by rw [State.setReg]
@[simp] theorem State.setReg_cave (s : State) (r : RegId) (i v : Nat) : (s.setReg r i v).cave = s.cave := by rw [State.setReg]
@[simp] theorem State.setReg_own (s : State) (r : RegId) (i v : Nat) : (s.setReg r i v).own = s.own := by rw [State.setReg]
@[simp] theorem State.setReg_fillQ (s : State) (r : RegId) (i v : Nat) : (s.setReg r i v).fillQ = s.fillQ := by rw [State.setReg]
@[simp] theorem State.setReg_blk (s : State) (r : RegId) (i v : Nat) : (s.setReg r i v).blk = s.blk := by rw [State.setReg]
@[simp] theorem State.setReg_flows (s : State) (r : RegId) (i v : Nat) : (s.setReg r i v).flows = s.flows := by rw [State.setReg]
@[simp] theorem State.setReg_qEnqs (s : State) (r : RegId) (i v : Nat) : (s.setReg r i v).qEnqs = s.qEnqs := by rw [State.setReg]
@[simp] theorem State.setReg_cal (s : State) (r : RegId) (i v : Nat) : (s.setReg r i v).cal = s.cal := by rw [State.setReg]
@[simp] theorem State.setReg_cap (s : State) (r : RegId) (i v : Nat) : (s.setReg r i v).cap = s.cap := by rw [State.setReg]
@[simp] theorem State.setReg_orders (s : State) (r : RegId) (i v : Nat) : (s.setReg r i v).orders = s.orders := by rw [State.setReg]
@[simp] theorem State.setReg_orderSeq (s : State) (r : RegId) (i v : Nat) : (s.setReg r i v).orderSeq = s.orderSeq := by rw [State.setReg]
@[simp] theorem State.setReg_rank (s : State) (r : RegId) (i v : Nat) : (s.setReg r i v).rank = s.rank := by rw [State.setReg]
@[simp] theorem State.setReg_sentArmed (s : State) (r : RegId) (i v : Nat) : (s.setReg r i v).sentArmed = s.sentArmed := by rw [State.setReg]
@[simp] theorem State.setReg_sentFree (s : State) (r : RegId) (i v : Nat) : (s.setReg r i v).sentFree = s.sentFree := by rw [State.setReg]
@[simp] theorem State.setReg_credits (s : State) (r : RegId) (i v : Nat) : (s.setReg r i v).credits = s.credits := by rw [State.setReg]
@[simp] theorem State.setReg_curds (s : State) (r : RegId) (i v : Nat) : (s.setReg r i v).curds = s.curds := by rw [State.setReg]
@[simp] theorem State.setReg_gone (s : State) (r : RegId) (i v : Nat) : (s.setReg r i v).gone = s.gone := by rw [State.setReg]
@[simp] theorem State.setReg_traces (s : State) (r : RegId) (i v : Nat) : (s.setReg r i v).traces = s.traces := by rw [State.setReg]
@[simp] theorem State.setReg_images (s : State) (r : RegId) (i v : Nat) : (s.setReg r i v).images = s.images := by rw [State.setReg]
@[simp] theorem State.setReg_cores (s : State) (r : RegId) (i v : Nat) : (s.setReg r i v).cores = s.cores := by rw [State.setReg]
@[simp] theorem State.setReg_bmus (s : State) (r : RegId) (i v : Nat) : (s.setReg r i v).bmus = s.bmus := by rw [State.setReg]
@[simp] theorem State.setReg_vm (s : State) (r : RegId) (i v : Nat) : (s.setReg r i v).vm = s.vm := by rw [State.setReg]
@[simp] theorem State.setReg_tsm (s : State) (r : RegId) (i v : Nat) : (s.setReg r i v).tsm = s.tsm := by rw [State.setReg]
@[simp] theorem State.setReg_tchans (s : State) (r : RegId) (i v : Nat) : (s.setReg r i v).tchans = s.tchans := by rw [State.setReg]
@[simp] theorem State.setReg_bad (s : State) (r : RegId) (i v : Nat) : (s.setReg r i v).bad = s.bad := by rw [State.setReg]
@[simp] theorem State.setReg_errs (s : State) (r : RegId) (i v : Nat) : (s.setReg r i v).errs = s.errs := by rw [State.setReg]
@[simp] theorem State.setReg_inHand (s : State) (r : RegId) (i v : Nat) : (s.setReg r i v).inHand = s.inHand := by rw [State.setReg]
@[simp] theorem State.setReg_merges (s : State) (r : RegId) (i v : Nat) : (s.setReg r i v).merges = s.merges := by rw [State.setReg]
@[simp] theorem State.setReg_scrubLines (s : State) (r : RegId) (i v : Nat) : (s.setReg r i v).scrubLines = s.scrubLines := by rw [State.setReg]
@[simp] theorem State.setReg_engs (s : State) (r : RegId) (i v : Nat) : (s.setReg r i v).engs = s.engs := by rw [State.setReg]
@[simp] theorem State.setReg_pxs (s : State) (r : RegId) (i v : Nat) : (s.setReg r i v).pxs = s.pxs := by rw [State.setReg]
@[simp] theorem State.setReg_streams (s : State) (r : RegId) (i v : Nat) : (s.setReg r i v).streams = s.streams := by rw [State.setReg]
@[simp] theorem State.setReg_gates (s : State) (r : RegId) (i v : Nat) : (s.setReg r i v).gates = s.gates := by rw [State.setReg]
@[simp] theorem State.setReg_dmas (s : State) (r : RegId) (i v : Nat) : (s.setReg r i v).dmas = s.dmas := by rw [State.setReg]
@[simp] theorem State.setReg_dmaJobs (s : State) (r : RegId) (i v : Nat) : (s.setReg r i v).dmaJobs = s.dmaJobs := by rw [State.setReg]
@[simp] theorem State.setReg_sentWrites (s : State) (r : RegId) (i v : Nat) : (s.setReg r i v).sentWrites = s.sentWrites := by rw [State.setReg]
@[simp] theorem State.setReg_tm (s : State) (r : RegId) (i v : Nat) : (s.setReg r i v).tm = s.tm := by rw [State.setReg]
@[simp] theorem State.setReg_mg (s : State) (r : RegId) (i v : Nat) : (s.setReg r i v).mg = s.mg := by rw [State.setReg]
@[simp] theorem State.setReg_fh (s : State) (r : RegId) (i v : Nat) : (s.setReg r i v).fh = s.fh := by rw [State.setReg]
@[simp] theorem State.setReg_lr (s : State) (r : RegId) (i v : Nat) : (s.setReg r i v).lr = s.lr := by rw [State.setReg]
@[simp] theorem State.setReg_wire (s : State) (r : RegId) (i v : Nat) : (s.setReg r i v).wire = s.wire := by rw [State.setReg]
@[simp] theorem State.setReg_fab (s : State) (r : RegId) (i v : Nat) : (s.setReg r i v).fab = s.fab := by rw [State.setReg]
@[simp] theorem State.setReg_lanes (s : State) (r : RegId) (i v : Nat) : (s.setReg r i v).lanes = s.lanes := by rw [State.setReg]
@[simp] theorem State.setReg_pw (s : State) (r : RegId) (i v : Nat) : (s.setReg r i v).pw = s.pw := by rw [State.setReg]
@[simp] theorem State.setReg_kp (s : State) (r : RegId) (i v : Nat) : (s.setReg r i v).kp = s.kp := by rw [State.setReg]
@[simp] theorem State.setReg_bt (s : State) (r : RegId) (i v : Nat) : (s.setReg r i v).bt = s.bt := by rw [State.setReg]
@[simp] theorem State.setReg_mgmtKey (s : State) (r : RegId) (i v : Nat) : (s.setReg r i v).mgmtKey = s.mgmtKey := by rw [State.setReg]
@[simp] theorem State.setReg_hostOut (s : State) (r : RegId) (i v : Nat) : (s.setReg r i v).hostOut = s.hostOut := by rw [State.setReg]
@[simp] theorem State.setReg_msixOut (s : State) (r : RegId) (i v : Nat) : (s.setReg r i v).msixOut = s.msixOut := by rw [State.setReg]
@[simp] theorem State.setReg_replies (s : State) (r : RegId) (i v : Nat) : (s.setReg r i v).replies = s.replies := by rw [State.setReg]
@[simp] theorem State.setReg_reads (s : State) (r : RegId) (i v : Nat) : (s.setReg r i v).reads = s.reads := by rw [State.setReg]
@[simp] theorem State.setReg_flr (s : State) (r : RegId) (i v : Nat) : (s.setReg r i v).flr = s.flr := by rw [State.setReg]
@[simp] theorem State.setReg_freeCtr (s : State) (r : RegId) (i v : Nat) : (s.setReg r i v).freeCtr = s.freeCtr := by rw [State.setReg]

@[simp] theorem State.setFld_pending (s : State) (f : Fld) (i v : Nat) : (s.setFld f i v).pending = s.pending := by rw [State.setFld, State.setReg_pending]
@[simp] theorem State.setFld_rwsNew (s : State) (f : Fld) (i v : Nat) : (s.setFld f i v).rwsNew = s.rwsNew := by rw [State.setFld, State.setReg_rwsNew]
@[simp] theorem State.setFld_rwsLatched (s : State) (f : Fld) (i v : Nat) : (s.setFld f i v).rwsLatched = s.rwsLatched := by rw [State.setFld, State.setReg_rwsLatched]
@[simp] theorem State.setFld_rweNew (s : State) (f : Fld) (i v : Nat) : (s.setFld f i v).rweNew = s.rweNew := by rw [State.setFld, State.setReg_rweNew]
@[simp] theorem State.setFld_rweLatched (s : State) (f : Fld) (i v : Nat) : (s.setFld f i v).rweLatched = s.rweLatched := by rw [State.setFld, State.setReg_rweLatched]
@[simp] theorem State.setFld_rwsLate (s : State) (f : Fld) (i v : Nat) : (s.setFld f i v).rwsLate = s.rwsLate := by rw [State.setFld, State.setReg_rwsLate]
@[simp] theorem State.setFld_rweLate (s : State) (f : Fld) (i v : Nat) : (s.setFld f i v).rweLate = s.rweLate := by rw [State.setFld, State.setReg_rweLate]
@[simp] theorem State.setFld_cave (s : State) (f : Fld) (i v : Nat) : (s.setFld f i v).cave = s.cave := by rw [State.setFld, State.setReg_cave]
@[simp] theorem State.setFld_own (s : State) (f : Fld) (i v : Nat) : (s.setFld f i v).own = s.own := by rw [State.setFld, State.setReg_own]
@[simp] theorem State.setFld_fillQ (s : State) (f : Fld) (i v : Nat) : (s.setFld f i v).fillQ = s.fillQ := by rw [State.setFld, State.setReg_fillQ]
@[simp] theorem State.setFld_blk (s : State) (f : Fld) (i v : Nat) : (s.setFld f i v).blk = s.blk := by rw [State.setFld, State.setReg_blk]
@[simp] theorem State.setFld_flows (s : State) (f : Fld) (i v : Nat) : (s.setFld f i v).flows = s.flows := by rw [State.setFld, State.setReg_flows]
@[simp] theorem State.setFld_qEnqs (s : State) (f : Fld) (i v : Nat) : (s.setFld f i v).qEnqs = s.qEnqs := by rw [State.setFld, State.setReg_qEnqs]
@[simp] theorem State.setFld_cal (s : State) (f : Fld) (i v : Nat) : (s.setFld f i v).cal = s.cal := by rw [State.setFld, State.setReg_cal]
@[simp] theorem State.setFld_cap (s : State) (f : Fld) (i v : Nat) : (s.setFld f i v).cap = s.cap := by rw [State.setFld, State.setReg_cap]
@[simp] theorem State.setFld_orders (s : State) (f : Fld) (i v : Nat) : (s.setFld f i v).orders = s.orders := by rw [State.setFld, State.setReg_orders]
@[simp] theorem State.setFld_orderSeq (s : State) (f : Fld) (i v : Nat) : (s.setFld f i v).orderSeq = s.orderSeq := by rw [State.setFld, State.setReg_orderSeq]
@[simp] theorem State.setFld_rank (s : State) (f : Fld) (i v : Nat) : (s.setFld f i v).rank = s.rank := by rw [State.setFld, State.setReg_rank]
@[simp] theorem State.setFld_sentArmed (s : State) (f : Fld) (i v : Nat) : (s.setFld f i v).sentArmed = s.sentArmed := by rw [State.setFld, State.setReg_sentArmed]
@[simp] theorem State.setFld_sentFree (s : State) (f : Fld) (i v : Nat) : (s.setFld f i v).sentFree = s.sentFree := by rw [State.setFld, State.setReg_sentFree]
@[simp] theorem State.setFld_credits (s : State) (f : Fld) (i v : Nat) : (s.setFld f i v).credits = s.credits := by rw [State.setFld, State.setReg_credits]
@[simp] theorem State.setFld_curds (s : State) (f : Fld) (i v : Nat) : (s.setFld f i v).curds = s.curds := by rw [State.setFld, State.setReg_curds]
@[simp] theorem State.setFld_gone (s : State) (f : Fld) (i v : Nat) : (s.setFld f i v).gone = s.gone := by rw [State.setFld, State.setReg_gone]
@[simp] theorem State.setFld_traces (s : State) (f : Fld) (i v : Nat) : (s.setFld f i v).traces = s.traces := by rw [State.setFld, State.setReg_traces]
@[simp] theorem State.setFld_images (s : State) (f : Fld) (i v : Nat) : (s.setFld f i v).images = s.images := by rw [State.setFld, State.setReg_images]
@[simp] theorem State.setFld_cores (s : State) (f : Fld) (i v : Nat) : (s.setFld f i v).cores = s.cores := by rw [State.setFld, State.setReg_cores]
@[simp] theorem State.setFld_bmus (s : State) (f : Fld) (i v : Nat) : (s.setFld f i v).bmus = s.bmus := by rw [State.setFld, State.setReg_bmus]
@[simp] theorem State.setFld_vm (s : State) (f : Fld) (i v : Nat) : (s.setFld f i v).vm = s.vm := by rw [State.setFld, State.setReg_vm]
@[simp] theorem State.setFld_tsm (s : State) (f : Fld) (i v : Nat) : (s.setFld f i v).tsm = s.tsm := by rw [State.setFld, State.setReg_tsm]
@[simp] theorem State.setFld_tchans (s : State) (f : Fld) (i v : Nat) : (s.setFld f i v).tchans = s.tchans := by rw [State.setFld, State.setReg_tchans]
@[simp] theorem State.setFld_bad (s : State) (f : Fld) (i v : Nat) : (s.setFld f i v).bad = s.bad := by rw [State.setFld, State.setReg_bad]
@[simp] theorem State.setFld_errs (s : State) (f : Fld) (i v : Nat) : (s.setFld f i v).errs = s.errs := by rw [State.setFld, State.setReg_errs]
@[simp] theorem State.setFld_inHand (s : State) (f : Fld) (i v : Nat) : (s.setFld f i v).inHand = s.inHand := by rw [State.setFld, State.setReg_inHand]
@[simp] theorem State.setFld_merges (s : State) (f : Fld) (i v : Nat) : (s.setFld f i v).merges = s.merges := by rw [State.setFld, State.setReg_merges]
@[simp] theorem State.setFld_scrubLines (s : State) (f : Fld) (i v : Nat) : (s.setFld f i v).scrubLines = s.scrubLines := by rw [State.setFld, State.setReg_scrubLines]
@[simp] theorem State.setFld_engs (s : State) (f : Fld) (i v : Nat) : (s.setFld f i v).engs = s.engs := by rw [State.setFld, State.setReg_engs]
@[simp] theorem State.setFld_pxs (s : State) (f : Fld) (i v : Nat) : (s.setFld f i v).pxs = s.pxs := by rw [State.setFld, State.setReg_pxs]
@[simp] theorem State.setFld_streams (s : State) (f : Fld) (i v : Nat) : (s.setFld f i v).streams = s.streams := by rw [State.setFld, State.setReg_streams]
@[simp] theorem State.setFld_gates (s : State) (f : Fld) (i v : Nat) : (s.setFld f i v).gates = s.gates := by rw [State.setFld, State.setReg_gates]
@[simp] theorem State.setFld_dmas (s : State) (f : Fld) (i v : Nat) : (s.setFld f i v).dmas = s.dmas := by rw [State.setFld, State.setReg_dmas]
@[simp] theorem State.setFld_dmaJobs (s : State) (f : Fld) (i v : Nat) : (s.setFld f i v).dmaJobs = s.dmaJobs := by rw [State.setFld, State.setReg_dmaJobs]
@[simp] theorem State.setFld_sentWrites (s : State) (f : Fld) (i v : Nat) : (s.setFld f i v).sentWrites = s.sentWrites := by rw [State.setFld, State.setReg_sentWrites]
@[simp] theorem State.setFld_tm (s : State) (f : Fld) (i v : Nat) : (s.setFld f i v).tm = s.tm := by rw [State.setFld, State.setReg_tm]
@[simp] theorem State.setFld_mg (s : State) (f : Fld) (i v : Nat) : (s.setFld f i v).mg = s.mg := by rw [State.setFld, State.setReg_mg]
@[simp] theorem State.setFld_fh (s : State) (f : Fld) (i v : Nat) : (s.setFld f i v).fh = s.fh := by rw [State.setFld, State.setReg_fh]
@[simp] theorem State.setFld_lr (s : State) (f : Fld) (i v : Nat) : (s.setFld f i v).lr = s.lr := by rw [State.setFld, State.setReg_lr]
@[simp] theorem State.setFld_wire (s : State) (f : Fld) (i v : Nat) : (s.setFld f i v).wire = s.wire := by rw [State.setFld, State.setReg_wire]
@[simp] theorem State.setFld_fab (s : State) (f : Fld) (i v : Nat) : (s.setFld f i v).fab = s.fab := by rw [State.setFld, State.setReg_fab]
@[simp] theorem State.setFld_lanes (s : State) (f : Fld) (i v : Nat) : (s.setFld f i v).lanes = s.lanes := by rw [State.setFld, State.setReg_lanes]
@[simp] theorem State.setFld_pw (s : State) (f : Fld) (i v : Nat) : (s.setFld f i v).pw = s.pw := by rw [State.setFld, State.setReg_pw]
@[simp] theorem State.setFld_kp (s : State) (f : Fld) (i v : Nat) : (s.setFld f i v).kp = s.kp := by rw [State.setFld, State.setReg_kp]
@[simp] theorem State.setFld_bt (s : State) (f : Fld) (i v : Nat) : (s.setFld f i v).bt = s.bt := by rw [State.setFld, State.setReg_bt]
@[simp] theorem State.setFld_mgmtKey (s : State) (f : Fld) (i v : Nat) : (s.setFld f i v).mgmtKey = s.mgmtKey := by rw [State.setFld, State.setReg_mgmtKey]
@[simp] theorem State.setFld_hostOut (s : State) (f : Fld) (i v : Nat) : (s.setFld f i v).hostOut = s.hostOut := by rw [State.setFld, State.setReg_hostOut]
@[simp] theorem State.setFld_msixOut (s : State) (f : Fld) (i v : Nat) : (s.setFld f i v).msixOut = s.msixOut := by rw [State.setFld, State.setReg_msixOut]
@[simp] theorem State.setFld_replies (s : State) (f : Fld) (i v : Nat) : (s.setFld f i v).replies = s.replies := by rw [State.setFld, State.setReg_replies]
@[simp] theorem State.setFld_reads (s : State) (f : Fld) (i v : Nat) : (s.setFld f i v).reads = s.reads := by rw [State.setFld, State.setReg_reads]
@[simp] theorem State.setFld_flr (s : State) (f : Fld) (i v : Nat) : (s.setFld f i v).flr = s.flr := by rw [State.setFld, State.setReg_flr]
@[simp] theorem State.setFld_freeCtr (s : State) (f : Fld) (i v : Nat) : (s.setFld f i v).freeCtr = s.freeCtr := by rw [State.setFld, State.setReg_freeCtr]

@[simp] theorem State.bump_pending (s : State) (r : RegId) (i n : Nat) : (s.bump r i n).pending = s.pending := by rw [State.bump, State.setReg_pending]
@[simp] theorem State.bump_rwsNew (s : State) (r : RegId) (i n : Nat) : (s.bump r i n).rwsNew = s.rwsNew := by rw [State.bump, State.setReg_rwsNew]
@[simp] theorem State.bump_rwsLatched (s : State) (r : RegId) (i n : Nat) : (s.bump r i n).rwsLatched = s.rwsLatched := by rw [State.bump, State.setReg_rwsLatched]
@[simp] theorem State.bump_rweNew (s : State) (r : RegId) (i n : Nat) : (s.bump r i n).rweNew = s.rweNew := by rw [State.bump, State.setReg_rweNew]
@[simp] theorem State.bump_rweLatched (s : State) (r : RegId) (i n : Nat) : (s.bump r i n).rweLatched = s.rweLatched := by rw [State.bump, State.setReg_rweLatched]
@[simp] theorem State.bump_rwsLate (s : State) (r : RegId) (i n : Nat) : (s.bump r i n).rwsLate = s.rwsLate := by rw [State.bump, State.setReg_rwsLate]
@[simp] theorem State.bump_rweLate (s : State) (r : RegId) (i n : Nat) : (s.bump r i n).rweLate = s.rweLate := by rw [State.bump, State.setReg_rweLate]
@[simp] theorem State.bump_cave (s : State) (r : RegId) (i n : Nat) : (s.bump r i n).cave = s.cave := by rw [State.bump, State.setReg_cave]
@[simp] theorem State.bump_own (s : State) (r : RegId) (i n : Nat) : (s.bump r i n).own = s.own := by rw [State.bump, State.setReg_own]
@[simp] theorem State.bump_fillQ (s : State) (r : RegId) (i n : Nat) : (s.bump r i n).fillQ = s.fillQ := by rw [State.bump, State.setReg_fillQ]
@[simp] theorem State.bump_blk (s : State) (r : RegId) (i n : Nat) : (s.bump r i n).blk = s.blk := by rw [State.bump, State.setReg_blk]
@[simp] theorem State.bump_flows (s : State) (r : RegId) (i n : Nat) : (s.bump r i n).flows = s.flows := by rw [State.bump, State.setReg_flows]
@[simp] theorem State.bump_qEnqs (s : State) (r : RegId) (i n : Nat) : (s.bump r i n).qEnqs = s.qEnqs := by rw [State.bump, State.setReg_qEnqs]
@[simp] theorem State.bump_cal (s : State) (r : RegId) (i n : Nat) : (s.bump r i n).cal = s.cal := by rw [State.bump, State.setReg_cal]
@[simp] theorem State.bump_cap (s : State) (r : RegId) (i n : Nat) : (s.bump r i n).cap = s.cap := by rw [State.bump, State.setReg_cap]
@[simp] theorem State.bump_orders (s : State) (r : RegId) (i n : Nat) : (s.bump r i n).orders = s.orders := by rw [State.bump, State.setReg_orders]
@[simp] theorem State.bump_orderSeq (s : State) (r : RegId) (i n : Nat) : (s.bump r i n).orderSeq = s.orderSeq := by rw [State.bump, State.setReg_orderSeq]
@[simp] theorem State.bump_rank (s : State) (r : RegId) (i n : Nat) : (s.bump r i n).rank = s.rank := by rw [State.bump, State.setReg_rank]
@[simp] theorem State.bump_sentArmed (s : State) (r : RegId) (i n : Nat) : (s.bump r i n).sentArmed = s.sentArmed := by rw [State.bump, State.setReg_sentArmed]
@[simp] theorem State.bump_sentFree (s : State) (r : RegId) (i n : Nat) : (s.bump r i n).sentFree = s.sentFree := by rw [State.bump, State.setReg_sentFree]
@[simp] theorem State.bump_credits (s : State) (r : RegId) (i n : Nat) : (s.bump r i n).credits = s.credits := by rw [State.bump, State.setReg_credits]
@[simp] theorem State.bump_curds (s : State) (r : RegId) (i n : Nat) : (s.bump r i n).curds = s.curds := by rw [State.bump, State.setReg_curds]
@[simp] theorem State.bump_gone (s : State) (r : RegId) (i n : Nat) : (s.bump r i n).gone = s.gone := by rw [State.bump, State.setReg_gone]
@[simp] theorem State.bump_traces (s : State) (r : RegId) (i n : Nat) : (s.bump r i n).traces = s.traces := by rw [State.bump, State.setReg_traces]
@[simp] theorem State.bump_images (s : State) (r : RegId) (i n : Nat) : (s.bump r i n).images = s.images := by rw [State.bump, State.setReg_images]
@[simp] theorem State.bump_cores (s : State) (r : RegId) (i n : Nat) : (s.bump r i n).cores = s.cores := by rw [State.bump, State.setReg_cores]
@[simp] theorem State.bump_bmus (s : State) (r : RegId) (i n : Nat) : (s.bump r i n).bmus = s.bmus := by rw [State.bump, State.setReg_bmus]
@[simp] theorem State.bump_vm (s : State) (r : RegId) (i n : Nat) : (s.bump r i n).vm = s.vm := by rw [State.bump, State.setReg_vm]
@[simp] theorem State.bump_tsm (s : State) (r : RegId) (i n : Nat) : (s.bump r i n).tsm = s.tsm := by rw [State.bump, State.setReg_tsm]
@[simp] theorem State.bump_tchans (s : State) (r : RegId) (i n : Nat) : (s.bump r i n).tchans = s.tchans := by rw [State.bump, State.setReg_tchans]
@[simp] theorem State.bump_bad (s : State) (r : RegId) (i n : Nat) : (s.bump r i n).bad = s.bad := by rw [State.bump, State.setReg_bad]
@[simp] theorem State.bump_errs (s : State) (r : RegId) (i n : Nat) : (s.bump r i n).errs = s.errs := by rw [State.bump, State.setReg_errs]
@[simp] theorem State.bump_inHand (s : State) (r : RegId) (i n : Nat) : (s.bump r i n).inHand = s.inHand := by rw [State.bump, State.setReg_inHand]
@[simp] theorem State.bump_merges (s : State) (r : RegId) (i n : Nat) : (s.bump r i n).merges = s.merges := by rw [State.bump, State.setReg_merges]
@[simp] theorem State.bump_scrubLines (s : State) (r : RegId) (i n : Nat) : (s.bump r i n).scrubLines = s.scrubLines := by rw [State.bump, State.setReg_scrubLines]
@[simp] theorem State.bump_engs (s : State) (r : RegId) (i n : Nat) : (s.bump r i n).engs = s.engs := by rw [State.bump, State.setReg_engs]
@[simp] theorem State.bump_pxs (s : State) (r : RegId) (i n : Nat) : (s.bump r i n).pxs = s.pxs := by rw [State.bump, State.setReg_pxs]
@[simp] theorem State.bump_streams (s : State) (r : RegId) (i n : Nat) : (s.bump r i n).streams = s.streams := by rw [State.bump, State.setReg_streams]
@[simp] theorem State.bump_gates (s : State) (r : RegId) (i n : Nat) : (s.bump r i n).gates = s.gates := by rw [State.bump, State.setReg_gates]
@[simp] theorem State.bump_dmas (s : State) (r : RegId) (i n : Nat) : (s.bump r i n).dmas = s.dmas := by rw [State.bump, State.setReg_dmas]
@[simp] theorem State.bump_dmaJobs (s : State) (r : RegId) (i n : Nat) : (s.bump r i n).dmaJobs = s.dmaJobs := by rw [State.bump, State.setReg_dmaJobs]
@[simp] theorem State.bump_sentWrites (s : State) (r : RegId) (i n : Nat) : (s.bump r i n).sentWrites = s.sentWrites := by rw [State.bump, State.setReg_sentWrites]
@[simp] theorem State.bump_tm (s : State) (r : RegId) (i n : Nat) : (s.bump r i n).tm = s.tm := by rw [State.bump, State.setReg_tm]
@[simp] theorem State.bump_mg (s : State) (r : RegId) (i n : Nat) : (s.bump r i n).mg = s.mg := by rw [State.bump, State.setReg_mg]
@[simp] theorem State.bump_fh (s : State) (r : RegId) (i n : Nat) : (s.bump r i n).fh = s.fh := by rw [State.bump, State.setReg_fh]
@[simp] theorem State.bump_lr (s : State) (r : RegId) (i n : Nat) : (s.bump r i n).lr = s.lr := by rw [State.bump, State.setReg_lr]
@[simp] theorem State.bump_wire (s : State) (r : RegId) (i n : Nat) : (s.bump r i n).wire = s.wire := by rw [State.bump, State.setReg_wire]
@[simp] theorem State.bump_fab (s : State) (r : RegId) (i n : Nat) : (s.bump r i n).fab = s.fab := by rw [State.bump, State.setReg_fab]
@[simp] theorem State.bump_lanes (s : State) (r : RegId) (i n : Nat) : (s.bump r i n).lanes = s.lanes := by rw [State.bump, State.setReg_lanes]
@[simp] theorem State.bump_pw (s : State) (r : RegId) (i n : Nat) : (s.bump r i n).pw = s.pw := by rw [State.bump, State.setReg_pw]
@[simp] theorem State.bump_kp (s : State) (r : RegId) (i n : Nat) : (s.bump r i n).kp = s.kp := by rw [State.bump, State.setReg_kp]
@[simp] theorem State.bump_bt (s : State) (r : RegId) (i n : Nat) : (s.bump r i n).bt = s.bt := by rw [State.bump, State.setReg_bt]
@[simp] theorem State.bump_mgmtKey (s : State) (r : RegId) (i n : Nat) : (s.bump r i n).mgmtKey = s.mgmtKey := by rw [State.bump, State.setReg_mgmtKey]
@[simp] theorem State.bump_hostOut (s : State) (r : RegId) (i n : Nat) : (s.bump r i n).hostOut = s.hostOut := by rw [State.bump, State.setReg_hostOut]
@[simp] theorem State.bump_msixOut (s : State) (r : RegId) (i n : Nat) : (s.bump r i n).msixOut = s.msixOut := by rw [State.bump, State.setReg_msixOut]
@[simp] theorem State.bump_replies (s : State) (r : RegId) (i n : Nat) : (s.bump r i n).replies = s.replies := by rw [State.bump, State.setReg_replies]
@[simp] theorem State.bump_reads (s : State) (r : RegId) (i n : Nat) : (s.bump r i n).reads = s.reads := by rw [State.bump, State.setReg_reads]
@[simp] theorem State.bump_flr (s : State) (r : RegId) (i n : Nat) : (s.bump r i n).flr = s.flr := by rw [State.bump, State.setReg_flr]
@[simp] theorem State.bump_freeCtr (s : State) (r : RegId) (i n : Nat) : (s.bump r i n).freeCtr = s.freeCtr := by rw [State.bump, State.setReg_freeCtr]

@[simp] theorem State.setReg2_pending (s : State) (a b : RegId) (i v : Nat) : (s.setReg2 a b i v).pending = s.pending := by rw [State.setReg2, State.setReg_pending, State.setReg_pending]
@[simp] theorem State.setReg2_rwsNew (s : State) (a b : RegId) (i v : Nat) : (s.setReg2 a b i v).rwsNew = s.rwsNew := by rw [State.setReg2, State.setReg_rwsNew, State.setReg_rwsNew]
@[simp] theorem State.setReg2_rwsLatched (s : State) (a b : RegId) (i v : Nat) : (s.setReg2 a b i v).rwsLatched = s.rwsLatched := by rw [State.setReg2, State.setReg_rwsLatched, State.setReg_rwsLatched]
@[simp] theorem State.setReg2_rweNew (s : State) (a b : RegId) (i v : Nat) : (s.setReg2 a b i v).rweNew = s.rweNew := by rw [State.setReg2, State.setReg_rweNew, State.setReg_rweNew]
@[simp] theorem State.setReg2_rweLatched (s : State) (a b : RegId) (i v : Nat) : (s.setReg2 a b i v).rweLatched = s.rweLatched := by rw [State.setReg2, State.setReg_rweLatched, State.setReg_rweLatched]
@[simp] theorem State.setReg2_rwsLate (s : State) (a b : RegId) (i v : Nat) : (s.setReg2 a b i v).rwsLate = s.rwsLate := by rw [State.setReg2, State.setReg_rwsLate, State.setReg_rwsLate]
@[simp] theorem State.setReg2_rweLate (s : State) (a b : RegId) (i v : Nat) : (s.setReg2 a b i v).rweLate = s.rweLate := by rw [State.setReg2, State.setReg_rweLate, State.setReg_rweLate]
@[simp] theorem State.setReg2_cave (s : State) (a b : RegId) (i v : Nat) : (s.setReg2 a b i v).cave = s.cave := by rw [State.setReg2, State.setReg_cave, State.setReg_cave]
@[simp] theorem State.setReg2_own (s : State) (a b : RegId) (i v : Nat) : (s.setReg2 a b i v).own = s.own := by rw [State.setReg2, State.setReg_own, State.setReg_own]
@[simp] theorem State.setReg2_fillQ (s : State) (a b : RegId) (i v : Nat) : (s.setReg2 a b i v).fillQ = s.fillQ := by rw [State.setReg2, State.setReg_fillQ, State.setReg_fillQ]
@[simp] theorem State.setReg2_blk (s : State) (a b : RegId) (i v : Nat) : (s.setReg2 a b i v).blk = s.blk := by rw [State.setReg2, State.setReg_blk, State.setReg_blk]
@[simp] theorem State.setReg2_flows (s : State) (a b : RegId) (i v : Nat) : (s.setReg2 a b i v).flows = s.flows := by rw [State.setReg2, State.setReg_flows, State.setReg_flows]
@[simp] theorem State.setReg2_qEnqs (s : State) (a b : RegId) (i v : Nat) : (s.setReg2 a b i v).qEnqs = s.qEnqs := by rw [State.setReg2, State.setReg_qEnqs, State.setReg_qEnqs]
@[simp] theorem State.setReg2_cal (s : State) (a b : RegId) (i v : Nat) : (s.setReg2 a b i v).cal = s.cal := by rw [State.setReg2, State.setReg_cal, State.setReg_cal]
@[simp] theorem State.setReg2_cap (s : State) (a b : RegId) (i v : Nat) : (s.setReg2 a b i v).cap = s.cap := by rw [State.setReg2, State.setReg_cap, State.setReg_cap]
@[simp] theorem State.setReg2_orders (s : State) (a b : RegId) (i v : Nat) : (s.setReg2 a b i v).orders = s.orders := by rw [State.setReg2, State.setReg_orders, State.setReg_orders]
@[simp] theorem State.setReg2_orderSeq (s : State) (a b : RegId) (i v : Nat) : (s.setReg2 a b i v).orderSeq = s.orderSeq := by rw [State.setReg2, State.setReg_orderSeq, State.setReg_orderSeq]
@[simp] theorem State.setReg2_rank (s : State) (a b : RegId) (i v : Nat) : (s.setReg2 a b i v).rank = s.rank := by rw [State.setReg2, State.setReg_rank, State.setReg_rank]
@[simp] theorem State.setReg2_sentArmed (s : State) (a b : RegId) (i v : Nat) : (s.setReg2 a b i v).sentArmed = s.sentArmed := by rw [State.setReg2, State.setReg_sentArmed, State.setReg_sentArmed]
@[simp] theorem State.setReg2_sentFree (s : State) (a b : RegId) (i v : Nat) : (s.setReg2 a b i v).sentFree = s.sentFree := by rw [State.setReg2, State.setReg_sentFree, State.setReg_sentFree]
@[simp] theorem State.setReg2_credits (s : State) (a b : RegId) (i v : Nat) : (s.setReg2 a b i v).credits = s.credits := by rw [State.setReg2, State.setReg_credits, State.setReg_credits]
@[simp] theorem State.setReg2_curds (s : State) (a b : RegId) (i v : Nat) : (s.setReg2 a b i v).curds = s.curds := by rw [State.setReg2, State.setReg_curds, State.setReg_curds]
@[simp] theorem State.setReg2_gone (s : State) (a b : RegId) (i v : Nat) : (s.setReg2 a b i v).gone = s.gone := by rw [State.setReg2, State.setReg_gone, State.setReg_gone]
@[simp] theorem State.setReg2_traces (s : State) (a b : RegId) (i v : Nat) : (s.setReg2 a b i v).traces = s.traces := by rw [State.setReg2, State.setReg_traces, State.setReg_traces]
@[simp] theorem State.setReg2_images (s : State) (a b : RegId) (i v : Nat) : (s.setReg2 a b i v).images = s.images := by rw [State.setReg2, State.setReg_images, State.setReg_images]
@[simp] theorem State.setReg2_cores (s : State) (a b : RegId) (i v : Nat) : (s.setReg2 a b i v).cores = s.cores := by rw [State.setReg2, State.setReg_cores, State.setReg_cores]
@[simp] theorem State.setReg2_bmus (s : State) (a b : RegId) (i v : Nat) : (s.setReg2 a b i v).bmus = s.bmus := by rw [State.setReg2, State.setReg_bmus, State.setReg_bmus]
@[simp] theorem State.setReg2_vm (s : State) (a b : RegId) (i v : Nat) : (s.setReg2 a b i v).vm = s.vm := by rw [State.setReg2, State.setReg_vm, State.setReg_vm]
@[simp] theorem State.setReg2_tsm (s : State) (a b : RegId) (i v : Nat) : (s.setReg2 a b i v).tsm = s.tsm := by rw [State.setReg2, State.setReg_tsm, State.setReg_tsm]
@[simp] theorem State.setReg2_tchans (s : State) (a b : RegId) (i v : Nat) : (s.setReg2 a b i v).tchans = s.tchans := by rw [State.setReg2, State.setReg_tchans, State.setReg_tchans]
@[simp] theorem State.setReg2_bad (s : State) (a b : RegId) (i v : Nat) : (s.setReg2 a b i v).bad = s.bad := by rw [State.setReg2, State.setReg_bad, State.setReg_bad]
@[simp] theorem State.setReg2_errs (s : State) (a b : RegId) (i v : Nat) : (s.setReg2 a b i v).errs = s.errs := by rw [State.setReg2, State.setReg_errs, State.setReg_errs]
@[simp] theorem State.setReg2_inHand (s : State) (a b : RegId) (i v : Nat) : (s.setReg2 a b i v).inHand = s.inHand := by rw [State.setReg2, State.setReg_inHand, State.setReg_inHand]
@[simp] theorem State.setReg2_merges (s : State) (a b : RegId) (i v : Nat) : (s.setReg2 a b i v).merges = s.merges := by rw [State.setReg2, State.setReg_merges, State.setReg_merges]
@[simp] theorem State.setReg2_scrubLines (s : State) (a b : RegId) (i v : Nat) : (s.setReg2 a b i v).scrubLines = s.scrubLines := by rw [State.setReg2, State.setReg_scrubLines, State.setReg_scrubLines]
@[simp] theorem State.setReg2_engs (s : State) (a b : RegId) (i v : Nat) : (s.setReg2 a b i v).engs = s.engs := by rw [State.setReg2, State.setReg_engs, State.setReg_engs]
@[simp] theorem State.setReg2_pxs (s : State) (a b : RegId) (i v : Nat) : (s.setReg2 a b i v).pxs = s.pxs := by rw [State.setReg2, State.setReg_pxs, State.setReg_pxs]
@[simp] theorem State.setReg2_streams (s : State) (a b : RegId) (i v : Nat) : (s.setReg2 a b i v).streams = s.streams := by rw [State.setReg2, State.setReg_streams, State.setReg_streams]
@[simp] theorem State.setReg2_gates (s : State) (a b : RegId) (i v : Nat) : (s.setReg2 a b i v).gates = s.gates := by rw [State.setReg2, State.setReg_gates, State.setReg_gates]
@[simp] theorem State.setReg2_dmas (s : State) (a b : RegId) (i v : Nat) : (s.setReg2 a b i v).dmas = s.dmas := by rw [State.setReg2, State.setReg_dmas, State.setReg_dmas]
@[simp] theorem State.setReg2_dmaJobs (s : State) (a b : RegId) (i v : Nat) : (s.setReg2 a b i v).dmaJobs = s.dmaJobs := by rw [State.setReg2, State.setReg_dmaJobs, State.setReg_dmaJobs]
@[simp] theorem State.setReg2_sentWrites (s : State) (a b : RegId) (i v : Nat) : (s.setReg2 a b i v).sentWrites = s.sentWrites := by rw [State.setReg2, State.setReg_sentWrites, State.setReg_sentWrites]
@[simp] theorem State.setReg2_tm (s : State) (a b : RegId) (i v : Nat) : (s.setReg2 a b i v).tm = s.tm := by rw [State.setReg2, State.setReg_tm, State.setReg_tm]
@[simp] theorem State.setReg2_mg (s : State) (a b : RegId) (i v : Nat) : (s.setReg2 a b i v).mg = s.mg := by rw [State.setReg2, State.setReg_mg, State.setReg_mg]
@[simp] theorem State.setReg2_fh (s : State) (a b : RegId) (i v : Nat) : (s.setReg2 a b i v).fh = s.fh := by rw [State.setReg2, State.setReg_fh, State.setReg_fh]
@[simp] theorem State.setReg2_lr (s : State) (a b : RegId) (i v : Nat) : (s.setReg2 a b i v).lr = s.lr := by rw [State.setReg2, State.setReg_lr, State.setReg_lr]
@[simp] theorem State.setReg2_wire (s : State) (a b : RegId) (i v : Nat) : (s.setReg2 a b i v).wire = s.wire := by rw [State.setReg2, State.setReg_wire, State.setReg_wire]
@[simp] theorem State.setReg2_fab (s : State) (a b : RegId) (i v : Nat) : (s.setReg2 a b i v).fab = s.fab := by rw [State.setReg2, State.setReg_fab, State.setReg_fab]
@[simp] theorem State.setReg2_lanes (s : State) (a b : RegId) (i v : Nat) : (s.setReg2 a b i v).lanes = s.lanes := by rw [State.setReg2, State.setReg_lanes, State.setReg_lanes]
@[simp] theorem State.setReg2_pw (s : State) (a b : RegId) (i v : Nat) : (s.setReg2 a b i v).pw = s.pw := by rw [State.setReg2, State.setReg_pw, State.setReg_pw]
@[simp] theorem State.setReg2_kp (s : State) (a b : RegId) (i v : Nat) : (s.setReg2 a b i v).kp = s.kp := by rw [State.setReg2, State.setReg_kp, State.setReg_kp]
@[simp] theorem State.setReg2_bt (s : State) (a b : RegId) (i v : Nat) : (s.setReg2 a b i v).bt = s.bt := by rw [State.setReg2, State.setReg_bt, State.setReg_bt]
@[simp] theorem State.setReg2_mgmtKey (s : State) (a b : RegId) (i v : Nat) : (s.setReg2 a b i v).mgmtKey = s.mgmtKey := by rw [State.setReg2, State.setReg_mgmtKey, State.setReg_mgmtKey]
@[simp] theorem State.setReg2_hostOut (s : State) (a b : RegId) (i v : Nat) : (s.setReg2 a b i v).hostOut = s.hostOut := by rw [State.setReg2, State.setReg_hostOut, State.setReg_hostOut]
@[simp] theorem State.setReg2_msixOut (s : State) (a b : RegId) (i v : Nat) : (s.setReg2 a b i v).msixOut = s.msixOut := by rw [State.setReg2, State.setReg_msixOut, State.setReg_msixOut]
@[simp] theorem State.setReg2_replies (s : State) (a b : RegId) (i v : Nat) : (s.setReg2 a b i v).replies = s.replies := by rw [State.setReg2, State.setReg_replies, State.setReg_replies]
@[simp] theorem State.setReg2_reads (s : State) (a b : RegId) (i v : Nat) : (s.setReg2 a b i v).reads = s.reads := by rw [State.setReg2, State.setReg_reads, State.setReg_reads]
@[simp] theorem State.setReg2_flr (s : State) (a b : RegId) (i v : Nat) : (s.setReg2 a b i v).flr = s.flr := by rw [State.setReg2, State.setReg_flr, State.setReg_flr]
@[simp] theorem State.setReg2_freeCtr (s : State) (a b : RegId) (i v : Nat) : (s.setReg2 a b i v).freeCtr = s.freeCtr := by rw [State.setReg2, State.setReg_freeCtr, State.setReg_freeCtr]

@[simp] theorem State.used_pending (s : State) : (s.used).pending = s.pending := by rw [State.used]
@[simp] theorem State.used_regs (s : State) : (s.used).regs = s.regs := by rw [State.used]
@[simp] theorem State.used_rwsNew (s : State) : (s.used).rwsNew = s.rwsNew := by rw [State.used]
@[simp] theorem State.used_rwsLatched (s : State) : (s.used).rwsLatched = s.rwsLatched := by rw [State.used]
@[simp] theorem State.used_rweNew (s : State) : (s.used).rweNew = s.rweNew := by rw [State.used]
@[simp] theorem State.used_rweLatched (s : State) : (s.used).rweLatched = s.rweLatched := by rw [State.used]
@[simp] theorem State.used_rwsLate (s : State) : (s.used).rwsLate = s.rwsLate := by rw [State.used]
@[simp] theorem State.used_rweLate (s : State) : (s.used).rweLate = s.rweLate := by rw [State.used]
@[simp] theorem State.used_cave (s : State) : (s.used).cave = s.cave := by rw [State.used]
@[simp] theorem State.used_own (s : State) : (s.used).own = s.own := by rw [State.used]
@[simp] theorem State.used_fillQ (s : State) : (s.used).fillQ = s.fillQ := by rw [State.used]
@[simp] theorem State.used_blk (s : State) : (s.used).blk = s.blk := by rw [State.used]
@[simp] theorem State.used_flows (s : State) : (s.used).flows = s.flows := by rw [State.used]
@[simp] theorem State.used_qEnqs (s : State) : (s.used).qEnqs = s.qEnqs := by rw [State.used]
@[simp] theorem State.used_cal (s : State) : (s.used).cal = s.cal := by rw [State.used]
@[simp] theorem State.used_cap (s : State) : (s.used).cap = s.cap := by rw [State.used]
@[simp] theorem State.used_orders (s : State) : (s.used).orders = s.orders := by rw [State.used]
@[simp] theorem State.used_orderSeq (s : State) : (s.used).orderSeq = s.orderSeq := by rw [State.used]
@[simp] theorem State.used_rank (s : State) : (s.used).rank = s.rank := by rw [State.used]
@[simp] theorem State.used_sentArmed (s : State) : (s.used).sentArmed = s.sentArmed := by rw [State.used]
@[simp] theorem State.used_sentFree (s : State) : (s.used).sentFree = s.sentFree := by rw [State.used]
@[simp] theorem State.used_credits (s : State) : (s.used).credits = s.credits := by rw [State.used]
@[simp] theorem State.used_curds (s : State) : (s.used).curds = s.curds := by rw [State.used]
@[simp] theorem State.used_gone (s : State) : (s.used).gone = s.gone := by rw [State.used]
@[simp] theorem State.used_traces (s : State) : (s.used).traces = s.traces := by rw [State.used]
@[simp] theorem State.used_images (s : State) : (s.used).images = s.images := by rw [State.used]
@[simp] theorem State.used_cores (s : State) : (s.used).cores = s.cores := by rw [State.used]
@[simp] theorem State.used_bmus (s : State) : (s.used).bmus = s.bmus := by rw [State.used]
@[simp] theorem State.used_vm (s : State) : (s.used).vm = s.vm := by rw [State.used]
@[simp] theorem State.used_tsm (s : State) : (s.used).tsm = s.tsm := by rw [State.used]
@[simp] theorem State.used_tchans (s : State) : (s.used).tchans = s.tchans := by rw [State.used]
@[simp] theorem State.used_bad (s : State) : (s.used).bad = s.bad := by rw [State.used]
@[simp] theorem State.used_errs (s : State) : (s.used).errs = s.errs := by rw [State.used]
@[simp] theorem State.used_inHand (s : State) : (s.used).inHand = s.inHand := by rw [State.used]
@[simp] theorem State.used_merges (s : State) : (s.used).merges = s.merges := by rw [State.used]
@[simp] theorem State.used_scrubLines (s : State) : (s.used).scrubLines = s.scrubLines := by rw [State.used]
@[simp] theorem State.used_engs (s : State) : (s.used).engs = s.engs := by rw [State.used]
@[simp] theorem State.used_pxs (s : State) : (s.used).pxs = s.pxs := by rw [State.used]
@[simp] theorem State.used_streams (s : State) : (s.used).streams = s.streams := by rw [State.used]
@[simp] theorem State.used_gates (s : State) : (s.used).gates = s.gates := by rw [State.used]
@[simp] theorem State.used_dmas (s : State) : (s.used).dmas = s.dmas := by rw [State.used]
@[simp] theorem State.used_dmaJobs (s : State) : (s.used).dmaJobs = s.dmaJobs := by rw [State.used]
@[simp] theorem State.used_sentWrites (s : State) : (s.used).sentWrites = s.sentWrites := by rw [State.used]
@[simp] theorem State.used_tm (s : State) : (s.used).tm = s.tm := by rw [State.used]
@[simp] theorem State.used_mg (s : State) : (s.used).mg = s.mg := by rw [State.used]
@[simp] theorem State.used_fh (s : State) : (s.used).fh = s.fh := by rw [State.used]
@[simp] theorem State.used_lr (s : State) : (s.used).lr = s.lr := by rw [State.used]
@[simp] theorem State.used_wire (s : State) : (s.used).wire = s.wire := by rw [State.used]
@[simp] theorem State.used_fab (s : State) : (s.used).fab = s.fab := by rw [State.used]
@[simp] theorem State.used_lanes (s : State) : (s.used).lanes = s.lanes := by rw [State.used]
@[simp] theorem State.used_pw (s : State) : (s.used).pw = s.pw := by rw [State.used]
@[simp] theorem State.used_kp (s : State) : (s.used).kp = s.kp := by rw [State.used]
@[simp] theorem State.used_bt (s : State) : (s.used).bt = s.bt := by rw [State.used]
@[simp] theorem State.used_mgmtKey (s : State) : (s.used).mgmtKey = s.mgmtKey := by rw [State.used]
@[simp] theorem State.used_hostOut (s : State) : (s.used).hostOut = s.hostOut := by rw [State.used]
@[simp] theorem State.used_msixOut (s : State) : (s.used).msixOut = s.msixOut := by rw [State.used]
@[simp] theorem State.used_replies (s : State) : (s.used).replies = s.replies := by rw [State.used]
@[simp] theorem State.used_reads (s : State) : (s.used).reads = s.reads := by rw [State.used]
@[simp] theorem State.used_flr (s : State) : (s.used).flr = s.flr := by rw [State.used]

@[simp] theorem State.werr_pending (s : State) (o : Nat) (src : Source) (b : Nat) : (s.werr o src b).pending = s.pending := by simp only [State.werr, State.bump_pending, State.setReg_pending]
@[simp] theorem State.werr_rwsNew (s : State) (o : Nat) (src : Source) (b : Nat) : (s.werr o src b).rwsNew = s.rwsNew := by simp only [State.werr, State.bump_rwsNew, State.setReg_rwsNew]
@[simp] theorem State.werr_rwsLatched (s : State) (o : Nat) (src : Source) (b : Nat) : (s.werr o src b).rwsLatched = s.rwsLatched := by simp only [State.werr, State.bump_rwsLatched, State.setReg_rwsLatched]
@[simp] theorem State.werr_rweNew (s : State) (o : Nat) (src : Source) (b : Nat) : (s.werr o src b).rweNew = s.rweNew := by simp only [State.werr, State.bump_rweNew, State.setReg_rweNew]
@[simp] theorem State.werr_rweLatched (s : State) (o : Nat) (src : Source) (b : Nat) : (s.werr o src b).rweLatched = s.rweLatched := by simp only [State.werr, State.bump_rweLatched, State.setReg_rweLatched]
@[simp] theorem State.werr_rwsLate (s : State) (o : Nat) (src : Source) (b : Nat) : (s.werr o src b).rwsLate = s.rwsLate := by simp only [State.werr, State.bump_rwsLate, State.setReg_rwsLate]
@[simp] theorem State.werr_rweLate (s : State) (o : Nat) (src : Source) (b : Nat) : (s.werr o src b).rweLate = s.rweLate := by simp only [State.werr, State.bump_rweLate, State.setReg_rweLate]
@[simp] theorem State.werr_cave (s : State) (o : Nat) (src : Source) (b : Nat) : (s.werr o src b).cave = s.cave := by simp only [State.werr, State.bump_cave, State.setReg_cave]
@[simp] theorem State.werr_own (s : State) (o : Nat) (src : Source) (b : Nat) : (s.werr o src b).own = s.own := by simp only [State.werr, State.bump_own, State.setReg_own]
@[simp] theorem State.werr_fillQ (s : State) (o : Nat) (src : Source) (b : Nat) : (s.werr o src b).fillQ = s.fillQ := by simp only [State.werr, State.bump_fillQ, State.setReg_fillQ]
@[simp] theorem State.werr_blk (s : State) (o : Nat) (src : Source) (b : Nat) : (s.werr o src b).blk = s.blk := by simp only [State.werr, State.bump_blk, State.setReg_blk]
@[simp] theorem State.werr_flows (s : State) (o : Nat) (src : Source) (b : Nat) : (s.werr o src b).flows = s.flows := by simp only [State.werr, State.bump_flows, State.setReg_flows]
@[simp] theorem State.werr_qEnqs (s : State) (o : Nat) (src : Source) (b : Nat) : (s.werr o src b).qEnqs = s.qEnqs := by simp only [State.werr, State.bump_qEnqs, State.setReg_qEnqs]
@[simp] theorem State.werr_cal (s : State) (o : Nat) (src : Source) (b : Nat) : (s.werr o src b).cal = s.cal := by simp only [State.werr, State.bump_cal, State.setReg_cal]
@[simp] theorem State.werr_cap (s : State) (o : Nat) (src : Source) (b : Nat) : (s.werr o src b).cap = s.cap := by simp only [State.werr, State.bump_cap, State.setReg_cap]
@[simp] theorem State.werr_orders (s : State) (o : Nat) (src : Source) (b : Nat) : (s.werr o src b).orders = s.orders := by simp only [State.werr, State.bump_orders, State.setReg_orders]
@[simp] theorem State.werr_orderSeq (s : State) (o : Nat) (src : Source) (b : Nat) : (s.werr o src b).orderSeq = s.orderSeq := by simp only [State.werr, State.bump_orderSeq, State.setReg_orderSeq]
@[simp] theorem State.werr_rank (s : State) (o : Nat) (src : Source) (b : Nat) : (s.werr o src b).rank = s.rank := by simp only [State.werr, State.bump_rank, State.setReg_rank]
@[simp] theorem State.werr_sentArmed (s : State) (o : Nat) (src : Source) (b : Nat) : (s.werr o src b).sentArmed = s.sentArmed := by simp only [State.werr, State.bump_sentArmed, State.setReg_sentArmed]
@[simp] theorem State.werr_sentFree (s : State) (o : Nat) (src : Source) (b : Nat) : (s.werr o src b).sentFree = s.sentFree := by simp only [State.werr, State.bump_sentFree, State.setReg_sentFree]
@[simp] theorem State.werr_credits (s : State) (o : Nat) (src : Source) (b : Nat) : (s.werr o src b).credits = s.credits := by simp only [State.werr, State.bump_credits, State.setReg_credits]
@[simp] theorem State.werr_curds (s : State) (o : Nat) (src : Source) (b : Nat) : (s.werr o src b).curds = s.curds := by simp only [State.werr, State.bump_curds, State.setReg_curds]
@[simp] theorem State.werr_gone (s : State) (o : Nat) (src : Source) (b : Nat) : (s.werr o src b).gone = s.gone := by simp only [State.werr, State.bump_gone, State.setReg_gone]
@[simp] theorem State.werr_traces (s : State) (o : Nat) (src : Source) (b : Nat) : (s.werr o src b).traces = s.traces := by simp only [State.werr, State.bump_traces, State.setReg_traces]
@[simp] theorem State.werr_images (s : State) (o : Nat) (src : Source) (b : Nat) : (s.werr o src b).images = s.images := by simp only [State.werr, State.bump_images, State.setReg_images]
@[simp] theorem State.werr_cores (s : State) (o : Nat) (src : Source) (b : Nat) : (s.werr o src b).cores = s.cores := by simp only [State.werr, State.bump_cores, State.setReg_cores]
@[simp] theorem State.werr_bmus (s : State) (o : Nat) (src : Source) (b : Nat) : (s.werr o src b).bmus = s.bmus := by simp only [State.werr, State.bump_bmus, State.setReg_bmus]
@[simp] theorem State.werr_vm (s : State) (o : Nat) (src : Source) (b : Nat) : (s.werr o src b).vm = s.vm := by simp only [State.werr, State.bump_vm, State.setReg_vm]
@[simp] theorem State.werr_tsm (s : State) (o : Nat) (src : Source) (b : Nat) : (s.werr o src b).tsm = s.tsm := by simp only [State.werr, State.bump_tsm, State.setReg_tsm]
@[simp] theorem State.werr_tchans (s : State) (o : Nat) (src : Source) (b : Nat) : (s.werr o src b).tchans = s.tchans := by simp only [State.werr, State.bump_tchans, State.setReg_tchans]
@[simp] theorem State.werr_bad (s : State) (o : Nat) (src : Source) (b : Nat) : (s.werr o src b).bad = s.bad := by simp only [State.werr, State.bump_bad, State.setReg_bad]
@[simp] theorem State.werr_errs (s : State) (o : Nat) (src : Source) (b : Nat) : (s.werr o src b).errs = s.errs := by simp only [State.werr, State.bump_errs, State.setReg_errs]
@[simp] theorem State.werr_inHand (s : State) (o : Nat) (src : Source) (b : Nat) : (s.werr o src b).inHand = s.inHand := by simp only [State.werr, State.bump_inHand, State.setReg_inHand]
@[simp] theorem State.werr_merges (s : State) (o : Nat) (src : Source) (b : Nat) : (s.werr o src b).merges = s.merges := by simp only [State.werr, State.bump_merges, State.setReg_merges]
@[simp] theorem State.werr_scrubLines (s : State) (o : Nat) (src : Source) (b : Nat) : (s.werr o src b).scrubLines = s.scrubLines := by simp only [State.werr, State.bump_scrubLines, State.setReg_scrubLines]
@[simp] theorem State.werr_engs (s : State) (o : Nat) (src : Source) (b : Nat) : (s.werr o src b).engs = s.engs := by simp only [State.werr, State.bump_engs, State.setReg_engs]
@[simp] theorem State.werr_pxs (s : State) (o : Nat) (src : Source) (b : Nat) : (s.werr o src b).pxs = s.pxs := by simp only [State.werr, State.bump_pxs, State.setReg_pxs]
@[simp] theorem State.werr_streams (s : State) (o : Nat) (src : Source) (b : Nat) : (s.werr o src b).streams = s.streams := by simp only [State.werr, State.bump_streams, State.setReg_streams]
@[simp] theorem State.werr_gates (s : State) (o : Nat) (src : Source) (b : Nat) : (s.werr o src b).gates = s.gates := by simp only [State.werr, State.bump_gates, State.setReg_gates]
@[simp] theorem State.werr_dmas (s : State) (o : Nat) (src : Source) (b : Nat) : (s.werr o src b).dmas = s.dmas := by simp only [State.werr, State.bump_dmas, State.setReg_dmas]
@[simp] theorem State.werr_dmaJobs (s : State) (o : Nat) (src : Source) (b : Nat) : (s.werr o src b).dmaJobs = s.dmaJobs := by simp only [State.werr, State.bump_dmaJobs, State.setReg_dmaJobs]
@[simp] theorem State.werr_sentWrites (s : State) (o : Nat) (src : Source) (b : Nat) : (s.werr o src b).sentWrites = s.sentWrites := by simp only [State.werr, State.bump_sentWrites, State.setReg_sentWrites]
@[simp] theorem State.werr_tm (s : State) (o : Nat) (src : Source) (b : Nat) : (s.werr o src b).tm = s.tm := by simp only [State.werr, State.bump_tm, State.setReg_tm]
@[simp] theorem State.werr_mg (s : State) (o : Nat) (src : Source) (b : Nat) : (s.werr o src b).mg = s.mg := by simp only [State.werr, State.bump_mg, State.setReg_mg]
@[simp] theorem State.werr_fh (s : State) (o : Nat) (src : Source) (b : Nat) : (s.werr o src b).fh = s.fh := by simp only [State.werr, State.bump_fh, State.setReg_fh]
@[simp] theorem State.werr_lr (s : State) (o : Nat) (src : Source) (b : Nat) : (s.werr o src b).lr = s.lr := by simp only [State.werr, State.bump_lr, State.setReg_lr]
@[simp] theorem State.werr_wire (s : State) (o : Nat) (src : Source) (b : Nat) : (s.werr o src b).wire = s.wire := by simp only [State.werr, State.bump_wire, State.setReg_wire]
@[simp] theorem State.werr_fab (s : State) (o : Nat) (src : Source) (b : Nat) : (s.werr o src b).fab = s.fab := by simp only [State.werr, State.bump_fab, State.setReg_fab]
@[simp] theorem State.werr_lanes (s : State) (o : Nat) (src : Source) (b : Nat) : (s.werr o src b).lanes = s.lanes := by simp only [State.werr, State.bump_lanes, State.setReg_lanes]
@[simp] theorem State.werr_pw (s : State) (o : Nat) (src : Source) (b : Nat) : (s.werr o src b).pw = s.pw := by simp only [State.werr, State.bump_pw, State.setReg_pw]
@[simp] theorem State.werr_kp (s : State) (o : Nat) (src : Source) (b : Nat) : (s.werr o src b).kp = s.kp := by simp only [State.werr, State.bump_kp, State.setReg_kp]
@[simp] theorem State.werr_bt (s : State) (o : Nat) (src : Source) (b : Nat) : (s.werr o src b).bt = s.bt := by simp only [State.werr, State.bump_bt, State.setReg_bt]
@[simp] theorem State.werr_mgmtKey (s : State) (o : Nat) (src : Source) (b : Nat) : (s.werr o src b).mgmtKey = s.mgmtKey := by simp only [State.werr, State.bump_mgmtKey, State.setReg_mgmtKey]
@[simp] theorem State.werr_hostOut (s : State) (o : Nat) (src : Source) (b : Nat) : (s.werr o src b).hostOut = s.hostOut := by simp only [State.werr, State.bump_hostOut, State.setReg_hostOut]
@[simp] theorem State.werr_msixOut (s : State) (o : Nat) (src : Source) (b : Nat) : (s.werr o src b).msixOut = s.msixOut := by simp only [State.werr, State.bump_msixOut, State.setReg_msixOut]
@[simp] theorem State.werr_replies (s : State) (o : Nat) (src : Source) (b : Nat) : (s.werr o src b).replies = s.replies := by simp only [State.werr, State.bump_replies, State.setReg_replies]
@[simp] theorem State.werr_reads (s : State) (o : Nat) (src : Source) (b : Nat) : (s.werr o src b).reads = s.reads := by simp only [State.werr, State.bump_reads, State.setReg_reads]
@[simp] theorem State.werr_flr (s : State) (o : Nat) (src : Source) (b : Nat) : (s.werr o src b).flr = s.flr := by simp only [State.werr, State.bump_flr, State.setReg_flr]
@[simp] theorem State.werr_freeCtr (s : State) (o : Nat) (src : Source) (b : Nat) : (s.werr o src b).freeCtr = s.freeCtr := by simp only [State.werr, State.bump_freeCtr, State.setReg_freeCtr]

/-! ## Registers -/

/-- Two registers share a key only when they are one register. -/
theorem RegId.key_inj {r q : RegId} {i j : Nat} : r.key i = q.key j ↔ r = q ∧ i = j := by
  have hr : r.ctorIdx < 512 := by cases r <;> decide
  have hq : q.ctorIdx < 512 := by cases q <;> decide
  constructor
  · intro h
    unfold RegId.key at h
    have h1 : r.ctorIdx = q.ctorIdx := by omega
    refine ⟨?_, by omega⟩
    rw [← RegId.ofNat_ctorIdx r, ← RegId.ofNat_ctorIdx q, h1]
  · rintro ⟨rfl, rfl⟩; rfl

/-- A register after a register write. -/
@[simp] theorem State.reg_setReg (s : State) (r q : RegId) (i j v : Nat) :
    (s.setReg r i v).reg q j = if q = r ∧ j = i then v else s.reg q j := by
  unfold State.reg State.setReg
  split
  · rename_i h; obtain ⟨rfl, rfl⟩ := h; simp
  · rename_i h
    exact Sparse.get_set_other _ _ _ _ (fun he => h (RegId.key_inj.1 he))

/-- Another state with the same register file. -/
theorem State.reg_congr {s t : State} (h : t.regs = s.regs) (r : RegId) (i : Nat) : t.reg r i = s.reg r i := by
  unfold State.reg; rw [h]
theorem State.fld_congr {s t : State} (h : t.regs = s.regs) (f : Fld) (i : Nat) : t.fld f i = s.fld f i := by
  unfold State.fld; rw [State.reg_congr h]

/-- A field after a register write. -/
@[simp] theorem State.fld_setReg (s : State) (r : RegId) (f : Fld) (i j v : Nat) :
    (s.setReg r i v).fld f j = if f.reg = r ∧ j = i then bits v f.hi f.lo else s.fld f j := by
  unfold State.fld; rw [State.reg_setReg]; split <;> rfl

/-- A register after a field write. -/
@[simp] theorem State.reg_setFld (s : State) (f : Fld) (q : RegId) (i j v : Nat) :
    (s.setFld f i v).reg q j = if q = f.reg ∧ j = i then putBits (s.reg f.reg i) f.hi f.lo v else s.reg q j := by
  unfold State.setFld; rw [State.reg_setReg]

/-- A field after a field write. -/
theorem State.fld_setFld (s : State) (f g : Fld) (i j v : Nat) :
    (s.setFld f i v).fld g j = if g.reg = f.reg ∧ j = i then bits (putBits (s.reg f.reg i) f.hi f.lo v) g.hi g.lo else s.fld g j := by
  unfold State.setFld; rw [State.fld_setReg]

/-- The field just written. -/
@[simp] theorem State.fld_setFld_same (s : State) (f : Fld) (i v : Nat) : (s.setFld f i v).fld f i = v % 2 ^ (f.hi + 1 - f.lo) := by
  rw [State.fld_setFld]; simp

/-- A field of another register, or one that does not overlap the field written. -/
theorem State.fld_setFld_other (s : State) (f g : Fld) (i j v : Nat)
    (h : g.reg ≠ f.reg ∨ j ≠ i ∨ g.hi < f.lo ∨ (f.hi < g.lo ∧ f.lo ≤ g.lo)) : (s.setFld f i v).fld g j = s.fld g j := by
  rw [State.fld_setFld]
  split
  · rename_i e
    rw [bits_putBits_other _ _ _ _ _ _ (by simpa [e] using h)]
    obtain ⟨e1, e2⟩ := e
    unfold State.fld; rw [e1, e2]
  · rfl

/-- A register after a counter is raised. -/
@[simp] theorem State.reg_bump (s : State) (r q : RegId) (i j n : Nat) :
    (s.bump r i n).reg q j = if q = r ∧ j = i then (s.reg r i + n) % 2 ^ 32 else s.reg q j := by
  unfold State.bump; rw [State.reg_setReg]
@[simp] theorem State.fld_bump (s : State) (r : RegId) (f : Fld) (i j n : Nat) :
    (s.bump r i n).fld f j = if f.reg = r ∧ j = i then bits ((s.reg r i + n) % 2 ^ 32) f.hi f.lo else s.fld f j := by
  unfold State.bump; rw [State.fld_setReg]
@[simp] theorem State.reg_used (s : State) (r : RegId) (i : Nat) : s.used.reg r i = s.reg r i := State.reg_congr (by simp) r i
@[simp] theorem State.fld_used (s : State) (f : Fld) (i : Nat) : s.used.fld f i = s.fld f i := State.fld_congr (by simp) f i

/-- Registers after several are cleared at one index. -/
theorem State.reg_clearRegs (s : State) (l : List RegId) (q : RegId) (i j : Nat) :
    (s.clearRegs l i).reg q j = if q ∈ l ∧ j = i then 0 else s.reg q j := by
  unfold State.clearRegs
  induction l generalizing s with
  | nil => simp
  | cons r l ih =>
    rw [List.foldl_cons, ih, State.reg_setReg]
    by_cases h1 : q ∈ l <;> by_cases h2 : j = i <;> by_cases h3 : q = r <;> simp [h1, h2, h3]

/-- What a discarded write does to the registers: GLOBAL_WERR holds its record and the counter is raised. -/
theorem State.reg_werr (s : State) (o b : Nat) (src : Source) (q : RegId) (j : Nat) (h : q ≠ .GLOBAL_WERR) (h' : q ≠ .GLOBAL_WERR_CNT) :
    (s.werr o src b).reg q j = s.reg q j := by
  unfold State.werr; simp [h, h']
@[simp] theorem State.werr_cnt (s : State) (o b : Nat) (src : Source) :
    (s.werr o src b).reg .GLOBAL_WERR_CNT 0 = (s.reg .GLOBAL_WERR_CNT 0 + 1) % 2 ^ 32 := by
  unfold State.werr; simp

end Sys2Proof.Machine
end

