-- ==== Sys2Proof/Laws/Bus.lean ====
section
/-!
SUPPORT. Laws of register writes: when the gate of the bus is open, and that register-only updates compose.
-/
namespace Sys2Proof.Machine

/-- A write that reaches its block does what the block does with it. -/
theorem busGate_of_reach {s : State} {src : Source} (h : Reach s src) (off : Nat) (t : State) : s.busGate off src t = t := by
  obtain ⟨hv, hs⟩ := h
  have ho : s.busOpen off src = true := by
    unfold State.busOpen
    rcases hs with h | ⟨h1, h2⟩
    · simp [h]
    · simp [h1, h2]
  have h4 : ¬(s.fld Fld.POWER_STAT_STATE = 4 ∧ src ≠ .steward) := by
    rcases hs with h | ⟨h1, _⟩
    · simp [h]
    · rintro ⟨h, _⟩; omega
  unfold State.busGate
  split
  · rename_i n; exact absurd rfl (hv n)
  · rw [if_neg h4, if_pos ho]

theorem RegsOnly.refl (s : State) : RegsOnly s s := rfl

theorem RegsOnly.trans {s t u : State} (h1 : RegsOnly s t) (h2 : RegsOnly t u) : RegsOnly s u := by
  unfold RegsOnly at *; rw [h2, h1]

theorem regsOnly_setReg (s : State) (r : RegId) (i v : Nat) : RegsOnly s (s.setReg r i v) := by
  unfold RegsOnly; rw [State.setReg]

theorem RegsOnly.setReg {s t : State} (h : RegsOnly s t) (r : RegId) (i v : Nat) : RegsOnly s (t.setReg r i v) :=
  h.trans (regsOnly_setReg t r i v)
theorem RegsOnly.setFld {s t : State} (h : RegsOnly s t) (f : Fld) (i v : Nat) : RegsOnly s (t.setFld f i v) := by
  rw [State.setFld]; exact h.setReg _ _ _
theorem RegsOnly.bump {s t : State} (h : RegsOnly s t) (r : RegId) (i n : Nat) : RegsOnly s (t.bump r i n) := by
  rw [State.bump]; exact h.setReg _ _ _
theorem RegsOnly.werr {s t : State} (h : RegsOnly s t) (o : Nat) (src : Source) (b : Nat) : RegsOnly s (t.werr o src b) := by
  rw [State.werr]; exact (h.setReg _ _ _).bump _ _ _
theorem RegsOnly.clearRegs {s t : State} (h : RegsOnly s t) (l : List RegId) (i : Nat) : RegsOnly s (t.clearRegs l i) := by
  unfold State.clearRegs
  induction l generalizing t with
  | nil => exact h
  | cons r l ih => exact ih (h.setReg r i 0)
/-- A loop of register-only updates. -/
theorem RegsOnly.foldl {α : Type} {s t : State} (h : RegsOnly s t) (f : State → α → State) (hf : ∀ u a, RegsOnly s u → RegsOnly s (f u a))
    (l : List α) : RegsOnly s (l.foldl f t) := by
  induction l generalizing t with
  | nil => exact h
  | cons a l ih => exact ih (hf _ _ h)

/-- A register-only update keeps the memories. -/
theorem RegsOnly.sameMemory {s t : State} (h : RegsOnly s t) : SameMemory s t := by
  unfold RegsOnly at h; rw [h]; exact ⟨rfl, rfl, rfl⟩

end Sys2Proof.Machine
end

