-- ==== Sys2Proof/Laws/Replies.lean ====
section
/-!
SUPPORT. Everything that an event and an answer can do, said once: an event and a reply change what `Spoke` allows and nothing
else, a reply is one packet to its command's source, and an event stands in the log.
-/
namespace Sys2Proof.Machine

theorem Spoke.refl (s : State) : Spoke s s := ⟨rfl, rfl, fun _ _ _ => rfl⟩

theorem Spoke.trans {s t u : State} (h1 : Spoke s t) (h2 : Spoke t u) : Spoke s u := by
  obtain ⟨a1, b1, c1⟩ := h1
  obtain ⟨a2, b2, c2⟩ := h2
  refine ⟨?_, ?_, fun r i x => (c2 r i x).trans (c1 r i x)⟩
  · rw [a2, a1]
  · rw [b2, b1]

theorem Spoke.foldl {α : Type} {s t : State} (h : Spoke s t) (f : State → α → State) (hf : ∀ u a, Spoke u (f u a)) (l : List α) :
    Spoke s (l.foldl f t) := by
  induction l generalizing t with
  | nil => exact h
  | cons a l ih => exact ih (h.trans (hf _ _))

/-- The counter of lost events. -/
theorem spoke_lost (s : State) : Spoke s (s.bump .MGMT_CNT_EVLOST) := by
  refine ⟨?_, ?_, fun r i h => ?_⟩
  · rw [State.bump, State.setReg]
  · rw [State.bump, State.setReg]
  · rw [State.bump, State.reg_setReg, if_neg (fun h' => h h'.1)]

theorem spoke_enqueue (s : State) (q : Nat) (d : List Byte) (p : Producer) (n : Nat) (v : Option (Nat × Nat)) :
    Spoke s (s.enqueue q d p n v) := ⟨rfl, rfl, fun _ _ _ => rfl⟩

theorem spoke_sendPacket (s : State) (src : CmdSource) (p : List Byte) (n : Nat) (v : Option (Nat × Nat)) :
    Spoke s (s.sendPacket src p n v) := by
  unfold State.sendPacket
  split <;> exact ⟨rfl, rfl, fun _ _ _ => rfl⟩

theorem spoke_unheld (s : State) (p tag : Nat) : Spoke s (s.unheld p tag) := by
  unfold State.unheld
  split <;> exact ⟨rfl, rfl, fun _ _ _ => rfl⟩

theorem spoke_answered (s : State) (c : CmdCtx) : Spoke s (s.answered c) := ⟨rfl, rfl, fun _ _ _ => rfl⟩

/-- What a reply can change. -/
theorem spoke_replyWord (s : State) (c : CmdCtx) (sw : Nat) (rest : List Byte) : Spoke s (s.replyWord c sw rest) := by
  unfold State.replyWord
  split
  · exact ((spoke_unheld _ _ _).trans (spoke_sendPacket _ _ _ _ _)).trans (spoke_answered _ _)
  · exact (spoke_sendPacket _ _ _ _ _).trans (spoke_answered _ _)

/-- A reply is one packet to the command's source. -/
theorem replied_replyWord (s : State) (c : CmdCtx) (sw : Nat) (rest : List Byte) : Replied s (s.replyWord c sw rest) c sw rest := by
  have hu : ∀ p n, (s.unheld p n).replies = s.replies := by intro p n; unfold State.unheld; split <;> rfl
  obtain ⟨src, issuer, op, flags, tag, fetch, pl⟩ := c
  cases src with
  | pair p =>
    refine ⟨⟨[], ?_⟩, fun q hq => ⟨_, List.mem_append_right _ (List.mem_singleton.2 rfl), rfl, rfl⟩⟩
    rw [List.append_nil]
    exact congrArg (· ++ _) (hu p tag)
  | port a b => exact ⟨⟨_, rfl⟩, fun q hq => by cases hq⟩
  | ssp => exact ⟨⟨[], by rw [List.append_nil]; rfl⟩, fun q hq => by cases hq⟩
  | fabric m => exact ⟨⟨[], by rw [List.append_nil]; rfl⟩, fun q hq => by cases hq⟩

theorem spoke_reply (s : State) (c : CmdCtx) (st : Nat) (rest : List Byte) : Spoke s (s.reply c st rest) := spoke_replyWord s c st _

theorem spoke_notify (s : State) (e : EventRec) (b : Subscriber) : Spoke s (s.notify e b) := by
  have h0 : ∀ (u : State) (l : List Subscriber), Spoke u { u with mg := { u.mg with subs := l } } :=
    fun u l => ⟨rfl, rfl, fun _ _ _ => rfl⟩
  unfold State.notify
  split
  · exact h0 s _
  · split
    · exact (spoke_enqueue _ _ _ _ _ _).trans (h0 _ _)
    · split
      · exact (spoke_sendPacket _ _ _ _ _).trans (h0 _ _)
      · exact (spoke_lost s).trans (h0 _ _)

/-- What an event can change. -/
theorem spoke_event (s : State) (code sev unit a0 a1 : Nat) : Spoke s (s.event code sev unit a0 a1) := by
  have h0 : ∀ (u : State) (x : Nat) (y : List EventRec) (z : Bool),
      Spoke u { u with mg := { u.mg with seq := x, log := y, smbAlert := z, subs := [] } } := fun u x y z => ⟨rfl, rfl, fun _ _ _ => rfl⟩
  unfold State.event
  exact (h0 s _ _ _).foldl _ (fun u b => spoke_notify u _ b) _

theorem replied_reply (s : State) (c : CmdCtx) (st : Nat) (rest : List Byte) :
    Replied s (s.reply c st rest) c st (if st ≤ 1 then rest else []) := replied_replyWord s c st _

/-! ## The event itself -/

theorem log_notify (s : State) (e : EventRec) (b : Subscriber) : (s.notify e b).mg.log = s.mg.log := by
  unfold State.notify
  split
  · rfl
  · split
    · rfl
    · split
      · unfold State.sendPacket; split <;> rfl
      · simp

/-- An event stands in the log with its number, stamp and time. -/
theorem logged_event (s : State) (code sev unit a0 a1 : Nat) : Logged s (s.event code sev unit a0 a1) code sev unit a0 a1 := by
  have hl : ∀ (l : List Subscriber) (u : State) (e : EventRec), (l.foldl (fun t b => t.notify e b) u).mg.log = u.mg.log := by
    intro l
    induction l with
    | nil => intro u e; rfl
    | cons b l ih => intro u e; rw [List.foldl_cons, ih, log_notify]
  unfold Logged State.event
  dsimp only
  rw [hl]
  refine ⟨⟨s.mg.seq, s.stamp, s.tm.ns, code, sev, unit, a0, a1⟩, ?_, rfl, rfl, rfl, rfl, rfl, rfl, rfl, rfl⟩
  dsimp only
  rw [List.mem_drop_iff_getElem]
  refine ⟨s.mg.log.length - (s.mg.log.length + 1 - 1024), by simp, ?_⟩
  simp

end Sys2Proof.Machine
end

