-- ==== Sys2Proof/Laws/Memory.lean ====
section
/-!
SUPPORT. Every operation that writes the Cave, VM or TSM keeps their canonical form (`Keeps`), said once for each; and so do
the operations around a write: answers, events, die isolation, error records and merge buffers.
-/
namespace Sys2Proof.Machine

/-! ## How `Keeps` composes -/

theorem Keeps.refl (s : State) : Keeps s s := id
theorem Keeps.trans {s t u : State} (h1 : Keeps s t) (h2 : Keeps t u) : Keeps s u := fun h => h2 (h1 h)

/-- A fold of operations that each keep the form. -/
theorem Keeps.foldl {α : Type} {s t : State} (h : Keeps s t) (f : State → α → State) (hf : ∀ u a, Keeps u (f u a)) (l : List α) :
    Keeps s (l.foldl f t) := by
  induction l generalizing t with
  | nil => exact h
  | cons a l ih => exact ih (h.trans (hf _ _))

/-- The canonical form as three facts. -/
theorem Memory.wf_iff (s : State) : Memory.wf s = true ↔ Sparse.wf (fun _ => (0 : Byte)) s.cave = true
    ∧ Sparse.wf (fun _ => (0 : Byte)) s.vm = true ∧ Sparse.wf (fun _ => (0 : Byte)) s.tsm = true := by
  simp only [Memory.wf, Bool.and_eq_true, and_assoc]

/-- An operation that leaves the memories as they are. -/
theorem keeps_of_same {s t : State} (h : SameMemory s t) : Keeps s t := by
  obtain ⟨h1, h2, h3⟩ := h
  intro hw
  rw [Memory.wf_iff] at *
  rw [h1, h2, h3]
  exact hw

theorem keeps_regs {s t : State} (h : RegsOnly s t) : Keeps s t := keeps_of_same h.sameMemory

/-- A change of one memory to a table in canonical form. -/
theorem keeps_cave (s : State) (c : Sparse Byte) (h : Memory.wf s = true → Sparse.wf (fun _ => (0 : Byte)) c = true) :
    Keeps s { s with cave := c } := by
  intro hw
  rw [Memory.wf_iff]
  exact ⟨h hw, ((Memory.wf_iff s).1 hw).2⟩
theorem keeps_vm (s : State) (c : Sparse Byte) (h : Memory.wf s = true → Sparse.wf (fun _ => (0 : Byte)) c = true) :
    Keeps s { s with vm := c } := by
  intro hw
  rw [Memory.wf_iff]
  exact ⟨((Memory.wf_iff s).1 hw).1, h hw, ((Memory.wf_iff s).1 hw).2.2⟩
theorem keeps_tsm (s : State) (c : Sparse Byte) (h : Memory.wf s = true → Sparse.wf (fun _ => (0 : Byte)) c = true) :
    Keeps s { s with tsm := c } := by
  intro hw
  rw [Memory.wf_iff]
  exact ⟨((Memory.wf_iff s).1 hw).1, ((Memory.wf_iff s).1 hw).2.1, h hw⟩

theorem keeps_setReg (s : State) (r : RegId) (i v : Nat) : Keeps s (s.setReg r i v) := keeps_regs ((RegsOnly.refl s).setReg r i v)
theorem keeps_setFld (s : State) (f : Fld) (i v : Nat) : Keeps s (s.setFld f i v) := keeps_regs ((RegsOnly.refl s).setFld f i v)
theorem keeps_bump (s : State) (r : RegId) (i n : Nat) : Keeps s (s.bump r i n) := keeps_regs ((RegsOnly.refl s).bump r i n)
theorem keeps_used (s : State) : Keeps s s.used := fun h => h

/-! ## Cave, VM and TSM bytes -/

/-- A byte into the Cave. -/
theorem keeps_caveSet (s : State) (a : Nat) (b : Byte) : Keeps s (s.caveSet a b) := by
  have hs : Keeps s { s with cave := Sparse.set 0 s.cave (canonAddr a) b } :=
    keeps_cave _ _ (fun h => Sparse.wf_set (fun _ => 0) _ _ _ ((Memory.wf_iff s).1 h).1)
  unfold State.caveSet
  dsimp only
  split
  · exact Keeps.refl s
  · split
    · exact Keeps.refl s
    · split
      · exact fun h => h
      · exact hs
    · exact hs

/-- Bytes into the Cave. -/
theorem keeps_caveBytes (p : List Byte) : ∀ (s : State) (a : Nat), Keeps s (s.caveBytes a p) := by
  induction p with
  | nil => intro s a; exact Keeps.refl s
  | cons b r ih => intro s a; exact (keeps_caveSet s a b).trans (ih _ _)

/-- A byte string into the Cave. -/
theorem keeps_caveWrite (p : List Byte) (s : State) (a : Nat) : Keeps s (s.caveWrite a p) := by
  have h0 : Keeps s (s.wakeStack a p.length) := by unfold State.wakeStack; split <;> exact fun h => h
  unfold State.caveWrite
  generalize s.wakeStack a p.length = u at h0
  refine (h0.trans ?_).trans (keeps_caveBytes p _ a)
  unfold State.caveHeal
  split
  · exact Keeps.refl u
  · exact fun h => h

/-- Byte strings into the tables themselves. -/
theorem keeps_writeCave (s : State) (a : Nat) (p : List Byte) : Keeps s { s with cave := writeBytes s.cave a p } :=
  keeps_cave _ _ (fun h => writeBytes_wf p _ _ ((Memory.wf_iff s).1 h).1)
theorem keeps_writeVm (s : State) (a : Nat) (p : List Byte) : Keeps s { s with vm := writeBytes s.vm a p } :=
  keeps_vm _ _ (fun h => writeBytes_wf p _ _ ((Memory.wf_iff s).1 h).2.1)
theorem keeps_writeTsm (s : State) (a : Nat) (p : List Byte) : Keeps s { s with tsm := writeBytes s.tsm a p } :=
  keeps_tsm _ _ (fun h => writeBytes_wf p _ _ ((Memory.wf_iff s).1 h).2.2)

theorem dropKeys_wf (m : Sparse Byte) (n d : Nat) (h : Sparse.wf (fun _ => (0 : Byte)) m = true) :
    Sparse.wf (fun _ => (0 : Byte)) (dropKeys m n d) = true := Sparse.wf_filter _ _ _ h

/-! ## Queues, answers and events -/

theorem keeps_hostWrite (s : State) (f a : Nat) (d : List Byte) : Keeps s (s.hostWrite f a d) := by
  unfold State.hostWrite
  split
  · exact Keeps.refl s
  · exact fun h => h

theorem keeps_msix (s : State) (f v : Nat) : Keeps s (s.msix f v) := by
  unfold State.msix
  split
  · exact Keeps.refl s
  · exact fun h => h

theorem keeps_qPut (s : State) (q : Nat) (d : List Byte) : Keeps s (s.qPut q d) := by
  unfold State.qPut
  dsimp only
  refine Keeps.trans ?_ (keeps_setReg _ _ _ _)
  split
  · exact (keeps_writeCave _ _ _).trans (keeps_hostWrite _ _ _ _)
  · exact keeps_writeCave _ _ _

theorem keeps_qPutBytes (s : State) (q : Nat) (b : List Byte) : Keeps s (s.qPutBytes q b) :=
  (Keeps.refl s).foldl _ (fun u _ => keeps_qPut u q _) _

/-- Answers and events touch no memory. -/
theorem Spoke.sameMemory {s t : State} (h : Spoke s t) : SameMemory s t := by rw [h.1]; exact ⟨rfl, rfl, rfl⟩

/-- Answers and events keep the form. -/
theorem Spoke.keeps {s t : State} (h : Spoke s t) : Keeps s t := keeps_of_same h.sameMemory

/-- An answer keeps the form. -/
theorem keeps_replyWord (s : State) (c : CmdCtx) (sw : Nat) (rest : List Byte) : Keeps s (s.replyWord c sw rest) :=
  (spoke_replyWord s c sw rest).keeps

theorem keeps_reply (s : State) (c : CmdCtx) (st : Nat) (rest : List Byte) : Keeps s (s.reply c st rest) := keeps_replyWord s c st _

/-- An event keeps the form. -/
theorem keeps_event (s : State) (code sev unit a0 a1 : Nat) : Keeps s (s.event code sev unit a0 a1) := (spoke_event s code sev unit a0 a1).keeps

end Sys2Proof.Machine
end

