-- ==== Sys2Proof/WellFormed.lean ====
section
/-!
DEFINITION. When the operands of a command are ones the spec's interfaces can carry: a packet's fields fit their places
(R407, Table 16.1, R31), a bus write's data fit its length, a VF has a number of Table 4.5, frames have their headers.
Indexes of units are bounded by their types. The meanings are total: they do not need well-formedness.
-/
namespace Sys2Proof

/-- VF numbers are 1 to 15 (Table 4.5). -/
def Source.wf : Source → Bool
  | .vf n => 1 ≤ n && n ≤ 15
  | _ => true

/-- Fields of Table 16.1, the issuer as Q_CFG.OWNER encodes it, and a payload of whole words within check 3 of Table 16.2. -/
def CmdCtx.wf (c : CmdCtx) : Bool :=
  c.opcode < 32768 && c.flags < 256 && c.tag < 4294967296 && c.fetch < 134217728 && c.payload.length % 4 == 0
    && c.payload.length + 16 ≤ 65536 && (c.issuer ≤ 16 || c.issuer == 32)

/-- The data of a bus write fit its length (R23). -/
def BusWrite.wf (w : BusWrite) : Bool := 1 ≤ w.len && w.value < 256 ^ w.len && w.src.wf

/-- An Ethernet frame has its addresses and type, and no more bytes than passed on the wire. -/
def RxFrame.wf (f : RxFrame) : Bool := 14 ≤ f.bytes.length && f.bytes.length ≤ f.len

/-- A fabric frame has its 32-byte header (Table 12.1). -/
def FabFrame.wf (f : FabFrame) : Bool := 32 ≤ f.bytes.length

/-- Addresses and ports of a datagram fit their fields. -/
def Datagram.wf (d : Datagram) : Bool :=
  d.srcIp < 4294967296 && d.dstIp < 4294967296 && d.srcPort < 65536 && d.dstPort < 65536

/-- Module numbers are 0 to 1,022. -/
def TopoReport.wf (r : TopoReport) : Bool := (match r.number with | some n => n < 1023 | none => true)

/-- MEM values of Table 18.4 that the scrub walk covers: the two tiers of the Cave, TSM and VM. -/
def FoundErr.wf (e : FoundErr) : Bool := e.mem < 4

/-- A well-formed command. -/
def Instr.wf : Instr → Bool
  | .registerWrite w _ => w.wf
  | .bar4Read _ _ => true
  | .bar4Write _ _ => true
  | .grainTick _ => true
  | .sentinelFire _ _ => true
  | .beatEndTrap => true
  | .columnCloseOpen => true
  | .ledgerBeatCheck => true
  | .shadowLatch => true
  | .beatTick => true
  | .epochBoundary => true
  | .closeAll src => src.wf
  | .rennetOpen _ src => src.wf
  | .rennetClrStats src => src.wf
  | .colselWrite _ src => src.wf
  | .columnSnapshot => true
  | .slotOrder c => c.wf
  | .orderCancel c => c.wf
  | .imageLoad c => c.wf
  | .imageLoadComplete _ _ => true
  | .imageBlock c => c.wf
  | .imageRetire c => c.wf
  | .imageQuery c => c.wf
  | .resultDelivery _ _ => true
  | .inputClose _ _ => true
  | .queueSettle => true
  | .queueStart _ src => src.wf
  | .queueStop _ src => src.wf
  | .queueStopComplete _ => true
  | .queueClrDrops _ src => src.wf
  | .queueHeadWrite _ _ src => src.wf
  | .queueTailWrite _ _ src => src.wf
  | .doorbellWrite w => w.wf
  | .flowSetup c => c.wf
  | .flowRelease c => c.wf
  | .flowQuery c => c.wf
  | .ledgerSelWrite _ src => src.wf
  | .heapRelease _ => true
  | .dispatchSelect => true
  | .hubJobOverrun => true
  | .completionProcess _ => true
  | .prestage _ _ => true
  | .dispClrStats _ src => src.wf
  | .bundleIssue _ _ _ _ => true
  | .giveEnd _ => true
  | .fenceComplete _ => true
  | .storePerformed _ => true
  | .cstRefused _ => true
  | .cmuOpComplete _ _ => true
  | .budgetTrap _ => true
  | .curdStopEnd _ => true
  | .coreClr _ src => src.wf
  | .gemm _ => true
  | .gram _ => true
  | .solve _ => true
  | .demap _ => true
  | .bmuEnd _ => true
  | .bmuClr _ src => src.wf
  | .codeBlockDone _ => true
  | .engineJobEnd _ => true
  | .engineFault _ => true
  | .engineSelfReset _ => true
  | .engineFence _ _ src => src.wf
  | .engClr _ src => src.wf
  | .egressFrameSend _ => true
  | .egressJobEnd _ => true
  | .hostFrameSend _ _ => true
  | .prachJobEnd _ => true
  | .prachFence _ src => src.wf
  | .pxClr _ src => src.wf
  | .spClrStats src => src.wf
  | .senseBlock _ => true
  | .lsigDecoded _ _ _ => true
  | .senseGap _ _ _ => true
  | .sensingSlotEnd _ _ => true
  | .lbtJobEnd => true
  | .seLogHeadWrite _ src => src.wf
  | .fhFrameReceive _ f => f.wf
  | .fhSectionWritten _ => true
  | .fhEnable _ src => src.wf
  | .fhDisable _ src => src.wf
  | .fhClrStats _ src => src.wf
  | .fhLinkUp _ => true
  | .fhLinkDown _ => true
  | .seqFreshTimeout _ _ => true
  | .fhSakWrite _ _ _ _ src => src.wf
  | .flEnable _ src => src.wf
  | .flDisable _ src => src.wf
  | .flClrStats _ src => src.wf
  | .flRekey _ src => src.wf
  | .fabClrStats src => src.wf
  | .linkTrained _ _ _ => true
  | .hello _ _ => true
  | .rekeyFrame _ f => f.wf
  | .beacon _ f _ _ => f.wf
  | .beaconTick => true
  | .topoReport => true
  | .topo _ f rep => f.wf && rep.wf
  | .routeCompute => true
  | .routeLoad _ f _ => f.wf
  | .routeCommit _ f => f.wf
  | .fabData _ f _ => f.wf
  | .fabCmd _ f => f.wf
  | .fabReply _ f _ => f.wf
  | .remoteRun _ f => f.wf
  | .remoteAck _ f => f.wf
  | .remoteSentinel _ => true
  | .fabTime _ f _ => f.wf
  | .timeFrameSend => true
  | .frameForward _ f => f.wf
  | .ack _ _ => true
  | .nak _ _ => true
  | .ackSend _ => true
  | .creditReturn _ _ _ => true
  | .flLinkLost _ => true
  | .fabricJobEnd _ => true
  | .leaseRequest c => c.wf
  | .leaseGrant c _ _ => c.wf
  | .leaseQuery c => c.wf
  | .fabQuery c => c.wf
  | .moveIn c => c.wf
  | .moveOut c _ => c.wf
  | .moveCopy => true
  | .ttRequest c => c.wf
  | .routeQuery c => c.wf
  | .laneAlignLoss _ => true
  | .laneAligned _ => true
  | .lanePowerExitDone _ => true
  | .marginTestStart _ _ src => src.wf
  | .marginTestDone _ _ => true
  | .laneClrStats _ src => src.wf
  | .dmaGrain => true
  | .dmaArm _ _ src => src.wf
  | .dmaAbort _ src => src.wf
  | .dmaResume _ src => src.wf
  | .dmaClrStats _ src => src.wf
  | .dmaTransferComplete _ _ => true
  | .dmaTransferHalt _ _ _ _ => true
  | .dmaAbortComplete _ _ _ => true
  | .tileDmaGo _ _ => true
  | .regionCommandGo _ => true
  | .regionCommandEnd _ => true
  | .drainComplete _ => true
  | .drainTimeout _ => true
  | .gridEnable src => src.wf
  | .gridDisable src => src.wf
  | .gridStart => true
  | .timeStep src => src.wf
  | .timeClrStats src => src.wf
  | .timeNsLoRead o n => decide (1 ≤ n ∧ o + n ≤ 0x4000000)
  | .refclkLoss => true
  | .refclkRestored => true
  | .sourceQualified _ => true
  | .sourceLost _ => true
  | .sourceSelect => true
  | .servoUpdate _ => true
  | .holdoverOut => true
  | .dacSample _ _ => true
  | .dacQueueWrite _ _ src => src.wf
  | .dacHoSet _ _ src => src.wf
  | .dacRestart _ _ src => src.wf
  | .dacClrStats _ src => src.wf
  | .dacFault _ => true
  | .holdoverCodeWrite => true
  | .ptpMessageRx _ _ _ _ => true
  | .ptpMessageTx _ _ => true
  | .esmcPduTx _ _ => true
  | .esmcPduRx _ _ => true
  | .ppsEdge _ => true
  | .todSentence _ _ => true
  | .tpoEdge _ => true
  | .trigEdge _ _ _ => true
  | .trigPop _ src => src.wf
  | .cmdFetch _ => true
  | .mgmtDatagram d => d.wf
  | .arpRequest _ _ _ => true
  | .icmpEcho _ _ _ _ => true
  | .streamWrite _ => true
  | .statusRead => true
  | .loadSkip => true
  | .packetWrite _ => true
  | .replyRead => true
  | .nop c => c.wf
  | .moduleInfo c => c.wf
  | .regRead c => c.wf
  | .regWrite c => c.wf
  | .regStage c => c.wf
  | .stageBatchApply => true
  | .fwWrite c => c.wf
  | .fwVerify c => c.wf
  | .fwActivate c => c.wf
  | .firmwareSwitch => true
  | .fwCommit c => c.wf
  | .fwRollback => true
  | .stewardRestart c => c.wf
  | .stewardFailover _ _ => true
  | .stewardRestartDone _ => true
  | .powerState c => c.wf
  | .clockStep c => c.wf
  | .padRelease c => c.wf
  | .powerQuery c => c.wf
  | .lrLoad c _ => c.wf
  | .lrQuery c => c.wf
  | .telemetryRead c => c.wf
  | .telemetrySample _ => true
  | .eventSubscribe c => c.wf
  | .eventRead c => c.wf
  | .cmdPairEnable _ src => src.wf
  | .cmdPairDisable _ src => src.wf
  | .credInstall c => c.wf
  | .mgmtKeyInstall c => c.wf
  | .lifecycleSet c => c.wf
  | .fuseWriteDone => true
  | .returnedWipe => true
  | .keeperQuery c => c.wf
  | .signatureCheckDone => true
  | .dbgChallenge c => c.wf
  | .dbgOpen c => c.wf
  | .debugFillDone _ => true
  | .dbgClose c => c.wf
  | .dbgQuery c => c.wf
  | .dbgRead c => c.wf
  | .dbgWrite c => c.wf
  | .jtagInstruction _ => true
  | .uartInput _ => true
  | .bitstreamVerified => true
  | .regionLockDone _ => true
  | .lrLockTimeout _ => true
  | .streamTruncated => true
  | .retryWindowClose _ => true
  | .lrScrubFrame _ _ _ => true
  | .lrClr _ src => src.wf
  | .mergeDrain _ _ => true
  | .scrubWalk _ found => found.all FoundErr.wf
  | .zeroFill _ => true
  | .errorHandlingDone _ => true
  | .memoryFillDone _ => true
  | .eccFlipArm _ src => src.wf
  | .eccClrStats src => src.wf
  | .feedLost _ _ => true
  | .feedRestored _ _ => true
  | .powerFail _ _ => true
  | .supplyCollapse _ => true
  | .entryDrainStart => true
  | .powerRemove => true
  | .powerExitDone => true
  | .powerWake _ src => src.wf
  | .powerClrStats src => src.wf
  | .thermalTrip _ _ => true
  | .hubThermalTrip _ => true
  | .dieIsolation _ _ => true
  | .powerOn _ _ => true
  | .perstRelease => true
  | .perstAssert => true
  | .railSequence _ => true
  | .railRetry => true
  | .bootSelftest _ _ => true
  | .stewardBankStart => true
  | .dieRelease _ => true
  | .timeGo src => src.wf
  | .timeWaitExpired => true
  | .readmit _ src => src.wf
  | .readmitDone _ _ => true
  | .moduleResetRequest src => src.wf
  | .moduleReset => true
  | .flr _ => true
  | .flrComplete _ => true
  | .pcieHotReset => true
  | .page _ => true
  | .clearFaults => true
  | .statusWord => true
  | .readVin => true
  | .readIin => true
  | .readPin => true
  | .readTemperature _ => true
  | .mfrSerial => true
  | .cdrLockLoss _ => true
  | .pcieMarginingCommand _ => true
  | .goldenFillDone => true
  | .hbmSelfRefreshEntry _ => true

end Sys2Proof
end

