-- ==== Sys2Proof/Tests/Slice0.lean ====
section
/-!
SUPPORT. The tests of the model: well-formedness refuses an ill-formed command for each of its checks; what the spec prints
comes out of single steps; and for every obligation with hypotheses a state and operands meet them (`test_wit_…`), clause by
clause. A witness that carries a `Reach` takes the steward as the source, for which `Reach` holds in every state.
-/
namespace Sys2Proof.Tests

-- One theorem after another: elaborated side by side, their kernel checks take a thread each.
set_option Elab.async false

open Sys2Proof Sys2Proof.Machine

/-! ## States the tests start from -/

/-- The steward runs. -/
def stw : State := State.reset.setFld Fld.STEWARD_STAT_STATE 0 1

/-- The grid runs at absolute grain `g`. -/
def runAt (g : Nat) (s : State) : State := { s.setFld Fld.TIME_STAT_GRID_RUN 0 1 with tm := { s.tm with absGrain := g } }

/-- Dies admitted, everything powered, the steward running: the module in M-RUN, its grid stopped. -/
def live : State :=
  ((((stw.setReg .GLOBAL_DIESTAT 0 0x55).setReg .POWER_DOM 0 0x3FF).setReg .POWER_TILES_LO 0 0xFFFFFFFF).setReg .POWER_TILES_HI 0 0xFFFFFFFF)

/-- Queue `q` of type `ty` and owner `o`, 64 deep, in state `st`. -/
def withQ (q ty o st : Nat) (s : State) : State :=
  (((s.setFld Fld.Q_CFG_TYPE q ty).setFld Fld.Q_CFG_OWNER q o).setFld Fld.Q_CFG_DEPTH_LOG2 q 6).setFld Fld.Q_STAT_STATE q st

/-- A command from ring pair 0, without a packet around it. -/
def cmd (op : Nat) (p : List Byte) : CmdCtx := ⟨.pair 0, 0, op, 0, 9, 0, p⟩

theorem reach_steward (s : State) : Reach s .steward := ⟨fun _ => nofun, .inl rfl⟩

theorem reach_host (s : State) (h : s.fld Fld.POWER_STAT_STATE ≤ 2 ∧ s.bt.stopped = false) : Reach s .pf0 :=
  ⟨fun _ => nofun, .inr h⟩

theorem takes (s : State) (c : CmdCtx) (h : s.fld Fld.STEWARD_STAT_STATE = 1 ∧ s.stewardTurn c = true) : TakesNow s c := h

theorem intact (s : State) (h : s.bad = [] ∧ s.merges = [] ∧ s.fld Fld.ECC_FLIP_CFG_ARM = 0) : Intact s := h

/-! ## Witnesses -/

theorem test_wit_DiscardedWriteIsRecorded : (0 : Nat) < 2 ∧ (1 : Nat) < 2 := by decide

theorem test_wit_RegisterWriteByClass :
    (∃ (s : State) (src : Source) (off : Nat), Reach s src ∧ off % 4 = 0 ∧ s.proxyAt off = none ∧ regAt off = some (.FH_CFG, 15)
      ∧ s.writeRefused .FH_CFG 15 0 src = false ∧ s.blockRuns .FH_CFG 15 = false
      ∧ s.wordWrite .FH_CFG 15 0 src = s.storeWord .FH_CFG 15 0 src)
    ∧ (∃ (s : State) (src : Source) (off : Nat), Reach s src ∧ off % 4 = 0 ∧ s.proxyAt off = none ∧ regAt off = some (.FH_CFG, 0)
      ∧ s.writeRefused .FH_CFG 0 0 src = false ∧ s.blockRuns .FH_CFG 0 = true)
    ∧ (∃ (s : State) (off : Nat), off % 4 = 0 ∧ s.proxyAt off = none ∧ regAt off = some (.Q_TAIL, 0)
      ∧ s.writeRefused .Q_TAIL 0 0 .pf0 = true)
    ∧ (∃ (s : State) (off : Nat), off % 4 = 0 ∧ s.proxyAt off = none ∧ regAt off = none)
    ∧ (∃ (s : State) (off : Nat), off % 4 = 0 ∧ s.proxyAt off = some (.DL_CNT_PROXY, 3))
    ∧ (∃ (s : State) (off : Nat), off % 4 = 0 ∧ s.proxyAt off = some (.NOC_CNT_PROXY, 63))
    ∧ (∃ s : State, s.grain ≠ 1023 ∧ RegId.RENNET_CTRL.has .rws = true ∧ s.blockRuns .RENNET_CTRL 0 = false)
    ∧ ∃ off n : Nat, (n ≠ 4 ∧ n ≠ 8) ∧ off % 8 = 0 ∧ (off + 2) % 4 ≠ 0 :=
  ⟨⟨live, .steward, RegId.offset .FH_CFG 15, reach_steward _, by decide +kernel⟩,
   ⟨live.setFld Fld.FH_STAT_STATE 0 1, .steward, RegId.offset .FH_CFG 0, reach_steward _, by decide +kernel⟩,
   ⟨live, RegId.offset .Q_TAIL 0, by decide +kernel⟩, ⟨live, 0x1FFFFFC, by decide +kernel⟩,
   ⟨live.setDieStat 3 2, 0x3FFFFFC, by decide +kernel⟩,
   ⟨live.setReg .POWER_TILES_HI 0 0x7FFFFFFF, RegId.offset .TDMA_STAT 255, by decide +kernel⟩, ⟨live, by decide +kernel⟩, ⟨0, 2, by decide⟩⟩

theorem test_wit_ClearingCommandsA :
    (∃ (s : State) (n : Fin 256), Reach s .pf0 ∧ n.val = 255 ∧ s.dieStat (n.val / 64) = 1)
    ∧ ∃ (s : State) (n : Fin 64), Reach s .steward ∧ n.val = 63 ∧ s.dieStat (n.val / 16) = 1 :=
  ⟨⟨live, 255, reach_host _ (by decide +kernel), by decide +kernel⟩, ⟨live, 63, reach_steward _, by decide +kernel⟩⟩

theorem test_wit_ClearingCommandsB :
    (∃ (s : State) (q : Fin 4096), Reach s .pf0 ∧ q.val = 256 ∧ systemQueue q.val .pf0 = false)
    ∧ ∃ (s : State) (q : Fin 4096), Reach s .steward ∧ q.val = 255 ∧ systemQueue q.val .steward = false :=
  ⟨⟨live, 256, reach_host _ (by decide +kernel), by decide +kernel⟩, ⟨live, 255, reach_steward _, by decide +kernel⟩⟩

/-- The ring pool of the reset state has a run for every ring of one block. -/
theorem findRun_one (s : State) (n : Nat) (h : s.runFree n ringLo = true) : ∃ b, s.findRun n = some b := by
  unfold State.findRun
  dsimp only
  split
  · exact ⟨_, rfl⟩
  · exact ⟨ringLo, by simp [h]⟩

/-- A ring pool with a block taken in every 8,192: it has no run for a ring of 2^20 descriptors. -/
def crowded : State :=
  { (withQ 300 4 0 0 live).setFld Fld.Q_CFG_DEPTH_LOG2 300 20 with
    own := [1, 2, 3, 4, 5].map (fun k => (ringLo + 8000 * k, some (.queue 0))) }

theorem crowded_run (b : Nat) : (crowded.setFld Fld.Q_CTRL_RUN 300 1).runFree 8192 b = false := by
  have e : (crowded.setFld Fld.Q_CTRL_RUN 300 1).own = [1, 2, 3, 4, 5].map (fun k => (ringLo + 8000 * k, some (.queue 0))) := rfl
  rw [← Bool.not_eq_true]
  intro h
  simp only [State.runFree, e, ringLo, ringN, List.map, List.any, Bool.and_eq_true, Bool.not_eq_true', Bool.or_eq_false_iff,
    Bool.and_eq_false_iff, decide_eq_false_iff_not] at h
  have lo := of_decide_eq_true h.1.1
  have hi := of_decide_eq_true h.1.2
  omega

theorem crowded_full : (crowded.setFld Fld.Q_CTRL_RUN 300 1).findRun (ceilDiv (crowded.qDepth 300 * 32) 4096) = none := by
  rw [show ceilDiv (crowded.qDepth 300 * 32) 4096 = 8192 by decide +kernel]
  unfold State.findRun
  simp only [crowded_run, Bool.false_eq_true, if_false, List.find?_eq_none, not_false_eq_true, implies_true]

theorem test_wit_QueueControl :
    (∃ (s : State) (b : Nat), Reach s .steward ∧ s.qState 300 = 0 ∧ (s.setFld Fld.Q_CTRL_RUN 300 1).qBadConfig 300 = false
      ∧ (s.setFld Fld.Q_CTRL_RUN 300 1).findRun (ceilDiv (s.qDepth 300 * 32) 4096) = some b)
    ∧ (∃ s : State, s.qState 300 = 0 ∧ (s.setFld Fld.Q_CTRL_RUN 300 1).qBadConfig 300 = false
      ∧ (s.setFld Fld.Q_CTRL_RUN 300 1).findRun (ceilDiv (s.qDepth 300 * 32) 4096) = none)
    ∧ (∃ s : State, Reach s .steward ∧ s.qState 4095 = 0 ∧ (s.setFld Fld.Q_CTRL_RUN 4095 1).qBadConfig 4095 = true)
    ∧ (systemQueue 255 .steward = false ∧ systemQueue 256 .pf0 = false ∧ systemQueue 255 .pf0 = true)
    ∧ (∃ s : State, s.qState 300 = 1) ∧ (∃ s : State, s.qState 300 = 2 ∧ s.reg .Q_HELD 300 = 0)
    ∧ (∃ s : State, s.qState 300 = 2 ∧ s.reg .Q_HELD 300 ≠ 0)
    ∧ (∃ s : State, s.headWriter 256 .pf0 = true ∧ s.tailWriter 256 .pf0 = false ∧ s.headOk 256 64 = true ∧ s.headOk 256 65 = false
      ∧ srcFunction .pf0 = some (s.qOwner 256) ∧ s.qType 256 = 3)
    ∧ (∃ s : State, s.tailWriter 256 .pf0 = true ∧ s.headWriter 256 .pf0 = false ∧ s.tailOk 256 64 = true ∧ s.tailOk 256 65 = false
      ∧ srcFunction .pf0 = some (s.qOwner 256) ∧ s.qType 256 = 2)
    ∧ (∃ s : State, srcFunction .pf0 = some (s.qOwner 256) ∧ s.qType 256 = 8)
    ∧ (∃ s : State, srcFunction .pf0 = some (s.qOwner 256) ∧ s.qType 256 = 9)
    ∧ (∃ s : State, srcFunction .pf0 = some (s.qOwner 256) ∧ s.qType 256 ∉ [2, 3, 8, 9])
    ∧ ∃ s : State, srcFunction .pf0 ≠ some (s.qOwner 256) ∧ s.fld Fld.POWER_STAT_STATE ≤ 2 :=
  ⟨let s := withQ 300 4 0 0 live
   let ⟨b, hb⟩ := findRun_one (s.setFld Fld.Q_CTRL_RUN 300 1) (ceilDiv (s.qDepth 300 * 32) 4096) (by decide +kernel)
   ⟨s, b, reach_steward _, by decide +kernel, by decide +kernel, hb⟩,
   ⟨crowded, by decide +kernel, by decide +kernel, crowded_full⟩,
   ⟨live, reach_steward _, by decide +kernel⟩, by decide,
   ⟨withQ 300 4 0 1 live, by decide +kernel⟩, ⟨withQ 300 4 0 2 live, by decide +kernel⟩,
   ⟨(withQ 300 4 0 2 live).setReg .Q_HELD 300 1, by decide +kernel⟩,
   ⟨(withQ 256 3 0 1 live).setReg .Q_TAIL 256 64, by decide +kernel⟩, ⟨withQ 256 2 0 1 live, by decide +kernel⟩,
   ⟨withQ 256 8 0 1 live, by decide +kernel⟩, ⟨withQ 256 9 0 1 live, by decide +kernel⟩, ⟨withQ 256 4 0 1 live, by decide +kernel⟩,
   ⟨live, by decide +kernel⟩⟩

theorem test_wit_GridControl :
    (∃ s : State, Reach s .steward ∧ s.gridRun = false ∧ s.fld Fld.RENNET_CTRL_OPEN = 0 ∧ s.sentArmed = 0)
    ∧ (∃ s : State, s.gridRun = true ∧ s.fld Fld.RENNET_CTRL_OPEN ≠ 0) ∧ ∃ s : State, s.sentArmed ≠ 0 :=
  ⟨⟨live, reach_steward _, by decide +kernel⟩, ⟨(runAt 0 live).setFld Fld.RENNET_CTRL_OPEN 0 1, by decide +kernel⟩,
   ⟨{ live with sentArmed := 1 }, by decide⟩⟩

theorem test_wit_GridStarts :
    (∃ s : State, s.tm.gridArm = true ∧ s.gridRun = false) ∧ (∃ s : State, s.tm.gridArm = false) ∧ ∃ s : State, s.gridRun = true :=
  ⟨⟨{ live with tm := { live.tm with gridArm := true } }, by decide +kernel⟩, ⟨live, by decide +kernel⟩,
   ⟨runAt 0 live, by decide +kernel⟩⟩

theorem test_wit_GrainsBeatsEpochs :
    (∃ s : State, s.gridRun = true ∧ s.tm.gridStop = false)
    ∧ (∃ s : State, s.gridRun = true ∧ s.tm.gridStop = true ∧ s.grain = 0 ∧ s.tm.ticked ≠ some s.absBeat)
    ∧ (∃ s : State, s.gridRun = true ∧ s.tm.gridStop = true ∧ s.tm.ticked = some s.absBeat) ∧ (∃ s : State, s.gridRun = false)
    ∧ (∃ s : State, s.gridRun = true ∧ s.grain = 1023 ∧ (s.beat + 1) % 1280 ≠ 0)
    ∧ (∃ s : State, s.gridRun = true ∧ s.grain = 1023 ∧ (s.beat + 1) % 1280 = 0)
    ∧ (∃ s : State, s.gridRun = true ∧ s.grain = 1022) ∧ (∃ s : State, s.grain = 1)
    ∧ (∃ s : State, s.gridRun = true ∧ s.grain = 0 ∧ s.beat % 1280 = 0 ∧ s.beat = 81920 - 1280 ∧ s.tm.ticked ≠ some s.absBeat
      ∧ s.tm.epochAt ≠ some s.absBeat)
    ∧ ∃ s : State, s.tm.ticked = some s.absBeat ∧ s.grain = 0 ∧ s.beat % 1280 = 0 ∧ s.gridRun = false ∧ s.tm.epochAt = some s.absBeat := by
  let stops := { runAt 0 live with tm := { (runAt 0 live).tm with gridStop := true } }
  refine ⟨⟨runAt 0 live, ?_⟩, ⟨stops, ?_⟩, ⟨{ stops with tm := { stops.tm with ticked := some 0 } }, ?_⟩, ⟨live, ?_⟩,
    ⟨runAt 1023 live, ?_⟩, ⟨runAt (1280 * 1024 - 1) live, ?_⟩, ⟨runAt 1022 live, ?_⟩, ⟨runAt 1 live, ?_⟩,
    ⟨runAt ((81920 - 1280) * 1024) live, ?_⟩, ⟨{ live with tm := { live.tm with ticked := some 0, epochAt := some 0 } }, ?_⟩⟩ <;> decide +kernel

theorem test_wit_ShadowWordsTakeEffect : ∃ s : State, s.rwsLatched = [(RegId.key .RENNET_CTRL 0, some 1)] :=
  ⟨{ live with rwsLatched := [(RegId.key .RENNET_CTRL 0, some 1)] }, rfl⟩

theorem test_wit_CalendarColumns :
    (∃ s : State, s.gridRun = true ∧ s.grain = 1008 ∧ s.cal.any (fun c => c.beat == beatAdd s.beat 65) = false)
    ∧ (∃ s : State, s.gridRun = true ∧ s.grain = 1008 ∧ s.cal.any (fun c => c.beat == beatAdd s.beat 65) = true)
    ∧ (∃ s : State, s.gridRun = true ∧ s.grain = 1009) ∧ (∃ s : State, Reach s .steward ∧ s.fld Fld.RENNET_COLCAP_VALID = 0)
    ∧ ∃ s : State, s.fld Fld.RENNET_COLCAP_VALID = 1 :=
  ⟨⟨runAt 1008 live, by decide +kernel⟩, ⟨{ runAt 1008 live with cal := [{ beat := 65, cells := [] }] }, by decide +kernel⟩, ⟨runAt 1009 live, by decide +kernel⟩,
   ⟨live, reach_steward _, by decide +kernel⟩, ⟨live.setFld Fld.RENNET_COLCAP_VALID 0 1, by decide +kernel⟩⟩

/-- A queue whose registers are not listed is STOPPED, and its terms add up. -/
theorem quiet_queue (s : State) (h : ∀ e ∈ s.regs, e.1 % 512 ≠ RegId.ctorIdx .Q_STAT) (q : Nat) :
    ledgerDelta (s.ledgerTerms 7 q (0, 0, 0)) = 0 := by
  have get : ∀ (m : Sparse Nat) (d a : Nat), (∀ e ∈ m, e.1 ≠ a) → Sparse.get d m a = d := by
    intro m d a
    induction m with
    | nil => intro _; rfl
    | cons x r ih =>
      intro hx
      rw [Sparse.get, if_neg (hx x (by simp))]
      exact ih fun e he => hx e (by simp [he])
  have k : RegId.key .Q_STAT q % 512 = RegId.ctorIdx .Q_STAT := by
    have : RegId.ctorIdx .Q_STAT < 512 := by decide
    unfold RegId.key; omega
  have e : s.qState q = 0 := by
    have r : s.reg .Q_STAT q = 0 := by
      unfold State.reg
      rw [get _ _ _ fun e he c => h e he (by rw [c]; exact k)]
      unfold resetOfKey
      rw [k]
      decide +kernel
    unfold State.qState State.fld
    rw [show Fld.Q_STAT_STATE.reg = .Q_STAT from rfl, r]
    decide
  have t : s.ledgerTerms 7 q (0, 0, 0) = ([0, 0, 0], 0) := by unfold State.ledgerTerms; simp [e]
  rw [t]; decide

theorem test_wit_OpenAndLedger :
    (∃ s : State, Reach s .steward ∧ s.gridRun = true ∧ s.grain < 1023 ∧ s.fld Fld.STEWARD_STAT_STATE = 1 ∧ s.fld Fld.TIME_STAT_REF_LOSS = 0
      ∧ ∀ n < 4, s.fld Fld.DBG_SESS_LEVEL n ≠ 3 ∨ s.fld Fld.DBG_SESS_STATE n ≠ 2)
    ∧ (∃ s : State, Reach s .steward ∧ s.gridRun = false)
    ∧ (ledgerSelOk (bits 0x4FFF07 7 0) (bits 0x4FFF07 31 8) = false ∧ ledgerSelOk (bits 0xFFF07 7 0) (bits 0xFFF07 31 8) = true)
    ∧ (∃ s : State, s.gridRun = true ∧ s.grain = 1012 ∧ (∀ x ∈ s.ledgerAll, ledgerDelta (s.ledgerTerms x.1 x.2.1 x.2.2) = 0)
      ∧ s.fld Fld.LEDGER_SEL_QTY ≠ 0 ∧ s.fld Fld.LEDGER_SNAP_VALID = 0)
    ∧ ∃ s : State, s.grain ≠ 1012 :=
  ⟨⟨runAt 1022 live, reach_steward _, by decide +kernel⟩, ⟨live, reach_steward _, by decide +kernel⟩, by decide,
   ⟨(runAt 1012 live).setFld Fld.LEDGER_SEL_QTY 0 1, by decide +kernel, by decide +kernel, by
      simp only [State.ledgerAll, List.forall_mem_append, List.forall_mem_map]
      refine ⟨⟨⟨⟨⟨⟨⟨⟨⟨?_, ?_⟩, ?_⟩, ?_⟩, fun q _ => quiet_queue _ (by decide +kernel) q⟩, ?_⟩, ?_⟩, ?_⟩, ?_⟩, ?_⟩
      all_goals decide +kernel, by decide +kernel⟩,
   ⟨runAt 1011 live, by decide +kernel⟩⟩

theorem test_wit_LedgerBreach :
    (∃ s : State, ledgerDelta (s.ledgerTerms 0xB 0 (0, 0, 0)) ≠ 0 ∧ s.ledgerUnit 0xB 0 (0, 0, 0) = .hub)
    ∧ (∃ s : State, ledgerDelta (s.ledgerTerms 6 0 (0, 0, 0)) ≠ 0 ∧ s.ledgerUnit 6 0 (0, 0, 0) = .die 0 ∧ s.dieStat 0 = 1)
    ∧ (∃ s : State, ledgerDelta (s.ledgerTerms 0xA 15 (0, 0, 0)) ≠ 0 ∧ s.ledgerUnit 0xA 15 (0, 0, 0) = .port 15 ∧ s.fhState 15 = 2)
    ∧ (∃ s : State, ledgerDelta (s.ledgerTerms 5 11 (0, 0, 0)) ≠ 0 ∧ s.ledgerUnit 5 11 (0, 0, 0) = .link 11 ∧ s.flState 11 = 4)
    ∧ ∃ s : State, ledgerDelta (s.ledgerTerms 1 0 (0, 0, 0)) = 0 := by
  refine ⟨⟨{ live with sentFree := 16383 }, ?_⟩, ⟨{ live with flows := [(0, { state := 1, out := true })] }, ?_⟩,
    ⟨(live.setFld Fld.FH_STAT_STATE 15 2).setFld Fld.FH_GRAN_RX_FREE 15 1, ?_⟩,
    ⟨{ live.setFld Fld.FL_STAT_STATE 11 4 with credits := [(5 * 2 ^ 24 + 11, some ⟨1, 0, 0⟩)] }, ?_⟩, ⟨live, ?_⟩⟩ <;> decide +kernel

theorem test_wit_TimeAndSources :
    (∃ s : State, s.fld Fld.POWER_STAT_STATE ≤ 2 ∧ s.bt.stopped = false ∧ s.servo ≠ 3
      ∧ s.proxyAt (RegId.offset .GLOBAL_ID) = none ∧ regAt (RegId.offset .GLOBAL_ID) = some (.GLOBAL_ID, 0))
    ∧ (∃ s : State, s.servo = 3 ∧ s.tm.hoSince + s.fld Fld.TIME_HO_SPEC_SECONDS * 10 ^ 9 = s.tm.ns)
    ∧ (∃ s : State, s.servo = 3 ∧ s.tm.ns < s.tm.hoSince + s.fld Fld.TIME_HO_SPEC_SECONDS * 10 ^ 9)
    ∧ (∃ s : State, s.sourceMay 16 = true ∧ s.tm.parentFrames = 64 ∧ s.sourceMay 17 = true ∧ s.tm.ppsRun = 8 ∧ s.srcCur ≠ some 17)
    ∧ (∃ (s : State) (r : PtpRecord), s.sourceMay 15 = true ∧ s.lastPtp 15 0xB = some r ∧ s.fhState 15 = 2 ∧ s.fld Fld.FH_CFG_PTP_EN 15 = 1)
    ∧ (∃ s : State, s.sourceMay 17 = false) ∧ (∃ s : State, s.srcCur = some 17 ∧ s.servo = 2)
    ∧ (∃ s : State, s.srcCur = some 17 ∧ s.servo = 1 ∧ s.tm.acqFrom = 3) ∧ (∃ s : State, s.srcCur = some 17 ∧ s.servo = 1 ∧ s.tm.acqFrom ≠ 3)
    ∧ ∃ s : State, s.srcCur = some 17 ∧ s.servo = 3 := by
  let hold (n : Nat) : State := { live.setFld Fld.TIME_STAT_SERVO_STATE 0 3 with tm := { live.tm with ns := n } }
  let sel (v : Nat) : State := (live.setFld Fld.TIME_STAT_SERVO_STATE 0 v).setFld Fld.TIME_STAT_SRC 0 17
  let all : State := live.setReg .TIME_SRC_EN 0 0x3FFFF
  refine ⟨⟨live.setFld Fld.POWER_STAT_STATE 0 2, ?_⟩, ⟨hold 3600000000000, ?_⟩, ⟨hold 3599999999999, ?_⟩,
    ⟨{ all with tm := { live.tm with parentFrames := 64, ppsRun := 8 } }, ?_⟩,
    ⟨{ (all.setFld Fld.FH_STAT_STATE 15 2).setFld Fld.FH_CFG_PTP_EN 15 1 with tm := { live.tm with ptpRx := [⟨15, 0, 0, 0, [0xB]⟩] } },
      ⟨15, 0, 0, 0, [0xB]⟩, ?_⟩, ⟨live, ?_⟩, ⟨sel 2, ?_⟩, ⟨{ sel 1 with tm := { live.tm with acqFrom := 3 } }, ?_⟩, ⟨sel 1, ?_⟩, ⟨sel 3, ?_⟩⟩
    <;> decide +kernel

/-- Source 3 is enabled and qualified, with clock class `n`; source 5 too, with class 7. -/
def sourced (n : Nat) : State :=
  { live.setReg .TIME_SRC_EN 0 0x3FFFF with
    tm := { live.tm with sources := ((List.replicate 18 {}).set 3 { qualified := true, cls := n }).set 5 { qualified := true, cls := 7 } } }

theorem test_wit_ServoAndSelection :
    (∃ s : State, s.fld Fld.STEWARD_STAT_STATE = 1 ∧ s.gridRun = false ∧ s.tm.selAt ≠ some (s.beatOfNs s.tm.ns / 1280)
      ∧ s.bestSource = some 3 ∧ s.srcCur = none)
    ∧ (∃ s : State, s.fld Fld.STEWARD_STAT_STATE = 1 ∧ s.gridRun = true ∧ s.grain = 0 ∧ s.beat % 1280 = 0 ∧ s.tm.selAt ≠ some (s.absBeat / 1280)
      ∧ s.bestSource = some 3 ∧ s.srcCur = some 5 ∧ s.better 3 5 = true)
    ∧ (∃ s : State, s.tm.selAt ≠ some (s.beatOfNs s.tm.ns / 1280) ∧ s.bestSource = some 3 ∧ s.srcCur = some 5 ∧ s.sourceOk 5 = true
      ∧ s.better 3 5 = false)
    ∧ (∃ s : State, s.fld Fld.STEWARD_STAT_STATE = 1 ∧ s.gridRun = false ∧ s.bestSource = none)
    ∧ (∃ s : State, s.tm.selAt = some (s.beatOfNs s.tm.ns / 1280)) ∧ (∃ s : State, s.fld Fld.STEWARD_STAT_STATE ≠ 1)
    ∧ (∃ s : State, s.servoAuto = true ∧ s.servo = 1 ∧ s.gridRun = true ∧ s.tm.servoAt ≠ some s.absBeat)
    ∧ (∃ s : State, s.servoAuto = true ∧ s.servo = 2 ∧ s.gridRun = true ∧ s.tm.servoAt = some s.absBeat)
    ∧ (∃ s : State, Reach s .steward ∧ s.gridRun = false ∧ s.fld Fld.GLOBAL_BOOT_STEP = 9)
    ∧ (∃ s : State, Reach s .steward ∧ s.gridRun = false ∧ s.fld Fld.GLOBAL_BOOT_STEP = 8)
    ∧ (∃ s : State, s.tm.go = some 1 ∧ s.fld Fld.GLOBAL_BOOT_CTRL_TIME_WAIT = 1 ∧ s.srcCur = none ∧ s.gridRun = false)
    ∧ ∃ s : State, s.tm.go = some 1 ∧ s.fld Fld.GLOBAL_BOOT_CTRL_TIME_WAIT = 2 :=
  let now (v k : Nat) : State :=
    { ((runAt 0 live).setFld Fld.TIME_STAT_SERVO_STATE 0 v).setFld Fld.TIME_CTRL_SERVO_AUTO 0 1 with tm := { (runAt 0 live).tm with servoAt := some k } }
  let go (w : Nat) : State := { live.setFld Fld.GLOBAL_BOOT_CTRL_TIME_WAIT 0 w with tm := { live.tm with go := some 1 } }
  ⟨⟨sourced 6, by decide +kernel⟩, ⟨runAt 0 ((sourced 6).setFld Fld.TIME_STAT_SRC 0 5), by decide +kernel⟩,
   ⟨(sourced 7).setFld Fld.TIME_STAT_SRC 0 5, by decide +kernel⟩, ⟨live, by decide +kernel⟩,
   ⟨{ live with tm := { live.tm with selAt := some (live.beatOfNs 0 / 1280) } }, by decide +kernel⟩, ⟨State.reset, by decide +kernel⟩, ⟨now 1 9, by decide +kernel⟩,
   ⟨now 2 0, by decide +kernel⟩, ⟨live.setFld Fld.GLOBAL_BOOT_STEP 0 9, reach_steward _, by decide +kernel⟩,
   ⟨live.setFld Fld.GLOBAL_BOOT_STEP 0 8, reach_steward _, by decide +kernel⟩, ⟨go 1, by decide +kernel⟩, ⟨go 2, by decide +kernel⟩⟩

/-- DAC `n` runs with `q` in its queue. -/
def dacRun (n : Nat) (q : List Nat) : State :=
  { live.setFld Fld.DAC_CFG_RUN n 1 with tm := { live.tm with dacs := [{ queue := q }, { queue := q }] } }

theorem test_wit_SteeringDacs :
    (∃ s : State, Reach s .steward ∧ s.tm.dacs.length = 2 ∧ s.dacOwned 1 = false ∧ (s.dac 1).queue.length = 15)
    ∧ (∃ s : State, Reach s .steward ∧ s.tm.dacs.length = 2 ∧ s.dacOwned 1 = false ∧ (s.dac 1).queue.length = 16)
    ∧ (∃ s : State, Reach s .steward ∧ s.tm.dacs.length = 2 ∧ s.dacOwned 0 = true)
    ∧ (∃ s : State, s.tm.dacs.length = 2 ∧ s.fld Fld.DAC_CFG_RUN 1 = 1 ∧ s.mirror = false ∧ (s.dac 1).queue = [7])
    ∧ (∃ s : State, s.fld Fld.DAC_CFG_RUN 0 = 1 ∧ s.loopRuns = false ∧ (s.dac 0).queue = [])
    ∧ (∃ s : State, s.fld Fld.DAC_CFG_RUN 0 = 1 ∧ s.loopRuns = true)
    ∧ (∃ s : State, s.fld Fld.DAC_CFG_RUN 1 = 0) ∧ (∃ s : State, s.mirror = true)
    ∧ (∃ s : State, s.tm.hoDue = some 1 ∧ s.fld Fld.TIME_CTRL_STEER_EN = 1 ∧ s.fld Fld.STEWARD_STAT_STATE = 1 ∧ s.mirror = true
      ∧ (s.tm.epochs.filter (fun e => e.locked)).length = 1 ∧ ((s.tm.epochs.filter (fun e => e.locked)).map (fun e => e.n)).sum ≠ 0)
    ∧ (∃ s : State, s.tm.hoDue = some 2 ∧ (s.tm.epochs.filter (fun e => e.locked)).length = 1) ∧ ∃ s : State, s.tm.hoDue = none :=
  let due (m : Nat) : State :=
    { (live.setFld Fld.TIME_CTRL_STEER_EN 0 1).setFld Fld.DAC_CFG_MIRROR 1 1 with tm := { live.tm with hoDue := some m, epochs := [⟨true, 5, 2⟩] } }
  ⟨⟨dacRun 1 (List.replicate 15 0), reach_steward _, by decide +kernel⟩, ⟨dacRun 1 (List.replicate 16 0), reach_steward _, by decide +kernel⟩,
   ⟨live.setFld Fld.TIME_CTRL_STEER_EN 0 1, reach_steward _, by decide +kernel⟩, ⟨dacRun 1 [7], by decide +kernel⟩,
   ⟨dacRun 0 [], by decide +kernel⟩,
   ⟨(((dacRun 0 []).setFld Fld.TIME_CTRL_STEER_EN 0 1).setFld Fld.TIME_CTRL_SERVO_AUTO 0 1).setFld Fld.TIME_STAT_SERVO_STATE 0 2, by decide +kernel⟩,
   ⟨live, by decide +kernel⟩, ⟨due 1, by decide +kernel⟩, ⟨due 1, by decide +kernel⟩, ⟨due 2, by decide +kernel⟩, ⟨live, rfl⟩⟩

/-- `$GPZDA,000000.00,01,01,2000,00,00*64`: 2000-01-01, 00:00:00, with its checksum. -/
def zda : List Byte :=
  [0x24, 0x47, 0x50, 0x5a, 0x44, 0x41, 0x2c, 0x30, 0x30, 0x30, 0x30, 0x30, 0x30, 0x2e, 0x30, 0x30, 0x2c, 0x30,
   0x31, 0x2c, 0x30, 0x31, 0x2c, 0x32, 0x30, 0x30, 0x30, 0x2c, 0x30, 0x30, 0x2c, 0x30, 0x30, 0x2a, 0x36, 0x34]

theorem test_wit_PulsesAndEdges :
    (∃ s : State, s.tm.tpo.length = 8)
    ∧ (∃ s : State, s.tm.trig.length = 4 ∧ s.fld Fld.TRIG_CFG_EN 3 = 1 ∧ s.fld Fld.TRIG_CFG_EDGE 3 = 2 ∧ (s.tm.trig.getD 3 []).length = 15
      ∧ s.fld Fld.TRIG_CFG_EN 2 = 1 ∧ s.fld Fld.TRIG_CFG_EDGE 2 = 1 ∧ (s.tm.trig.getD 2 []).length = 16)
    ∧ (∃ s : State, s.fld Fld.TRIG_CFG_EN 3 = 0 ∧ s.fld Fld.TRIG_CFG_EDGE 3 = 0)
    ∧ (∃ s : State, Reach s .steward ∧ s.tm.trig.getD 3 [] = [⟨5, 0, true⟩] ∧ s.tm.trig.getD 0 [] = [])
    ∧ (∃ s : State, s.tm.lastPps = none)
    ∧ (∃ s : State, s.tm.lastPps = some 1000 ∧ s.tm.todOk = true
      ∧ ((s.tm.ns : Int) - sext 16 (s.fld Fld.TIME_PPS_PPS_DELAY)).toNat = 1000 + 1000001000)
    ∧ (∃ s : State, s.tm.lastPps = some 1000 ∧ ((s.tm.ns : Int) - sext 16 (s.fld Fld.TIME_PPS_PPS_DELAY)).toNat = 1000 + 1000001001)
    ∧ (∃ s : State, s.tm.todSecond = none) ∧ (∃ s : State, s.tm.todSecond = some 946684799 ∧ s.tm.todOk = false)
    ∧ (∃ s : State, s.tm.todSecond = some 946684798 ∧ s.tm.todOk = false) ∧ nmeaSecond zda = some 946684800 ∧ nmeaSecond (zda.take 35) = none := by
  let e : TrigEntry := ⟨5, 0, true⟩
  let pps (n : Nat) : State := { live with tm := { live.tm with ns := n, lastPps := some 1000, todOk := true } }
  refine ⟨⟨live, ?_⟩,
    ⟨{ (((live.setFld Fld.TRIG_CFG_EN 3 1).setFld Fld.TRIG_CFG_EDGE 3 2).setFld Fld.TRIG_CFG_EN 2 1).setFld Fld.TRIG_CFG_EDGE 2 1 with
      tm := { live.tm with trig := [[], [], List.replicate 16 e, List.replicate 15 e] } }, ?_⟩,
    ⟨live, ?_⟩, ⟨{ live with tm := { live.tm with trig := [[], [], [], [e]] } }, reach_steward _, ?_⟩, ⟨live, ?_⟩, ⟨pps 1000002000, ?_⟩,
    ⟨pps 1000002001, ?_⟩, ⟨live, ?_⟩, ⟨{ live with tm := { live.tm with todSecond := some 946684799 } }, ?_⟩,
    ⟨{ live with tm := { live.tm with todSecond := some 946684798 } }, ?_⟩, ?_⟩ <;> decide +kernel

/-- Port 3 is UP in mode `m` with PTP enabled. -/
def portUp (m : Nat) : State :=
  ((live.setFld Fld.FH_STAT_STATE 3 2).setFld Fld.FH_CFG_MODE 3 m).setFld Fld.FH_CFG_PTP_EN 3 1

theorem test_wit_ClockMessages :
    (∃ s : State, s.ptpOn 3 = true ∧ s.ptpState 3 = 9 ∧ (s.txReturn 3).canBuild 3 78 (s.secTime 3) = true)
    ∧ (∃ s : State, s.ptpOn 3 = true ∧ s.ptpState 3 = 6) ∧ (∃ s : State, s.ptpOn 3 = false)
    ∧ (∃ s : State, s.esmcOn 3 = true ∧ s.syncePort = some 3 ∧ (s.txReturn 3).canBuild 3 60 (s.secTime 3) = true) ∧ ∃ s : State, s.esmcOn 3 = false :=
  let open3 (s : State) : State := s.setFld Fld.FH_GRAN_TX_FREE 3 1
  ⟨⟨open3 ((portUp 1).setFld Fld.TIME_STAT_SRC 0 3), by decide +kernel⟩, ⟨(portUp 1).setFld Fld.TIME_PTP_PORT_MASTER_ONLY 3 1, by decide +kernel⟩,
   ⟨live, by decide +kernel⟩,
   ⟨open3 ((((((portUp 3).setFld Fld.TIME_CTRL_STEER_EN 0 1).setFld Fld.TIME_FREQ_SRC_SYNCE 0 1).setFld Fld.TIME_FREQ_SRC_PORT 0 3).setFld
      Fld.TIME_CTRL_SERVO_AUTO 0 1).setFld Fld.TIME_STAT_SERVO_STATE 0 2), by decide +kernel⟩, ⟨portUp 0, by decide +kernel⟩⟩

/-- Pair 0 enabled over queues 256 (orders, two packets waiting) and 257 (replies). -/
def paired : State :=
  ((((withQ 257 3 0 1 (withQ 256 2 0 1 live)).setFld Fld.CMD_PAIR_CFG_ORDER_Q 0 256).setFld Fld.CMD_PAIR_CFG_REPLY_Q 0 257).setFld
    Fld.CMD_PAIR_CFG_EN 0 1).setReg .Q_TAIL 256 2

/-- A NOP packet, without and with a trailer flag. -/
def nopPkt : List Byte := mkPacket 0 0x0001 7 []
def nopTr : List Byte := mkPacket 4 0x0001 7 []

/-- The management port serves, under an installed key. -/
def ported : State := (live.setFld Fld.MGMT_CFG_EN 0 1).setFld Fld.KEEPER_STAT_MGMT_KEY 0 1

theorem test_wit_CommandPackets_ring :
    (∃ s : State, s.nextPair = some 0 ∧ s.fld Fld.POWER_STAT_STATE ≠ 3 ∧ pktMagicOk nopPkt = true ∧ pktBytes nopPkt ≤ 65536
      ∧ ceilDiv (pktBytes nopPkt) 32 ≤ s.qDepth 256 / 2 ∧ pktCrcOk nopPkt = true ∧ bitAt (pktFlags nopPkt) 2 = false
      ∧ ceilDiv (pktBytes nopPkt) 32 ≤ s.qOcc 256 ∧ s.ordersWaiting < 4 ∧ s.hdrChecks (.pair 0) (s.qOwner 256) nopPkt = 0
      ∧ maxRep (pktOpcode nopPkt) = s.qFree 257 ∧ s.qState 257 = 1)
    ∧ (∃ s : State, s.nextPair = some 0 ∧ s.qFree 257 < maxRep (pktOpcode nopPkt)) ∧ (∃ s : State, s.nextPair = some 0 ∧ s.qState 257 = 2)
    ∧ (∃ s : State, s.nextPair = none) ∧ (∃ s : State, s.fld Fld.POWER_STAT_STATE = 3)
    ∧ (∃ s : State, s.hdrChecks .ssp 0x20 nopPkt = 0 ∧ pktBytes nopPkt = nopPkt.length ∧ 16 ≤ nopPkt.length)
    ∧ (∃ s : State, s.hdrChecks .ssp 0x20 nopPkt ≠ 0 ∧ pktCrcOk nopPkt = true)
    ∧ (pktMagicOk (nopPkt.set 8 8) = true ∧ pktCrcOk (nopPkt.set 8 8) = false ∧ pktBytes (nopPkt.set 8 8) = (nopPkt.set 8 8).length)
    ∧ (∃ s : State, s.mg.ssp = [nopPkt]) ∧ (∃ s : State, s.mg.ssp = []) ∧ (∃ s : State, s.portOn = true) ∧ ∃ s : State, s.portOn = false := by
  let full : State := paired.setReg .Q_HELD 257 (64 - maxRep 1)
  refine ⟨⟨full, ?_⟩, ⟨paired.setReg .Q_HELD 257 64, ?_⟩, ⟨paired.setFld Fld.Q_STAT_STATE 257 2, ?_⟩, ⟨live, ?_⟩,
    ⟨live.setFld Fld.POWER_STAT_STATE 0 3, ?_⟩, ⟨live, ?_⟩, ⟨State.reset, ?_⟩, ?_, ⟨{ live with mg := { live.mg with ssp := [nopPkt] } }, ?_⟩,
    ⟨live, ?_⟩, ⟨ported, ?_⟩, ⟨live, ?_⟩⟩ <;> decide +kernel

/-- A datagram of `p` to the module's port. -/
def dgram (p : List Byte) : Datagram := ⟨0x0A000001, 0x1000, 0, 0x5544, false, false, p⟩

/-- A packet behind which the module's own trailer stands passes the trailer check. -/
theorem trailer_wit (s : State) (p : List Byte) (h : s.fld Fld.KEEPER_STAT_MGMT_KEY = 1) (hc : s.mg.portCounter < 1) :
    s.trailerOk (p ++ trailer s.mgmtKey 1 p) = true := by
  have l8 : (leBytes 8 1).length = 8 := rfl
  have l24 : ∀ x, (beBytes 24 x).length = 24 := fun _ => rfl
  have u : slice (p ++ trailer s.mgmtKey 1 p) p.length 8 = leBytes 8 1 := by
    rw [slice, List.drop_left, trailer, List.take_left' l8]
  have m : slice (p ++ trailer s.mgmtKey 1 p) (p.length + 8) 24 = beBytes 24 (Config.hmac384 s.mgmtKey (p ++ leBytes 8 1)) := by
    rw [slice, ← List.drop_drop, List.drop_left, trailer, List.drop_left' l8, List.take_of_length_le (Nat.le_of_eq (l24 _))]
  have n : (p ++ trailer s.mgmtKey 1 p).length - 32 = p.length := by
    rw [trailer, List.length_append, List.length_append, l8, l24]; omega
  have v : leNat (leBytes 8 1) = 1 := by decide
  unfold State.trailerOk
  dsimp only
  rw [n, u64, fieldAt, u, m, h, v, List.take_left]
  simp [hc]

theorem test_wit_CommandPackets_port :
    (∃ (s : State) (d : Datagram), (s.portOn = true ∧ d.dstIp = s.reg .MGMT_IP ∧ d.dstPort = s.fld Fld.MGMT_CFG_UDP ∧ d.tagged = false
      ∧ d.frag = false ∧ d.payload.length ≤ 1472 ∧ s.mg.policed < 10000 ∧ 16 ≤ d.payload.length ∧ pktMagicOk d.payload = true
      ∧ pktBytes d.payload + 32 = d.payload.length ∧ pktCrcOk d.payload = true ∧ bitAt (pktFlags d.payload) 2 = true
      ∧ s.hdrChecks (.port d.srcIp d.srcPort) 0x10 d.payload = 0) ∧ s.trailerOk d.payload = true)
    ∧ (∃ (s : State) (d : Datagram), (s.portOn = true ∧ d.dstIp = s.reg .MGMT_IP ∧ s.hdrChecks (.port d.srcIp d.srcPort) 0x10 d.payload ≠ 0)
      ∧ s.trailerOk d.payload = true)
    ∧ (∃ (s : State) (d : Datagram), s.portOn = true ∧ pktMagicOk d.payload = true ∧ pktBytes d.payload + 32 = d.payload.length
      ∧ pktCrcOk d.payload = true ∧ bitAt (pktFlags d.payload) 2 = true ∧ s.trailerOk d.payload = false)
    ∧ (∃ d : Datagram, d.dstIp ≠ ported.reg .MGMT_IP) :=
  let odd := mkPacket 12 0x0001 7 []
  ⟨⟨ported, dgram (nopTr ++ trailer ported.mgmtKey 1 nopTr), by decide +kernel, trailer_wit _ _ (by decide +kernel) (by decide)⟩,
   ⟨ported, dgram (odd ++ trailer ported.mgmtKey 1 odd), by decide +kernel,
     trailer_wit _ _ (by decide +kernel) (by decide)⟩,
   ⟨{ ported with mg := { ported.mg with portCounter := 1 } }, dgram (nopTr ++ zeros 32), by decide +kernel⟩,
   ⟨{ dgram [] with dstIp := 1 }, by decide +kernel⟩⟩

theorem test_wit_PairsAndSteward :
    (∃ s : State, Reach s .steward ∧ s.pairOk 0 = true) ∧ (∃ s : State, Reach s .steward ∧ s.pairOk 255 = false)
    ∧ (∃ c : CmdCtx, TakesNow live c ∧ c.payload = []) ∧ (∃ c : CmdCtx, TakesNow live c ∧ c.payload ≠ [])
    ∧ (∃ s : State, s.fld Fld.STEWARD_STAT_STATE = 1 ∧ s.fld Fld.STEWARD_STAT_DEGRADED = 0)
    ∧ (∃ s : State, s.fld Fld.STEWARD_STAT_STATE = 1 ∧ s.fld Fld.STEWARD_STAT_DEGRADED = 1) ∧ ∃ s : State, s.fld Fld.STEWARD_STAT_STATE = 2 :=
  ⟨⟨paired, reach_steward _, by decide +kernel⟩, ⟨live, reach_steward _, by decide +kernel⟩,
   ⟨cmd 3 [], takes _ _ (by decide +kernel), rfl⟩, ⟨cmd 3 [0], takes _ _ (by decide +kernel), nofun⟩,
   ⟨live, by decide +kernel⟩, ⟨live.setFld Fld.STEWARD_STAT_DEGRADED 0 1, by decide +kernel⟩,
   ⟨live.setFld Fld.STEWARD_STAT_STATE 0 2, by decide +kernel⟩⟩

/-- Bank A in state `a`, bank B in state `b`. -/
def banked (a b : Nat) : State := { live with mg := { live.mg with banks := [{ state := a }, { state := b, data := [(3, 7)] }] } }

/-- Whether a bank's signature verifies is a free value of the model: the two clauses about it cover its two values. -/
theorem test_wit_FirmwareBanks :
    (∃ (s : State) (c : CmdCtx), TakesNow s c ∧ s.mg.banks.length = 2 ∧ s.classLRuns c = false
      ∧ c.payload.length = 8 + ceilDiv (u32 c.payload 4) 4 * 4 ∧ u32 c.payload 0 % 4096 = 0 ∧ 1 ≤ u32 c.payload 4 ∧ u32 c.payload 4 ≤ 4096
      ∧ u32 c.payload 0 + u32 c.payload 4 ≤ 2 ^ 24 ∧ allZero (c.payload.drop (8 + u32 c.payload 4)) = true)
    ∧ (∃ s : State, TakesNow s (cmd 0x21 []) ∧ (s.bank (1 - s.runBank)).state = 1 ∧ s.classLRuns (cmd 0x21 []) = false)
    ∧ (∃ s : State, TakesNow s (cmd 0x22 []) ∧ (s.bank (1 - s.runBank)).state = 2 ∧ (s.bank s.runBank).state = 4)
    ∧ (∃ s : State, TakesNow s (cmd 0x23 []) ∧ (s.bank s.runBank).state = 3)
    ∧ (∃ s : State, s.kp.checks = [cmd 0x21 []] ∧ s.recovery = false ∧ s.mg.banks.length = 2)
    ∧ (∃ s : State, s.mg.banks.length = 2 ∧ s.mg.activate = some (1, 1281) ∧ s.absBeat = 1281)
    ∧ (∃ s : State, s.mg.banks.length = 2 ∧ s.mg.activate = some (1, 1281) ∧ s.absBeat = 1280 ∧ s.gridRun = true)
    ∧ (∃ s : State, s.mg.activate = none)
    ∧ (∃ s : State, s.rollbackDue = true ∧ s.mg.banks.length = 2) ∧ ∃ s : State, s.rollbackDue = false := by
  let armed (g : Nat) : State := { runAt g live with mg := { live.mg with activate := some (1, 1281) } }
  refine ⟨⟨live, cmd 0x20 (leBytes 4 (2 ^ 24 - 4096) ++ leBytes 4 1 ++ leBytes 4 0xAB), takes _ _ ?_, ?_⟩, ⟨banked 4 1, takes _ _ ?_, ?_⟩,
    ⟨banked 4 2, takes _ _ ?_, ?_⟩, ⟨banked 3 0, takes _ _ ?_, ?_⟩, ⟨{ live with kp := { live.kp with checks := [cmd 0x21 []] } }, ?_⟩,
    ⟨armed (1281 * 1024), ?_⟩, ⟨armed (1281 * 1024 - 1), ?_⟩, ⟨live, ?_⟩,
    ⟨{ banked 3 0 with mg := { (banked 3 0).mg with trialEpochs := 64 } }, ?_⟩, ⟨live, ?_⟩⟩ <;> decide +kernel

theorem test_wit_InformationCommands :
    TakesNow live (cmd 1 []) ∧ TakesNow live (cmd 1 [0]) ∧ TakesNow live (cmd 0x400 (zeros 8))
    ∧ (∃ c : CmdCtx, TakesNow live c ∧ c.payload.length = 8 ∧ allZero (c.payload.drop 5) = true ∧ u8 c.payload 4 = 32)
    ∧ (∃ c : CmdCtx, TakesNow live c ∧ c.payload.length = 4 ∧ u16 c.payload 2 = 0 ∧ u8 c.payload 0 = 3 ∧ u8 c.payload 1 = 1)
    ∧ (∃ c : CmdCtx, TakesNow live c ∧ c.payload.length = 4 ∧ u16 c.payload 2 = 0 ∧ u8 c.payload 0 ≤ 3 ∧ u8 c.payload 1 = 0)
    ∧ (∃ s : State, s.fld Fld.STEWARD_STAT_STATE = 2)
    ∧ (∃ s : State, s.fld Fld.STEWARD_STAT_STATE = 1 ∧ s.stewardTurn (cmd 1 []) = false)
    ∧ (∃ (s : State) (l : List Sample), s.gridRun = false ∧ s.mg.sensors.length = 64 ∧ l.Pairwise (fun x y => x.sensor ≠ y.sensor) ∧ l.length = 2
      ∧ ∀ x ∈ l, sensorExists x.sensor.val = true)
    ∧ (∃ s : State, s.gridRun = true ∧ s.beat = 8) ∧ ∃ s : State, s.gridRun = true ∧ s.beat = 9 := by
  refine ⟨takes _ _ ?_, takes _ _ ?_, takes _ _ ?_, ⟨cmd 0x402 [0, 0, 0, 0, 32, 0, 0, 0], takes _ _ ?_, ?_⟩,
    ⟨cmd 0x401 [3, 1, 0, 0], takes _ _ ?_, ?_⟩, ⟨cmd 0x401 [0, 0, 0, 0], takes _ _ ?_, ?_⟩, ⟨live.setFld Fld.STEWARD_STAT_STATE 0 2, ?_⟩,
    ⟨{ live with mg := { live.mg with fetched := [cmd 2 [], cmd 1 []] } }, ?_⟩, ⟨live, [⟨0, 5⟩, ⟨0x2A, 7⟩], ?_⟩, ⟨runAt 8192 live, ?_⟩,
    ⟨runAt 9216 live, ?_⟩⟩ <;> decide +kernel

/-- A POWER_STATE packet's payload. -/
def pwPay (st dm tm : Nat) : List Byte := leBytes 1 st ++ leBytes 1 dm ++ zeros 2 ++ leBytes 8 tm

/-- An entry that takes tile 0, and one that takes the whole module, in progress on the grid stopped. -/
def entering (e : PwEntry) : State := { live with pw := { live.pw with entry := some e } }

theorem test_wit_PowerStates_args :
    (∃ s : State, TakesNow s (cmd 0x300 (pwPay 0 0 0)) ∧ s.inTurn (cmd 0x300 (pwPay 0 0 0)) = true ∧ (pwPay 0 0 0).length = 12
      ∧ u8 (pwPay 0 0 0) 0 = 0 ∧ u16 (pwPay 0 0 0) 2 = 0 ∧ s.transition = 0 ∧ s.pwState = 0 ∧ pwTarget 0 0 0 = (s.reg .POWER_DOM, s.tilesOn))
    ∧ (∃ s : State, s.transition ≠ 0)
    ∧ (∃ s : State, s.transition = 0 ∧ ¬(0 = s.pwState ∧ pwTarget 0 0 0 = (s.reg .POWER_DOM, s.tilesOn))
      ∧ andNot (s.reg .POWER_DOM) (pwTarget 0 0 0).1 = 0 ∧ andNot s.tilesOn (pwTarget 0 0 0).2 = 0)
    ∧ (∃ s : State, TakesNow s (cmd 0x300 (pwPay 1 0 1)) ∧ s.inTurn (cmd 0x300 (pwPay 1 0 1)) = true ∧ s.transition = 0
      ∧ u8 (pwPay 1 0 1) 0 = 1 ∧ u64 (pwPay 1 0 1) 4 = 1 ∧ u8 (pwPay 1 0 1) 1 = 0
      ∧ andNot s.tilesOn (pwTarget 1 0 1).2 = 1 ∧ s.entryRefused 1 (andNot (s.reg .POWER_DOM) (pwTarget 1 0 1).1) 1 = none)
    ∧ ∃ s : State, TakesNow s (cmd 0x300 (pwPay 4 0 0)) ∧ s.inTurn (cmd 0x300 (pwPay 4 0 0)) = true ∧ s.transition = 0
      ∧ u8 (pwPay 4 0 0) 0 = 4 ∧ andNot (s.reg .POWER_DOM) (pwTarget 4 0 0).1 ≠ 0
      ∧ s.entryRefused 4 (andNot (s.reg .POWER_DOM) (pwTarget 4 0 0).1) (andNot s.tilesOn (pwTarget 4 0 0).2) = some (5, 0) := by
  refine ⟨⟨live, takes _ _ ?_, ?_⟩, ⟨live.setFld Fld.POWER_STAT_TRANSITION 0 3, ?_⟩, ⟨live.setReg .POWER_TILES_LO 0 0, ?_⟩,
    ⟨live, takes _ _ ?_, ?_⟩, ⟨live.setFld Fld.KEEPER_STAT_BUSY 0 1, takes _ _ ?_, ?_⟩⟩ <;> decide +kernel

theorem test_wit_PowerStates_drain :
    (∃ (s : State) (e : PwEntry), s.pw.entry = some e ∧ e.draining = false ∧ s.gridRun = false)
    ∧ (∃ (s : State) (e : PwEntry), s.pw.entry = some e ∧ e.draining = false ∧ s.gridRun = true ∧ e.atBeat = 1280
      ∧ s.tm.absGrain = 1279 * 1024 + 1000)
    ∧ (∃ (s : State) (e : PwEntry), s.pw.entry = some e ∧ e.draining = false ∧ s.gridRun = true ∧ e.atBeat = 1280
      ∧ s.tm.absGrain = 1279 * 1024 + 999)
    ∧ (∃ (s : State) (e : PwEntry), s.pw.entry = some e ∧ e.draining = true ∧ e.units.contains 0 = true ∧ e.drained.contains 0 = false
      ∧ s.unitQuiet 0 = true ∧ e.target ≤ 4)
    ∧ (∃ (s : State) (e : PwEntry), s.pw.entry = some e ∧ e.draining = true ∧ e.units.contains 73 = true ∧ e.drained.contains 73 = false
      ∧ s.unitQuiet 73 = true)
    ∧ (∃ (s : State) (e : PwEntry), s.pw.entry = some e ∧ e.draining = true ∧ e.units.contains 0 = true ∧ e.drained.contains 0 = false
      ∧ s.unitQuiet 0 = false)
    ∧ (∃ (s : State) (e : PwEntry), s.pw.entry = some e ∧ e.draining = true ∧ e.ports.all e.drained.contains = true ∧ s.gridRun = false
      ∧ e.wakeDoms = 0 ∧ e.wakeTiles = 0 ∧ e.target = 3)
    ∧ (∃ (s : State) (e : PwEntry), s.pw.entry = some e ∧ e.draining = true ∧ e.ports.all e.drained.contains = true ∧ s.gridRun = true
      ∧ e.atBeat = s.absBeat ∧ e.wakeDoms ≠ 0 ∧ e.target = 1)
    ∧ (∃ (s : State) (e : PwEntry), s.pw.entry = some e ∧ e.draining = true ∧ e.ports.all e.drained.contains = true ∧ s.gridRun = false
      ∧ e.wakeDoms = 0 ∧ e.wakeTiles = 0 ∧ e.target = 4)
    ∧ (∃ (s : State) (x : PwExit), s.pw.exit = some x ∧ x.target ≤ 4) ∧ ∃ s : State, s.pw.entry = none ∧ s.pw.exit = none := by
  let off (d : Bool) : PwEntry := { target := 1, tiles := 1, atBeat := 0, draining := d }
  let at1280 (g : Nat) : State := runAt g (entering { off false with atBeat := 1280 })
  refine ⟨⟨entering (off false), _, rfl, ?_⟩, ⟨at1280 (1279 * 1024 + 1000), _, rfl, ?_⟩, ⟨at1280 (1279 * 1024 + 999), _, rfl, ?_⟩,
    ⟨entering (off true), _, rfl, ?_⟩, ⟨entering { target := 4, doms := 0x200, atBeat := 0, draining := true }, _, rfl, ?_⟩,
    ⟨{ entering (off true) with tchans := [(4, { active := some { desc := [], core := 0, curd := none } })] }, _, rfl, ?_⟩,
    ⟨entering { target := 3, doms := 0x3BC, atBeat := 0, draining := true }, _, rfl, ?_⟩,
    ⟨runAt (1280 * 1024) (entering { target := 1, doms := 0x80, atBeat := 1280, draining := true, wakeDoms := 4 }), _, rfl, ?_⟩,
    ⟨entering { target := 4, doms := 0x3FF, atBeat := 0, draining := true }, _, rfl, ?_⟩,
    ⟨{ live with pw := { live.pw with exit := some { target := 0 } } }, _, rfl, ?_⟩, ⟨live, ?_⟩⟩ <;> decide +kernel

theorem test_wit_PowerCommands :
    (∃ (s : State) (c : CmdCtx), TakesNow s c ∧ s.inTurn c = true ∧ s.transition = 0 ∧ s.gridRun = true
      ∧ (maskList 15 4).find? (fun d => decide (3 < s.stepOf d) && s.stepNeeded d 3) = none ∧ c.payload = [15, 3, 0, 0])
    ∧ (∃ (s : State) (c : CmdCtx), TakesNow s c ∧ s.inTurn c = true ∧ s.transition = 0 ∧ s.gridRun = false
      ∧ (maskList 15 4).find? (fun d => decide (3 < s.stepOf d) && s.stepNeeded d 3) = none ∧ c.payload = [15, 3, 0, 0])
    ∧ (∃ (s : State) (c : CmdCtx), TakesNow s c ∧ s.inTurn c = true ∧ s.transition = 0
      ∧ (maskList 8 4).find? (fun d => decide (0 < s.stepOf d) && s.stepNeeded d 0) = some 3 ∧ c.payload = [8, 0, 0, 0])
    ∧ TakesNow live (cmd 0x305 [0xFF, 3, 0, 0]) ∧ u32 [0xFF, 3, 0, 0] 0 < 1024 ∧ TakesNow live (cmd 0x302 [])
    ∧ (∃ s : State, s.bt.stopped = false ∧ s.pwState = 3 ∧ s.transition = 0
      ∧ andNot (s.reg .POWER_DOM) (pwTarget 0 0 0).1 = 0 ∧ andNot s.tilesOn (pwTarget 0 0 0).2 = 0)
    ∧ (∃ s : State, s.bt.stopped = false ∧ s.pwState = 3 ∧ s.transition = 0
      ∧ andNot (s.reg .POWER_DOM) (pwTarget 4 0 0).1 ≠ 0
      ∧ s.entryRefused 4 (andNot (s.reg .POWER_DOM) (pwTarget 4 0 0).1) (andNot s.tilesOn (pwTarget 4 0 0).2) = none)
    ∧ (∃ s : State, s.bt.stopped = false ∧ s.pwState = 3 ∧ s.transition = 0
      ∧ s.entryRefused 4 (andNot (s.reg .POWER_DOM) (pwTarget 4 0 0).1) (andNot s.tilesOn (pwTarget 4 0 0).2) = some (5, 0))
    ∧ (∃ s : State, s.bt.stopped = false ∧ s.pwState = 2) ∧ ∃ s : State, s.pwState = 3 ∧ s.transition ≠ 0 := by
  let o : Order := { (default : Order) with slot := 7, tasks := [⟨0, 1, 3, 1, 1, [(0, 3, 5)], false, false, false⟩] }
  let hold : State := live.setFld Fld.POWER_STAT_STATE 0 3
  refine ⟨⟨runAt 0 live, cmd 0x301 [15, 3, 0, 0], takes _ _ ?_, ?_⟩, ⟨live, cmd 0x301 [15, 3, 0, 0], takes _ _ ?_, ?_⟩,
    ⟨{ (runAt 0 live).setReg .POWER_STEP 0 0xFF with orders := [o], images := [(7, { bytes := [0, 0, 0, 0, 0, 0, 1] })] },
      cmd 0x301 [8, 0, 0, 0], takes _ _ ?_, ?_⟩, takes _ _ ?_, ?_, takes _ _ ?_, ⟨hold, ?_⟩, ⟨hold, ?_⟩,
    ⟨hold.setFld Fld.KEEPER_STAT_BUSY 0 1, ?_⟩, ⟨live.setFld Fld.POWER_STAT_STATE 0 2, ?_⟩,
    ⟨hold.setFld Fld.POWER_STAT_TRANSITION 0 1, ?_⟩⟩ <;> decide +kernel

theorem test_wit_FeedsAndIsolation :
    (∃ s : State, feedOk 35999 = false ∧ bitAt (s.fld Fld.POWER_FEED_FEEDS) 1 = true)
    ∧ (∃ s : State, feedOk 75000 = true ∧ feedOk 75001 = false ∧ bitAt (s.fld Fld.POWER_FEED_FEEDS) 1 = false)
    ∧ (∃ s : State, s.dieStat 3 = 1 ∧ s.dieStat 2 = 2 ∧ s.dieStat 1 = 3 ∧ s.dieStat 0 = 0) :=
  ⟨⟨live.setFld Fld.POWER_FEED_FEEDS 0 3, by decide +kernel⟩, ⟨live, by decide +kernel⟩, ⟨live.setReg .GLOBAL_DIESTAT 0 0x6C, by decide +kernel⟩⟩

theorem test_wit_PmbusCommands :
    (∃ s : State, s.pmOn = true) ∧ (∃ s : State, s.pmOn = false) ∧ ∃ v : Int, -1000000000 ≤ v ∧ v ≤ 1000000000 :=
  ⟨⟨live, by decide +kernel⟩, ⟨State.reset, by decide +kernel⟩, ⟨1000000000, by decide⟩⟩

theorem test_wit_TriggersAndResets :
    (∃ s : State, s.bt.started = false ∧ s.pwState ≠ 4 ∧ feedOk 36000 = true ∧ feedOk 35999 = false ∧ s.bt.perst = false)
    ∧ (∃ s : State, s.bt.started = true ∧ s.pwState ≠ 4 ∧ s.bt.perst = false ∧ s.lr.loadEnded = false)
    ∧ (∃ s : State, s.bt.started = true ∧ s.pwState ≠ 4 ∧ s.bt.perst = false ∧ s.lr.loadEnded = true ∧ s.lr.load = none ∧ ∀ p < 5, s.lrState p = 0 ∨ s.lrState p = 3)
    ∧ (∃ s : State, s.bt.perst = false ∧ s.pwState = 4 ∧ s.lr.loadEnded = false) ∧ (∃ s : State, s.bt.perst = true)
    ∧ (∃ s : State, Reach s .steward ∧ s.bt.resetAt = none)
    ∧ (∃ s : State, s.bt.resetAt = some (7, 5) ∧ s.tm.ns = 5) ∧ ∃ s : State, s.bt.resetAt = some (7, 6) ∧ s.tm.ns = 5 := by
  let due (n : Nat) : State := { live with bt := { resetAt := some (7, n) }, tm := { live.tm with ns := 5 } }
  refine ⟨⟨State.reset, ?_⟩, ⟨{ live with bt := { started := true } }, ?_⟩,
   ⟨{ live with bt := { started := true }, lr := { loadEnded := true } }, ?_⟩,
   ⟨live.setFld Fld.POWER_STAT_STATE 0 4, ?_⟩, ⟨{ live with bt := { perst := true } }, ?_⟩, ⟨live, reach_steward _, ?_⟩,
   ⟨due 5, ?_⟩, ⟨due 6, ?_⟩⟩ <;> decide +kernel

/-- Start-up steps of mask `m` have completed. -/
def booted (m : Nat) : State := { live with bt := { started := true, done := m } }

/-- Whether the bank's signature verifies is a free value: the two clauses about it cover its two values. -/
theorem test_wit_StartupSteps :
    (∃ s : State, s.bootDone 1 = true ∧ s.bootDone 2 = false ∧ s.bt.stopped = false ∧ s.bt.retry = false ∧ s.fld Fld.GLOBAL_BOOT_ATTEMPT = 1)
    ∧ (∃ s : State, s.bootDone 1 = true ∧ s.bootDone 2 = false ∧ s.bt.stopped = false ∧ s.bt.retry = false ∧ s.fld Fld.GLOBAL_BOOT_ATTEMPT = 2)
    ∧ (∃ s : State, s.bootDone 2 = true ∧ s.bt.stopped = false ∧ s.bootDone 3 = false ∧ s.bootDone 4 = false ∧ s.fld Fld.ECC_FILL_GOLDEN = 1)
    ∧ (∃ s : State, s.bootDone 2 = true ∧ s.bt.stopped = false ∧ s.bootDone 4 = false ∧ s.fld Fld.ECC_FILL_GOLDEN = 0)
    ∧ (∃ s : State, s.bootDone 3 = true ∧ s.bootDone 8 = false ∧ s.bt.stopped = false ∧ s.fld Fld.ECC_FILL_DONE = 1 ∧ s.mg.banks.length = 2
      ∧ (s.bank s.runBank).state ≠ 3 ∧ s.bankChoice = some 0)
    ∧ (∃ s : State, s.bootDone 3 = true ∧ s.bootDone 8 = false ∧ s.bt.stopped = false ∧ s.fld Fld.ECC_FILL_DONE = 1 ∧ s.mg.banks.length = 2
      ∧ (s.bank s.runBank).state ≠ 3 ∧ s.bankChoice = none)
    ∧ (∃ s : State, s.bootDone 8 = true ∧ s.bootDone 9 = false ∧ s.bt.stopped = false ∧ s.reg .GLOBAL_DIESTAT = 0xFF)
    ∧ ∃ s : State, s.bootDone 1 = false ∧ s.bootDone 2 = false ∧ s.bootDone 3 = false ∧ s.bootDone 8 = false := by
  refine ⟨⟨(booted 2).setFld Fld.GLOBAL_BOOT_ATTEMPT 0 1, ?_⟩, ⟨(booted 2).setFld Fld.GLOBAL_BOOT_ATTEMPT 0 2, ?_⟩,
   ⟨(booted 6).setFld Fld.ECC_FILL_GOLDEN 0 1, ?_⟩, ⟨(booted 6).setFld Fld.ECC_FILL_GOLDEN 0 0, ?_⟩,
   ⟨(booted 8).setFld Fld.ECC_FILL_DONE 0 1, ?_⟩,
   ⟨{ (booted 8).setFld Fld.ECC_FILL_DONE 0 1 with mg := { live.mg with banks := [{ state := 5 }, { state := 1 }] } }, ?_⟩,
   ⟨(booted 256).setReg .GLOBAL_DIESTAT 0 0xFF, ?_⟩, ⟨live, ?_⟩⟩ <;> decide +kernel

theorem test_wit_ReadmissionAndFlr :
    (∃ s : State, Reach s .steward ∧ bitAt 8 3 = true ∧ bitAt 8 0 = false ∧ s.dieStat 3 = 2 ∧ s.transition = 0
      ∧ bits (s.reg .GLOBAL_ISO_CAUSE) (8 * 3 + 7) (8 * 3) = 4 ∧ (s.mg.sensors.getD (9 + 3) {}).value = 100000)
    ∧ (∃ s : State, bits (s.reg .GLOBAL_ISO_CAUSE) (8 * 3 + 7) (8 * 3) = 4 ∧ s.dieStat 3 = 2 ∧ (s.mg.sensors.getD (9 + 3) {}).value = 100001)
    ∧ (∃ s : State, bitAt s.bt.readmit 3 = true ∧ s.dieStat 3 = 3) ∧ (∃ s : State, bitAt s.bt.readmit 3 = false)
    ∧ (∃ s : State, 15 ∈ s.flr ∧ ∀ q < 4096, s.qOwner q = 15 → s.reg .Q_HELD q = 0)
    ∧ (∃ s : State, 15 ∈ s.flr ∧ ∃ q < 4096, s.qOwner q = 15 ∧ s.reg .Q_HELD q ≠ 0) ∧ ∃ s : State, 15 ∉ s.flr :=
  let hot (v : Int) : State :=
    { (live.setReg .GLOBAL_DIESTAT 0 0x95).setReg .GLOBAL_ISO_CAUSE 0 0x04000000 with
      mg := { live.mg with sensors := List.replicate 12 {} ++ [{ value := v }] } }
  ⟨⟨hot 100000, reach_steward _, by decide +kernel⟩, ⟨hot 100001, by decide +kernel⟩,
   ⟨{ live.setReg .GLOBAL_DIESTAT 0 0xD5 with bt := { readmit := 8 } }, by decide +kernel⟩, ⟨live, by decide⟩,
   ⟨{ State.reset with flr := [15] }, by decide, fun q _ _ => by
      have k : RegId.key .Q_HELD q % 512 = RegId.ctorIdx .Q_HELD := by
        have : RegId.ctorIdx .Q_HELD < 512 := by decide
        unfold RegId.key; omega
      show resetOfKey (RegId.key .Q_HELD q) = 0
      unfold resetOfKey
      rw [k]
      decide +kernel⟩,
   ⟨{ (withQ 4095 2 15 2 live).setReg .Q_HELD 4095 1 with flr := [15] }, by decide, 4095, by decide +kernel⟩, ⟨live, by decide +kernel⟩⟩

/-- A customer key of 97 bytes for slot 15, and the payload that installs it. -/
def keyPay : List Byte := [2, 15, 97, 0] ++ List.replicate 97 4 ++ zeros 96 ++ zeros 3

/-- Whether a signature verifies is a free value: the two clauses about it cover its two values. -/
theorem test_wit_KeeperCommands :
    (∃ s : State, TakesNow s (cmd 0x500 keyPay) ∧ (4 ≤ keyPay.length ∧ u16 keyPay 2 = 97
      ∧ keyPay.length = ceilDiv (credLen keyPay) 4 * 4 ∧ u8 keyPay 0 = 2 ∧ u8 keyPay 1 = 15 ∧ allZero (keyPay.drop (credLen keyPay)) = true
      ∧ bitAt (s.fld Fld.KEEPER_STAT_SLOTS) 15 = false ∧ bitAt (s.reg .KEEPER_REVOKED) 15 = false ∧ s.lifecycle = 1
      ∧ allZero (slice keyPay (4 + u16 keyPay 2) 96) = true))
    ∧ (∃ s : State, TakesNow s (cmd 0x500 keyPay) ∧ s.lifecycle = 2 ∧ bitAt (s.fld Fld.KEEPER_STAT_SLOTS) 15 = false)
    ∧ (∃ s : State, TakesNow s (cmd 0x501 (zeros 48)) ∧ s.lifecycle = 2 ∧ (zeros 48).length = 48) ∧ TakesNow live (cmd 0x502 [])
    ∧ (∃ s : State, TakesNow s (cmd 0x503 [3, 0, 0, 0]) ∧ s.lifeOk 3 = true ∧ s.transition = 0 ∧ s.fld Fld.KEEPER_STAT_BUSY = 0)
    ∧ (∃ (s : State) (c : CmdCtx), s.fld Fld.STEWARD_STAT_STATE = 1 ∧ s.kp.lifeCtx = some (c, 3)) ∧ (∃ s : State, s.kp.lifeCtx = none)
    ∧ (∃ s : State, s.kp.wipe = true) ∧ (∃ s : State, s.kp.wipe = false)
    ∧ (∃ s : State, s.kp.checks = [cmd 0x500 keyPay]) ∧ ∃ s : State, s.kp.checks = [] := by
  let life (n : Nat) : State := live.setFld Fld.KEEPER_STAT_LIFECYCLE 0 n
  refine ⟨⟨life 1, takes _ _ ?_, ?_⟩, ⟨life 2, takes _ _ ?_, ?_⟩, ⟨life 2, takes _ _ ?_, ?_⟩, takes _ _ ?_, ⟨live, takes _ _ ?_, ?_⟩,
   ⟨{ live with kp := { live.kp with lifeCtx := some (cmd 0x503 [], 3) } }, _, ?_, rfl⟩, ⟨live, ?_⟩,
   ⟨{ live with kp := { live.kp with wipe := true } }, ?_⟩, ⟨live, ?_⟩,
   ⟨{ live with kp := { live.kp with checks := [cmd 0x500 keyPay] } }, ?_⟩, ⟨live, ?_⟩⟩ <;> decide +kernel

/-- A DBG_OPEN payload for session level 1, 8 epochs, key 3 and nonce of ones. -/
def openPay : List Byte := zeros 8 ++ List.replicate 32 1 ++ [1, 0, 8, 0, 3, 0, 0, 0] ++ zeros 112

/-- Whether a signature verifies is a free value: the two clauses about it cover its two values. -/
theorem test_wit_DebugSessions :
    (∃ s : State, TakesNow s (cmd 0x511 openPay) ∧ (openPay.length = 160 ∧ u64 openPay 0 = s.kp.serial
      ∧ (∃ x ∈ s.kp.nonces, x.src = (transport (.pair 0)).1 ∧ x.ip = (transport (.pair 0)).2 ∧ x.bytes = slice openPay 8 32
        ∧ s.tm.epochCount + 1 = x.epoch + 8) ∧ u8 openPay 40 = 1 ∧ u8 openPay 41 = 0 ∧ u16 openPay 42 ≠ 0
      ∧ allZero (slice openPay 48 16) = true))
    ∧ (∃ s : State, TakesNow s (cmd 0x511 openPay) ∧ ∀ x ∈ s.kp.nonces, x.src = 0 → x.ip = 0 → x.bytes ≠ slice openPay 8 32)
    ∧ (∃ s : State, s.fld Fld.STEWARD_STAT_STATE = 1 ∧ s.kp.checks = [cmd 0x511 openPay] ∧ s.transition = 0 ∧ s.pwState ≤ 2
      ∧ (List.range 4).find? (fun n => s.fld Fld.DBG_SESS_STATE n == 0) = some 3)
    ∧ (∃ s : State, TakesNow s (cmd 0x512 [3, 0, 0, 0]) ∧ s.ownsSession (cmd 0x512 [3, 0, 0, 0]) 3 = true)
    ∧ (∃ s : State, TakesNow s (cmd 0x512 [3, 0, 0, 0]) ∧ s.ownsSession (cmd 0x512 [3, 0, 0, 0]) 3 = false)
    ∧ TakesNow live (cmd 0x510 []) ∧ (∃ s : State, s.kp.fills.contains 63 = true)
    ∧ (∃ s : State, s.levelActive 3 = true) ∧ (∃ s : State, s.levelActive 3 = false)
    ∧ (∃ s : State, s.lifecycle = 3) ∧ (∃ s : State, s.lifecycle = 1)
    ∧ (∃ s : State, Reach s .steward ∧ s.fld Fld.ECC_FLIP_CFG_ARM = 0 ∧ bitAt 5 0 = true ∧ s.flipAllowed (bits 5 3 1) (bits 5 12 4) = true)
    ∧ ∃ s : State, Reach s .steward ∧ s.fld Fld.ECC_FLIP_CFG_ARM = 0 ∧ s.flipAllowed (bits 5 3 1) (bits 5 12 4) = false := by
  let three : State := ((live.setFld Fld.DBG_SESS_STATE 0 1).setFld Fld.DBG_SESS_STATE 1 1).setFld Fld.DBG_SESS_STATE 2 1
  refine ⟨⟨{ three with kp := { live.kp with nonces := [⟨0, 0, List.replicate 32 1, 0⟩] }, tm := { live.tm with epochCount := 7 } }, takes _ _ ?_, ?_⟩,
   ⟨live, takes _ _ ?_, ?_⟩, ⟨{ three with kp := { live.kp with checks := [cmd 0x511 openPay] } }, ?_⟩,
   ⟨live.setFld Fld.DBG_SESS_STATE 3 2, takes _ _ ?_, ?_⟩, ⟨live, takes _ _ ?_, ?_⟩, takes _ _ ?_,
   ⟨{ live with kp := { live.kp with fills := [63] } }, ?_⟩,
   ⟨(live.setFld Fld.DBG_SESS_STATE 3 2).setFld Fld.DBG_SESS_LEVEL 3 3, ?_⟩, ⟨live, ?_⟩,
   ⟨live.setFld Fld.KEEPER_STAT_LIFECYCLE 0 3, ?_⟩, ⟨live.setFld Fld.KEEPER_STAT_LIFECYCLE 0 1, ?_⟩,
   ⟨live, reach_steward _, ?_⟩, ⟨live.setFld Fld.KEEPER_STAT_LIFECYCLE 0 1, reach_steward _, ?_⟩⟩ <;> decide +kernel

/-! ### Orders, images and curds -/

/-- An order of ring pair 0's function, sentinel 3, promised for beat 2; a curd of it of class `k` at `a`. -/
def ord3 : Order :=
  { handle := 3, func := 0, pair := 0, slot := 7, dl := false, deadline := 0, promised := mkStamp 2 1000, resultQ := 300, msix := 0xFFFF
    resultBuf := 0, resultLen := 0, user := 0, tag := 9, prio := 0, homeDie := 0, dieMask := 1, params := [], inputs := [], allocs := []
    tasks := [] }
def curdOf (k a : Nat) : Curd :=
  { handle := 3, task := 0, index := 0, cls := k, budget := 100, quantum := 125, beat := 1, die := 0, dep := 0, flow := noFlow, entry := 0
    entryOff := 0, args := 0x40000000, succ := 0, nSucc := 0, prio := 0, addr := a, rank := 0 }

/-- A graph image of one task of class `k`, COUNT 1 and BUDGET 100, without ranges; the sections of its code and constants take
in all of it. -/
def image1 (k : Nat) : List Byte :=
  leBytes 4 0x01474B41 ++ leBytes 2 1 ++ zeros 10 ++ leBytes 4 316 ++ leBytes 2 1 ++ zeros 2 ++ leBytes 4 256 ++ zeros 8 ++ leBytes 4 316 ++ zeros 4 ++ leBytes 4 316 ++ zeros 176
    ++ leBytes 4 1 ++ zeros 28
    ++ (leBytes 1 k ++ zeros 11 ++ leBytes 4 288 ++ zeros 16)
    ++ [1, 0, 0, 0] ++ (leBytes 1 k ++ zeros 3 ++ leBytes 2 24 ++ zeros 2 ++ leBytes 4 65536 ++ zeros 4 ++ leBytes 4 6553600 ++ zeros 4)

/-- The grid at absolute grain `g`, image 7 loaded, result queue 300 running, order 3 in flight with the curds `l`. -/
def inFlight (g : Nat) (l : List Curd) : State :=
  { runAt g (withQ 300 3 0 1 live) with
    images := [(7, { state := 2, gen := 1, bytes := image1 0 })], orders := [ord3], curds := l, sentArmed := 1 }

/-- A flow whose owner is PF0: ACTIVE, with an empty soft buffer. -/
def flow0 : FlowEntry := { state := 1 }

theorem test_wit_QueuesAndFlows_queues :
    (∃ s : State, s.qEnqs = [])
    ∧ (∃ (s : State) (e : QEnq), s.qEnqs = [.put e] ∧ e.desc.length = 32 ∧ e.producer = .held ∧ s.qState e.queue = 2 ∧ e.held = 1)
    ∧ (∃ (s : State) (e : QEnq), s.qEnqs = [.put e] ∧ e.desc.length = 32 ∧ e.producer = .errorUnit 4 ∧ e.held = 0 ∧ s.qState e.queue = 1
      ∧ s.qFree e.queue = 1)
    ∧ (∃ (s : State) (e : QEnq), s.qEnqs = [.put e] ∧ e.desc.length = 32 ∧ e.producer = .errorUnit 4 ∧ e.held = 0 ∧ s.qFree e.queue = 0)
    ∧ (∃ (s : State) (e : QEnq), s.qEnqs = [.put e] ∧ e.desc.length = 32 ∧ e.producer = .held ∧ s.qState e.queue = 0)
    ∧ (∃ (s : State) (w : QIndex), s.qEnqs = [.head w] ∧ s.headOk w.queue w.value = true)
    ∧ (∃ (s : State) (w : QIndex), s.qEnqs = [.head w] ∧ s.headOk w.queue w.value = false)
    ∧ (∃ (s : State) (w : QIndex), s.qEnqs = [.tail w] ∧ s.tailOk w.queue w.value = true)
    ∧ (∃ (s : State) (w : QIndex), s.qEnqs = [.tail w] ∧ s.tailOk w.queue w.value = false)
    ∧ ∃ (s : State) (e : QEnq) (w : QIndex), s.qEnqs = [.put e, .head w] := by
  let q (st n : Nat) (l : List QOp) : State := { (withQ 300 4 0 st live).setReg .Q_TAIL 300 n with qEnqs := l }
  let e (k : Nat) (x : Producer) : QEnq := { queue := 300, desc := zeros 32, producer := x, held := k }
  let w (n : Nat) : QIndex := { queue := 300, value := n, offset := 0, src := .pf0 }
  refine ⟨⟨live, rfl⟩, ⟨q 2 63 [.put (e 1 .held)], _, rfl, ?_⟩, ⟨q 1 63 [.put (e 0 (.errorUnit 4))], _, rfl, ?_⟩,
    ⟨q 1 64 [.put (e 0 (.errorUnit 4))], _, rfl, ?_⟩, ⟨q 0 0 [.put (e 1 .held)], _, rfl, ?_⟩, ⟨q 1 5 [.head (w 5)], _, rfl, ?_⟩,
    ⟨q 1 5 [.head (w 6)], _, rfl, ?_⟩, ⟨q 1 5 [.tail (w 64)], _, rfl, ?_⟩, ⟨q 1 5 [.tail (w 65)], _, rfl, ?_⟩,
    ⟨q 1 5 [.put (e 0 .held), .head (w 5)], _, _, rfl⟩⟩ <;> decide +kernel

theorem test_wit_QueuesAndFlows_flows :
    (∃ (s : State) (c : CmdCtx), TakesNow s c ∧ c.payload.length = 8 ∧ flowArg c.payload = some 0x4FFFFF ∧ u16 c.payload 4 = 1023
      ∧ u16 c.payload 6 = 0 ∧ (s.flow 0x4FFFFF).state = 0 ∧ flowBlocks 1023 ≤ s.genAvail)
    ∧ (∃ (s : State) (c : CmdCtx), TakesNow s c ∧ c.payload.length = 8 ∧ flowArg c.payload = some 0x4FFFFF ∧ u16 c.payload 4 = 1023
      ∧ u16 c.payload 6 = 0 ∧ (s.flow 0x4FFFFF).state = 0 ∧ s.genAvail < flowBlocks 1023)
    ∧ (∃ (s : State) (c : CmdCtx), TakesNow s c ∧ c.payload.length = 8 ∧ flowArg c.payload = some 0 ∧ u16 c.payload 6 = 0 ∧ (s.flow 0).state ≠ 0)
    ∧ (∃ c : CmdCtx, TakesNow live c ∧ c.payload.length = 8 ∧ flowArg c.payload = none)
    ∧ (∃ c : CmdCtx, TakesNow live c ∧ c.payload.length = 8 ∧ 1023 < u16 c.payload 4)
    ∧ (∃ c : CmdCtx, TakesNow live c ∧ c.payload.length = 4 ∧ flowArg c.payload = none) ∧ (∃ c : CmdCtx, TakesNow live c ∧ c.payload.length = 5)
    ∧ (∃ (s : State) (c : CmdCtx), TakesNow s c ∧ c.payload.length = 4 ∧ flowArg c.payload = some 0 ∧ c.issuer = 0 ∧ (s.flow 0).state = 1
      ∧ (s.flow 0).owner = 0 ∧ (s.flow 0).refs = 0 ∧ (s.flow 0).out = false)
    ∧ (∃ (s : State) (c : CmdCtx), TakesNow s c ∧ c.payload.length = 4 ∧ flowArg c.payload = some 0 ∧ (s.flow 0).state ≠ 0 ∧ 0 < (s.flow 0).refs)
    ∧ (∃ (s : State) (c : CmdCtx), TakesNow s c ∧ c.payload.length = 4 ∧ flowArg c.payload = some 0 ∧ c.issuer = 15 ∧ (s.flow 0).owner = 0)
    ∧ (∃ s : State, s.fld Fld.STEWARD_STAT_STATE ≠ 1)
    ∧ ∃ (s : State) (c : CmdCtx), s.fld Fld.STEWARD_STAT_STATE = 1 ∧ s.stewardTurn c = false := by
  let one (x : FlowEntry) : State := { live with flows := [(0, x)] }
  let setup (f n : Nat) : CmdCtx := cmd 0x1020 (leBytes 4 f ++ leBytes 2 n ++ zeros 2)
  refine ⟨⟨live, setup 0x4FFFFF 1023, takes _ _ ?_, ?_⟩,
    ⟨{ live with blk := { live.blk with freeGen := 0 } }, setup 0x4FFFFF 1023, takes _ _ ?_, ?_⟩, ⟨one flow0, setup 0 0, takes _ _ ?_, ?_⟩,
    ⟨setup 0x500000 0, takes _ _ ?_, ?_⟩, ⟨setup 0 1024, takes _ _ ?_, ?_⟩, ⟨cmd 0x1021 (leBytes 4 0x500000), takes _ _ ?_, ?_⟩,
    ⟨cmd 0x1021 (zeros 5), takes _ _ ?_, ?_⟩, ⟨one flow0, cmd 0x1021 (zeros 4), takes _ _ ?_, ?_⟩,
    ⟨one { flow0 with refs := 1 }, cmd 0x1021 (zeros 4), takes _ _ ?_, ?_⟩,
    ⟨one flow0, { cmd 0x1022 (zeros 4) with issuer := 15 }, takes _ _ ?_, ?_⟩, ⟨State.reset, ?_⟩,
    ⟨{ live with mg := { live.mg with fetched := [cmd 2 [], cmd 0x1020 []] } }, cmd 0x1020 [], ?_⟩⟩ <;> decide +kernel

/-- Whether the image's signature verifies is a free value: the two clauses about it cover its two values. -/
theorem test_wit_ImageCommands :
    (∃ (s : State) (c : CmdCtx), s.inTurn c = true ∧ c.payload = leBytes 4 255 ++ leBytes 4 (2 ^ 28) ++ zeros 8
      ∧ s.imageLoadRefusal c.payload = none)
    ∧ (∃ (s : State) (c : CmdCtx), s.inTurn c = true ∧ c.payload = leBytes 4 255 ++ leBytes 4 255 ++ zeros 8
      ∧ s.imageLoadRefusal c.payload = some 0x22)
    ∧ (∃ (s : State) (c : CmdCtx), (s.image 7).state = 1 ∧ (s.image 7).loadCtx = some c ∧ 256 ≤ (image1 0).length
      ∧ u32 (image1 0) 16 = (s.image 7).loadLen ∧ (image1 0).length = (s.image 7).loadLen ∧ imageOk (image1 0) = true)
    ∧ (∃ (s : State) (c : CmdCtx), (s.image 7).state = 1 ∧ (s.image 7).loadCtx = some c ∧ (image1 0).length ≠ (s.image 7).loadLen)
    ∧ (∃ img : List Byte, img.length = 316 ∧ u32 img 16 = 316 ∧ imageOk img = false) ∧ (∃ s : State, (s.image 7).state ≠ 1)
    ∧ (∃ (s : State) (c : CmdCtx), s.inTurn c = true ∧ c.payload = [7, 1, 1, 0] ∧ s.imageHandle 0x107 = some 7 ∧ s.imageUsers 7 ≠ [])
    ∧ (∃ (s : State) (c : CmdCtx), s.inTurn c = true ∧ c.payload = [7, 1, 0, 0] ∧ s.imageHandle 0x107 = some 7 ∧ s.imageUsers 7 = [])
    ∧ (∃ s : State, s.imageHandle 0x107 = none) ∧ (u16 [0xFF, 0, 0, 0] 0 = 255 ∧ u16 [0, 1, 0, 0] 0 = 256)
    ∧ ∃ (s : State) (c : CmdCtx), s.inTurn c = false := by
  let loading (n : Nat) : State := { live with images := [(7, { state := 1, loadLen := n, loadCtx := some (cmd 0x1010 []) })] }
  refine ⟨⟨live, cmd 0x1010 (leBytes 4 255 ++ leBytes 4 (2 ^ 28) ++ zeros 8), ?_⟩, ⟨live, cmd 0x1010 (leBytes 4 255 ++ leBytes 4 255 ++ zeros 8), ?_⟩,
   ⟨loading 316, cmd 0x1010 [], ?_⟩, ⟨loading 317, cmd 0x1010 [], ?_⟩, ⟨(image1 0).set 0 0, ?_⟩, ⟨live, ?_⟩,
   ⟨inFlight 0 [], cmd 0x1011 [7, 1, 1, 0], ?_⟩, ⟨{ inFlight 0 [] with orders := [] }, cmd 0x1012 [7, 1, 0, 0], ?_⟩, ⟨live, ?_⟩, ?_,
   ⟨{ live with mg := { live.mg with fetched := [cmd 0x1000 [], cmd 0x1011 []] } }, cmd 0x1011 [], ?_⟩⟩ <;> decide +kernel

/-- A SLOT_ORDER payload for image 7, die 0, deadline in beat 2, results into queue 300. -/
def ordPay : List Byte := leBytes 2 0x107 ++ [0, 1] ++ leBytes 4 (mkStamp 2 1000) ++ leBytes 2 300 ++ zeros 4 ++ leBytes 2 0xFFFF ++ zeros 48

/-- The calendar of beats 1 and 2, open, with die 0 in service. -/
def opened : State :=
  { (inFlight 0 []).setFld Fld.RENNET_CTRL_OPEN 0 1 with
    cal := [newColumn { tiles := 1, dies := 1 } 4 1, newColumn { tiles := 1, dies := 1 } 4 2] }

theorem accepted_of (d : Decision) (h : (match d with | .accepted _ _ p => p == 2 | _ => false) = true) :
    ∃ cal places, d = .accepted cal places 2 := by
  cases d with
  | accepted c pl p => exact ⟨c, pl, by rw [show p = 2 by simpa using h]⟩
  | rejected => simp at h

theorem test_wit_SlotOrders :
    (∃ (s : State) (c : CmdCtx), s.inTurn c = true ∧ c.src = .pair 0 ∧ s.rind c.issuer c.payload = none ∧ s.orderImage (u16 c.payload 0) = some 7
      ∧ ∃ cal places, s.decideOrder (decInOf (s.image 7).bytes c.payload) true c.fetch = .accepted cal places 2)
    ∧ (∃ (s : State) (c : CmdCtx), s.inTurn c = true ∧ c.src = .pair 0 ∧ s.rind c.issuer c.payload = none ∧ s.orderImage (u16 c.payload 0) = some 7
      ∧ s.decideOrder (decInOf (s.image 7).bytes c.payload) true c.fetch = .rejected 0x02 (some (0xFF, 0)) 0x1FFFF)
    ∧ (∃ (s : State) (c : CmdCtx) (st early : Nat), s.rind c.issuer c.payload = none ∧ s.orderImage (u16 c.payload 0) = none
      ∧ s.decideOrder (decInOf [] c.payload) false c.fetch = .rejected st none early)
    ∧ (∃ (s : State) (c : CmdCtx), s.inTurn c = true ∧ c.src = .pair 0 ∧ s.rind c.issuer c.payload = some 0x22)
    ∧ (∃ c : CmdCtx, ∀ p, c.src ≠ .pair p) ∧ ∃ (s : State) (c : CmdCtx), s.inTurn c = false :=
  let c := cmd 0x1000 ordPay
  ⟨⟨opened, c, by decide +kernel, rfl, by decide +kernel, by decide +kernel, accepted_of _ (by decide +kernel)⟩, ⟨inFlight 0 [], c, by decide +kernel⟩,
   ⟨{ opened with images := [] }, c, 0x04, 0x1FFFF, by decide +kernel⟩, ⟨live, cmd 0x1000 (ordPay.take 63), by decide +kernel⟩,
   ⟨{ c with src := .ssp }, fun _ => nofun⟩, ⟨{ live with mg := { live.mg with fetched := [cmd 0x1001 []] } }, c, by decide +kernel⟩⟩

theorem test_wit_OrdersEnd_results :
    (∃ s : State, s.orderAt 3 = none) ∧ (∃ (s : State) (o : Order), s.orderAt 3 = some o ∧ s.deliveringJob o = none)
    ∧ (∃ (s : State) (o : Order) (d : Curd), s.orderAt 3 = some o ∧ s.deliveringJob o = some d
      ∧ ∃ c ∈ s.curds, c.handle = o.handle ∧ c.addr ≠ d.addr ∧ c.freed = false)
    ∧ (∃ (s : State) (o : Order) (d : Curd), s.orderAt 3 = some o ∧ s.flr.contains o.func = false ∧ s.orderOf o.handle = some o
      ∧ s.deliveringJob o = some d ∧ ∀ c ∈ s.curds, c.handle = o.handle → c.addr ≠ d.addr → c.freed = true)
    ∧ (∃ (s : State) (o : Order) (d : Curd), s.orderAt 3 = some o ∧ s.flr.contains o.func = true ∧ s.deliveringJob o = some d
      ∧ ∀ c ∈ s.curds, c.handle = o.handle → c.addr ≠ d.addr → c.freed = true)
    ∧ (∃ (s : State) (o : Order), s.orderAt 3 = some o ∧ s.gridRun = true ∧ s.beat = stampBeat o.promised ∧ s.grain = 968 ∧ o.remote = none
      ∧ s.flr.contains o.func = false ∧ s.orderOf o.handle = some o)
    ∧ (∃ (s : State) (o : Order), s.orderAt 3 = some o ∧ s.gridRun = true ∧ s.beat = stampBeat o.promised ∧ s.grain = 968 ∧ o.remote = none
      ∧ s.flr.contains o.func = true)
    ∧ ∃ s : State, s.grain = 969 := by
  let job : Curd := { curdOf 8 0x40000040 with st := .running }
  let left : Curd := { curdOf 0 0x40000080 with st := .ended, freed := true }
  refine ⟨⟨live, ?_⟩, ⟨inFlight 0 [], _, rfl, ?_⟩, ⟨inFlight 0 [job, curdOf 0 0x40000080], _, job, rfl, ?_⟩,
    ⟨inFlight 0 [job, left], _, job, rfl, ?_⟩, ⟨{ inFlight 0 [job, left] with flr := [0] }, _, job, rfl, ?_⟩,
    ⟨inFlight (2 * 1024 + 968) [left], _, rfl, ?_⟩, ⟨{ inFlight (2 * 1024 + 968) [left] with flr := [0] }, _, rfl, ?_⟩,
    ⟨runAt 969 live, ?_⟩⟩ <;> decide +kernel

theorem test_wit_OrdersEnd_cancel :
    (∃ (s : State) (c : CmdCtx) (o : Order), s.inTurn c = true ∧ c.src = .pair 0 ∧ c.payload.length = 4 ∧ s.orderOf (u32 c.payload 0) = some o
      ∧ o.func = c.issuer ∧ o.startedBefore c.fetch = false)
    ∧ (∃ (s : State) (c : CmdCtx) (o : Order), s.inTurn c = true ∧ c.payload.length = 4 ∧ s.orderOf (u32 c.payload 0) = some o
      ∧ o.func = c.issuer ∧ o.startedBefore c.fetch = true)
    ∧ (∃ (s : State) (c : CmdCtx) (o : Order), s.inTurn c = true ∧ s.orderOf (u32 c.payload 0) = some o ∧ o.func ≠ c.issuer)
    ∧ (∃ (s : State) (c : CmdCtx), s.inTurn c = true ∧ c.payload.length = 4 ∧ s.orderOf (u32 c.payload 0) = none)
    ∧ (∃ c : CmdCtx, c.payload.length = 3 ∧ c.src = .pair 0) ∧ (∃ c : CmdCtx, ∀ p, c.src ≠ .pair p)
    ∧ (∃ (s : State) (c : CmdCtx), s.inTurn c = false)
    ∧ (∃ (s : State) (o : Order) (i : InputSt), s.orderAt 3 = some o ∧ o.input 15 = some i ∧ s.gridRun = true ∧ s.beat = beatSub i.firstBeat 1
      ∧ s.grain = 1016 ∧ i.closed = false ∧ i.kind = 0 ∧ (s.bad = [] ∧ s.merges = [] ∧ s.fld Fld.ECC_FLIP_CFG_ARM = 0))
    ∧ (∃ (s : State) (o : Order), s.orderAt 3 = some o ∧ o.input 15 = none)
    ∧ ∃ (s : State) (o : Order) (i : InputSt), s.orderAt 3 = some o ∧ o.input 15 = some i ∧ s.grain = 1017 := by
  let i : InputSt := { port := 15, kind := 0, ref := 2 ^ 16 + 2 ^ 40, len := 0, ready := 0, firstBeat := 0 }
  let c : CmdCtx := cmd 0x1001 (leBytes 4 3)
  let open15 (g : Nat) : State := { inFlight (81919 * 1024 + g) [] with orders := [{ ord3 with inputs := [i] }] }
  refine ⟨⟨inFlight 0 [curdOf 0 0x40000080], c, ord3, ?_⟩,
    ⟨{ inFlight 0 [] with orders := [{ ord3 with started := some 0 }] }, { c with fetch := 1 }, { ord3 with started := some 0 }, ?_⟩,
    ⟨inFlight 0 [], { c with issuer := 1 }, ord3, ?_⟩, ⟨live, c, ?_⟩, ⟨{ c with payload := zeros 3 }, ?_⟩, ⟨{ c with src := .ssp }, fun _ => nofun⟩,
    ⟨{ live with mg := { live.mg with fetched := [cmd 0x1000 []] } }, c, ?_⟩, ⟨open15 1016, { ord3 with inputs := [i] }, i, ?_⟩,
    ⟨inFlight 0 [], ord3, ?_⟩, ⟨open15 1017, { ord3 with inputs := [i] }, i, ?_⟩⟩ <;> decide +kernel

theorem test_wit_StationsDispatch :
    (∃ s : State, s.gridRun = true ∧ s.grain = 1008 ∧ s.stationOn 0 = true ∧ s.stationOn 4 = true
      ∧ ∃ c ∈ s.curds, c.station = 0 ∧ c.st = .held ∧ c.beat = beatAdd s.beat 1)
    ∧ (∃ s : State, s.gridRun = true ∧ s.grain = 1007) ∧ (∃ s : State, s.stationOn 3 = false)
    ∧ (∃ s : State, s.gridRun = true ∧ ∀ st < 5, s.stationOn st = true → s.selectable st = [])
    ∧ (∃ (s : State) (c : Curd) (o : Order) (es : List Nat), s.gridRun = true ∧ s.grain = 999 ∧ s.stationOn c.die = true ∧ s.selectable c.die = [c]
      ∧ s.curdAt c.addr = some c ∧ (∀ k < 5, k ≠ c.die → s.stationOn k = true → s.selectable k = []) ∧ c.cls = 0 ∧ c.die < 4
      ∧ s.orderOf c.handle = some o ∧ (execsOf c.die 0).filter s.execFree = 63 :: es ∧ c.hasFlow = true ∧ (s.flow c.flow).out = false)
    ∧ (∃ (s : State) (c : Curd), s.gridRun = true ∧ s.stationOn 4 = true ∧ s.selectable 4 = [c] ∧ s.curdAt c.addr = some c
      ∧ (∀ k < 4, s.stationOn k = true → s.selectable k = []) ∧ c.cls = 8 ∧ c.hasFlow = false)
    ∧ (∃ (s : State) (c : Curd), s.selectable c.die = [c] ∧ s.curdAt c.addr = some c ∧ c.cls = 0 ∧ (execsOf c.die 0).filter s.execFree = [])
    ∧ (∃ (s : State) (c : Curd) (es : List Nat), s.selectable c.die = [c] ∧ s.curdAt c.addr = some c ∧ (execsOf c.die 0).filter s.execFree = 63 :: es
      ∧ c.hasFlow = true ∧ (s.flow c.flow).out = true)
    ∧ (∃ s : State, s.gridRun = false)
    ∧ (∃ s : State, s.gridRun = true ∧ Intact s ∧ (∀ p < 16, (s.port p).job = [])
      ∧ ∃ c ∈ s.curds, s.curdAt c.addr = some c ∧ hubJobClass c.cls = true ∧ beatBefore c.beat s.beat = true ∧ c.st = .running)
    ∧ (∃ s : State, s.gridRun = true ∧ s.grain = 1000 ∧ (∀ c ∈ s.curds, c.cls ≤ 7 → c.st = .running → c.exec < 384 ∨ (448 ≤ c.exec ∧ c.exec ≤ 452))
      ∧ ∃ c ∈ s.curds, s.curdAt c.addr = some c ∧ c.st = .running ∧ c.exec = 255 ∧ (s.core 255).wait = .none)
    ∧ (∃ s : State, s.gridRun = true ∧ s.grain = 1000 ∧ ∃ c ∈ s.curds, s.curdAt c.addr = some c ∧ c.st = .running ∧ c.exec = 319
      ∧ (s.bmu 63).curd = some c.addr)
    ∧ (∃ s : State, s.grain = 999)
    ∧ (∃ (s : State) (c : Curd), s.curds.find? (fun c => c.exec == 255 && c.st == .running && c.cls ≤ 7) = some c
      ∧ stampGrain c.startStamp + c.budget = s.grain ∧ (s.core 255).wait = .none)
    ∧ (∃ (s : State) (c : Curd), s.curds.find? (fun c => c.exec == 319 && c.st == .running && c.cls ≤ 7) = some c
      ∧ stampGrain c.startStamp + c.budget = s.grain ∧ (s.bmu 63).curd = some c.addr)
    ∧ (∃ (s : State) (c : Curd), s.curds.find? (fun c => c.exec == 383 && c.st == .running && c.cls ≤ 7) = some c
      ∧ stampGrain c.startStamp + c.budget = s.grain ∧ engOfExec 383 = some 63 ∧ (s.eng 63).curd = some c.addr)
    ∧ (∃ (s : State) (c : Curd), s.curds.find? (fun c => c.exec == 452 && c.st == .running && c.cls ≤ 7) = some c
      ∧ stampGrain c.startStamp + c.budget = s.grain ∧ pxOfExec 452 = some 4 ∧ (s.px 4).curd = some c.addr)
    ∧ ∃ (s : State) (c : Curd), s.curds.find? (fun c => c.exec == 255 && c.st == .running && c.cls ≤ 7) = some c
      ∧ s.grain + 1 = stampGrain c.startStamp + c.budget := by
  let k := { curdOf 0 0x40000040 with st := CurdState.ready, hasFlow := true, flow := 0 }
  let r := fun (c e : Nat) => { curdOf c 0x40000040 with st := CurdState.running, exec := e }
  let ready := fun (g x : Nat) (f : FlowEntry) => { (inFlight g [k]).setFld Fld.CORE_STAT_STATE 63 x with flows := [(0, f)] }
  refine ⟨⟨inFlight 1008 [curdOf 0 0x40000040], ?_⟩, ⟨runAt 1007 live, ?_⟩, ⟨State.reset, ?_⟩, ⟨inFlight 999 [curdOf 0 0x40000040], ?_⟩,
    ⟨ready 999 1 flow0, k, ord3, [], ?_⟩, ⟨inFlight 1023 [{ curdOf 8 0x40000040 with st := .ready }], { curdOf 8 0x40000040 with st := .ready }, ?_⟩,
    ⟨ready 1024 0 flow0, k, ?_⟩, ⟨ready 1024 1 { flow0 with out := true }, k, [], ?_⟩,
    ⟨live, ?_⟩, ⟨inFlight 2048 [r 8 0x3FF], ?_, intact _ ?_, ?_⟩, ⟨inFlight 1000 [r 0 255], ?_⟩,
    ⟨{ inFlight 1000 [r 1 319] with bmus := [(63, { curd := some 0x40000040 })] }, ?_⟩, ⟨runAt 999 live, ?_⟩,
    ⟨inFlight 100 [r 0 255], r 0 255, ?_⟩, ⟨{ inFlight 100 [r 1 319] with bmus := [(63, { curd := some 0x40000040 })] }, r 1 319, ?_⟩,
    ⟨{ inFlight 100 [r 5 383] with engs := [(63, { curd := some 0x40000040 })] }, r 5 383, ?_⟩,
    ⟨{ inFlight 100 [r 7 452] with pxs := [(4, { curd := some 0x40000040 })] }, r 7 452, ?_⟩, ⟨inFlight 99 [r 0 255], r 0 255, ?_⟩⟩ <;> decide +kernel

theorem test_wit_CompletionsAndStaging :
    (∃ s : State, s.dueCompletions 3 = [])
    ∧ (∃ (s : State) (c : Curd) (o : Order), s.dueCompletions 0 = [(false, c)] ∧ s.orderOf c.handle = some o ∧ s.curdAt c.addr = some c
      ∧ (∀ y ∈ s.curds, ∀ z ∈ s.curds, ∀ i < 64, canonAddr (y.args + i) / 64 * 64 ≠ z.addr) ∧ c.token = true ∧ c.endStatus = 0x12)
    ∧ (∃ (s : State) (c : Curd) (o : Order), s.dueCompletions 0 = [(false, c)] ∧ s.orderOf c.handle = some o ∧ s.curdAt c.addr = some c
      ∧ c.endStatus = 0x10)
    ∧ (∃ (s : State) (c : Curd) (xs : List (Nat × Nat × Nat)), Intact s ∧ s.curdAt 0x40000040 = some c ∧ s.fld Fld.DISP_CTRL_PRESTAGE 0 = 1
      ∧ c.station = 0 ∧ c.cls ≤ 1 ∧ s.stationOn 0 = true ∧ c.staged = none ∧ c.beat = beatAdd s.beat 1 ∧ c.skip = false ∧ c.st = .held
      ∧ stageExtents (s.caveRead c.args 80) = some xs ∧ s.stageTile 0 = some 0 ∧ ∀ x ∈ xs, s.stageEligible c x.2.2 = true)
    ∧ (∃ (s : State) (c : Curd), s.curdAt 0x40000040 = some c ∧ s.fld Fld.DISP_CTRL_PRESTAGE 0 = 0)
    ∧ (∃ (s : State) (c : Curd), s.curdAt 0x40000040 = some c ∧ stageExtents (s.caveRead c.args 80) = none) ∧ ∃ s : State, s.curdAt 0 = none := by
  let i : InputSt := { port := 15, kind := 1, ref := 0, len := 1, ready := 0, firstBeat := 1, arrived := true }
  let ended := fun (x : Nat) => { curdOf 0 0x40000040 with st := CurdState.ended, endStatus := x, token := true, exec := 0 }
  refine ⟨⟨live, ?_⟩, ⟨inFlight 5 [ended 0x12], ended 0x12, ord3, ?_⟩, ⟨inFlight 5 [ended 0x10], ended 0x10, ord3, ?_⟩,
    ⟨{ (inFlight 5 [curdOf 0 0x40000040]).setFld Fld.DISP_CTRL_PRESTAGE 0 1 with
      orders := [{ ord3 with inputs := [i] }]
      cave := writeBytes [] 0x40000000 ([1] ++ zeros 15 ++ leBytes 8 0x50000000 ++ leBytes 2 1024 ++ leBytes 2 0x800F) }, curdOf 0 0x40000040,
     [(0x50000000, 1024, 0x800F)], intact _ ?_, ?_⟩, ⟨(inFlight 5 [curdOf 0 0x40000040]).setFld Fld.DISP_CTRL_PRESTAGE 0 0, curdOf 0 0x40000040, ?_⟩,
    ⟨inFlight 5 [curdOf 0 0x40000040], curdOf 0 0x40000040, ?_⟩, ⟨live, ?_⟩⟩ <;> decide +kernel

/-! ### Cores -/

/-- Image 7 holds the code word list `ws` at code offset 0, and core 5 runs there. -/
def coded (ws : List Nat) (c : Core) : State :=
  { (runAt 5 live).setFld Fld.CORE_STAT_STATE 5 2 with
    images := [(7, { state := 2, gen := 1, bytes := zeros 32 ++ leBytes 4 64 ++ leBytes 4 64 ++ zeros 24 ++ ws.flatMap (leBytes 4) })]
    cores := [(5, { c with slot := 7 })] }

/-- ADDI s3, s0, -1, alone in its bundle, and a word of a reserved MAJOR. -/
def addiWord : Nat := 2 * 2 ^ 26 + 2 ^ 25 + 3 * 2 ^ 20 + 0x7FFF
def badWord : Nat := 0x3F * 2 ^ 26 + 2 ^ 25

/-- The words of core 5's bundle and what they do. -/
def words (s : State) : List Nat := takeBundle 6 (s.codeWords (s.core 5))
def does (s : State) : List (WordOut × Nat) := s.bundleOuts 5 (s.core 5) (words s) 0

theorem test_wit_BundleIssue :
    (∃ s : State, s.mayIssue 5 = true ∧ ((s.core 5).pc % 4 = 0 ∧ (s.core 5).pc < u32 (s.image (s.core 5).slot).bytes 36
      ∧ bundleOk (s.core 5).pc (words s) = true) ∧ (s.core 5).stalls (words s) 0 = false ∧ firstExc (does s) = none
      ∧ (s.core 5).wait = .none ∧ s.fld Fld.CORE_STAT_STATE 5 = 2 ∧ (∀ o ∈ does s, o.1.act = .none ∧ o.1.rd = []) ∧ (does s).length = 1)
    ∧ (∃ s : State, s.mayIssue 5 = true ∧ Intact s ∧ bundleOk (s.core 5).pc (words s) = true ∧ (s.core 5).stalls (words s) 0 = true)
    ∧ (∃ s : State, s.mayIssue 5 = true ∧ Intact s ∧ bundleOk (s.core 5).pc (words s) = true ∧ (s.core 5).stalls (words s) 0 = false
      ∧ (firstExc (does s)).isSome = true)
    ∧ (∃ s : State, s.mayIssue 5 = true ∧ Intact s ∧ (s.core 5).pc = 0 ∧ 0 < u32 (s.image (s.core 5).slot).bytes 36
      ∧ bundleOk (s.core 5).pc (words s) = false ∧ s.fld Fld.ECC_D_STORE_HANDLING (coreDie 5) = 0)
    ∧ (∃ s : State, s.mayIssue 5 = true ∧ Intact s ∧ (s.core 5).pc % 4 ≠ 0)
    ∧ (∃ s : State, s.mayIssue 5 = true ∧ Intact s ∧ u32 (s.image (s.core 5).slot).bytes 36 = (s.core 5).pc)
    ∧ (∃ s : State, s.mayIssue 5 = true ∧ (s.core 5).wait = .stop 0x15) ∧ wMaj addiWord = 0x02
    ∧ (∃ s : State, s.mayIssue 5 = false ∧ (s.core 5).wait = .fence 3) ∧ ∃ s : State, s.mayIssue 5 = false ∧ (s.core 5).wait = .none := by
  let op : CmuOp := { toV := true, dest := 0, first := 0, lanes := [], flags := 0, pc := 0, long := true, cycle := 0, due := 24 }
  refine ⟨⟨coded [addiWord] {}, ?_⟩, ⟨coded [0x10 * 2 ^ 26 + 2 ^ 25 + 32] { cmu := [op] }, ?_, intact _ ?_, ?_⟩, ⟨coded [badWord] {}, ?_, intact _ ?_, ?_⟩,
    ⟨coded [addiWord - 2 ^ 25] {}, ?_, intact _ ?_, ?_⟩, ⟨coded [] { pc := 2 }, ?_, intact _ ?_, ?_⟩, ⟨coded [] { pc := 64 }, ?_, intact _ ?_, ?_⟩,
    ⟨coded [] { wait := .stop 0x15 }, ?_⟩, ?_, ⟨coded [] { wait := .fence 3 }, ?_⟩, ⟨live, ?_⟩⟩ <;> decide +kernel

/-- Core 5 in state `c` with the curd at 0x40000040 running on it. -/
def coreRun (c : Core) : State :=
  { inFlight 5 [{ curdOf 0 0x40000040 with st := .running, exec := 5 }] with cores := [(5, { c with curd := some 0x40000040 })] }

theorem test_wit_CoreWaitsEnd :
    (∃ s : State, Intact s ∧ (s.core 5).wait = .give 0x10 ∧ s.coreQuiet 5 = true ∧ s.curdAt 0x40000040 ≠ none)
    ∧ (∃ s : State, Intact s ∧ (s.core 5).wait = .give 0x10 ∧ s.coreQuiet 5 = false)
    ∧ (∃ s : State, Intact s ∧ (s.core 5).wait = .stop 0x15 ∧ (s.core 5).cmu = [] ∧ s.tileBusy (coreTile 5) (s.core 5).curd = false
      ∧ s.curdAt 0x40000040 ≠ none)
    ∧ (∃ s : State, Intact s ∧ (s.core 5).wait = .stop 0x15 ∧ (s.core 5).cmu ≠ [])
    ∧ (∃ s : State, Intact s ∧ (s.core 5).wait = .fence 6 ∧ s.fenceMet 5 6 = true ∧ (s.core 5).lbuf = [(8, 7)] ∧ localKey 5 8 = some (2, 5 * 2 ^ 19 + 8))
    ∧ (∃ s : State, Intact s ∧ (s.core 5).wait = .fence 4 ∧ s.fenceMet 5 4 = false)
    ∧ (∃ (s : State) (x : CaveStore), Intact s ∧ (s.core 5).csts = [x] ∧ s.blockProtected x.addr = false ∧ 0x14000000 ≤ canonAddr x.addr
      ∧ caveMapped (canonAddr x.addr) = true ∧ canonAddr x.addr % 4096 + x.data.length = 4096
      ∧ ∀ c ∈ s.curds, c.addr / 4096 ≠ canonAddr x.addr / 4096)
    ∧ (∃ (s : State) (x : CaveStore), (s.core 5).csts = [x] ∧ s.blockProtected x.addr = true ∧ x.curd = (s.core 5).curd)
    ∧ (∃ (s : State) (o : CmuOp), nextCmu (s.core 5).cmu = some o ∧ o.squashed = true)
    ∧ (∃ (s : State) (o : CmuOp), nextCmu (s.core 5).cmu = some o ∧ o.squashed = false ∧ o.flags = 0 ∧ (s.core 5).wait = .none
      ∧ s.fld Fld.ECC_D_STORE_HANDLING (coreDie 5) = 0)
    ∧ (∃ (s : State) (o : CmuOp), nextCmu (s.core 5).cmu = some o ∧ o.squashed = false ∧ o.flags ≠ 0 ∧ bitAt (s.core 5).cmucsr 0 = true
      ∧ (s.core 5).wait = .give 0x10)
    ∧ ∃ s : State, (s.core 5).wait = .none ∧ (s.core 5).csts = [] ∧ nextCmu (s.core 5).cmu = none := by
  let st := fun (a : Nat) => ({ addr := a, data := [1, 2, 3, 4], pc := 0, curd := some 0x40000040 } : CaveStore)
  let op := fun (f : Nat) (q : Bool) => ({ toV := false, dest := 15, first := 0, lanes := List.replicate 32 1, flags := f, pc := 0, long := false
                                           cycle := 0, due := 5, squashed := q } : CmuOp)
  refine ⟨⟨coreRun { wait := .give 0x10 }, intact _ ?_, ?_⟩, ⟨coreRun { wait := .give 0x10, cmu := [op 0 false] }, intact _ ?_, ?_⟩,
    ⟨coreRun { wait := .stop 0x15 }, intact _ ?_, ?_⟩, ⟨coreRun { wait := .stop 0x15, cmu := [op 0 true] }, intact _ ?_, ?_⟩,
    ⟨coreRun { wait := .fence 6, lbuf := [(8, 7)] }, intact _ ?_, ?_⟩, ⟨coreRun { wait := .fence 4, csts := [st 0x40001000] }, intact _ ?_, ?_⟩,
    ⟨coreRun { csts := [st 0x40001FFC] }, st 0x40001FFC, intact _ ?_, ?_⟩, ⟨coreRun { csts := [st 0x3FFFFFFC] }, st 0x3FFFFFFC, ?_⟩,
    ⟨coreRun { cmu := [op 0 true] }, op 0 true, ?_⟩, ⟨coreRun { cmu := [op 0 false] }, op 0 false, ?_⟩,
    ⟨coreRun { wait := .give 0x10, cmu := [op 1 false], cmucsr := 1 }, op 1 false, ?_⟩, ⟨coreRun {}, ?_⟩⟩ <;> decide +kernel

/-- A region command: 64 bytes of tile memory, from `src` to `dst`, function 0. -/
def regionDesc (op : Nat) : List Byte := leBytes 1 op ++ [0, 10, 0] ++ leBytes 4 64 ++ leBytes 8 0 ++ leBytes 8 64 ++ zeros 40

/-- Tile 63's region port runs `j`, with region 4 ACTIVE and one function in it. -/
def regionRun (j : TileJob) : State :=
  { (live.setFld Fld.LR_STAT_STATE 4 3).setFld Fld.LR_CAP_CAP 4 1 with tchans := [(63 * 8 + 4, { active := some j })] }

/-- The transfer of a region command of tile 63 that no curd gave. -/
def regionXfer (j : TileJob) : Xfer := { desc := j.desc, hub := false, tile := 63, exec := 0x400 + j.core, curd := none, handle := 0 }

theorem test_wit_TileGo :
    (∃ s : State, Intact s ∧ (s.tchan (coreTile 255 * 8 + 4)).active = none)
    ∧ (∃ (s : State) (x : TileJob), Intact s ∧ (s.tchan (coreTile 255 * 8 + 4)).active = some x ∧ (s.tchan (coreTile 255 * 8 + 4)).armed = none)
    ∧ (∃ (s : State) (x y : TileJob), Intact s ∧ (s.tchan (coreTile 0 * 8 + 3)).active = some x ∧ (s.tchan (coreTile 0 * 8 + 3)).armed = some y)
    ∧ (∃ (s : State) (j : TileJob), (s.tchan (63 * 8 + 4)).active = some j ∧ j.aborted = true)
    ∧ (∃ (s : State) (j : TileJob), (s.tchan (63 * 8 + 4)).active = some j ∧ j.aborted = false ∧ s.fld Fld.LR_STAT_STATE (1 + 63 / 16) ≠ 3)
    ∧ (∃ (s : State) (j : TileJob), (s.tchan (63 * 8 + 4)).active = some j ∧ j.aborted = false ∧ j.lost = true)
    ∧ (∃ (s : State) (j : TileJob), (s.tchan (63 * 8 + 4)).active = some j ∧ j.aborted = false ∧ j.lost = false
      ∧ s.fld Fld.LR_STAT_STATE (1 + 63 / 16) = 3 ∧ (regionXfer j).regionOk (s.fld Fld.LR_CAP_CAP (1 + 63 / 16)) = false)
    ∧ (∃ (s : State) (j : TileJob), (s.tchan (63 * 8 + 4)).active = some j ∧ j.aborted = false ∧ j.lost = false ∧ j.curd = none
      ∧ s.fld Fld.LR_STAT_STATE (1 + 63 / 16) = 3 ∧ (regionXfer j).regionOk (s.fld Fld.LR_CAP_CAP (1 + 63 / 16)) = true
      ∧ (s.firstFault (regionXfer j) false).map Prod.snd = some 0x62 ∧ s.merges = [] ∧ s.fld Fld.ECC_D_STORE_HANDLING (63 / 16) = 0)
    ∧ ∃ (s : State) (j : TileJob), (s.tchan (63 * 8 + 4)).active = some j ∧ j.aborted = false ∧ j.lost = false ∧ Intact s
      ∧ s.fld Fld.LR_STAT_STATE (1 + 63 / 16) = 3 ∧ (regionXfer j).regionOk (s.fld Fld.LR_CAP_CAP (1 + 63 / 16)) = true
      ∧ s.firstFault (regionXfer j) false = none ∧ j.curd = none := by
  let j := fun (op : Nat) (a l : Bool) => ({ desc := regionDesc op, core := 255, curd := none, aborted := a, lost := l } : TileJob)
  let good := j 0x0C false false
  refine ⟨⟨live, intact _ ?_, ?_⟩, ⟨regionRun good, good, intact _ ?_, ?_⟩,
    ⟨{ live with tchans := [(3, { active := some good, armed := some good })] }, good, good, intact _ ?_, ?_⟩,
    ⟨regionRun (j 0x0C true false), _, rfl, ?_⟩, ⟨{ regionRun good with regs := live.regs }, good, ?_⟩, ⟨regionRun (j 0x0C false true), _, rfl, ?_⟩,
    ⟨regionRun (j 0x0D false false), _, rfl, ?_⟩,
    ⟨{ regionRun good with bad := [{ mem := 2, word := 48 * 262144, err := .ue }] }, good, ?_⟩, ⟨regionRun good, good, ?_, ?_, ?_, intact _ ?_, ?_⟩⟩
    <;> decide +kernel
/-! ### Matrix units and engines -/

/-- BMU 63 runs a curd whose program is the command `p`. -/
def bmuRun (p : List Byte) : State :=
  { inFlight 5 [{ curdOf 1 0x40000040 with st := .running, exec := 319 }] with
    images := [(7, { state := 2, gen := 1, bytes := zeros 32 ++ leBytes 4 64 ++ zeros 28 ++ p })], bmus := [(63, { curd := some 0x40000040 })] }

/-- A product of 1 by 1 C16 matrices in tile memory. -/
def gemmCmd (op : Nat) : List Byte :=
  leBytes 1 op ++ [0, 1, 1, 1, 0, 0, if op = 4 then 2 else 0] ++ leBytes 8 (2 ^ 40) ++ leBytes 8 (2 ^ 40 + 64) ++ leBytes 8 (2 ^ 40 + 128)

/-- The curd of that job. -/
def bmuCurd : Curd := { curdOf 1 0x40000040 with st := .running, exec := 319 }

/-- Operand sizes of a command. -/
def bmuSz (op : Nat) (p : List Byte) : Nat × Nat × Nat :=
  bmuSizes op (u8 p 2) (u8 p 3) (u16 p 4) (bitAt (u8 p 1) 2) (bitAt (u8 p 1) 1) (u8 p 7 % 16)

/-- The operands of BMU 63's next command, for a curd `c` of image slot 7. -/
def bmuOps (s : State) (c : Curd) : Option Loc × Option Loc × Option Loc × Nat :=
  let p := s.bmuCmd 7 c (s.bmu 63).idx
  let z := bmuSz (u8 p 0) p
  let n := 2 ^ u8 p 6
  (s.bmuLoc 63 c (u64 p 8) (z.1 * n) false, if u8 p 0 = 2 then some (0, 0) else s.bmuLoc 63 c (u64 p 16) (z.2.1 * n) false,
    s.bmuLoc 63 c (u64 p 24) (z.2.2 * n) true, z.2.2 * n)

/-- BMU 63 runs the curd of order 3, and its next command is `op` and keeps its rules, or not; no word is bad. -/
abbrev bmuAt (s : State) (op : Nat) (ok : Bool) : Prop :=
  (s.bmu 63).curd = some 0x40000040 ∧ s.curdAt 0x40000040 = some bmuCurd ∧ s.orderOf bmuCurd.handle = some ord3
    ∧ bmuCmdOk (s.bmuCmd 7 bmuCurd (s.bmu 63).idx) = ok ∧ u8 (s.bmuCmd 7 bmuCurd (s.bmu 63).idx) 0 = op ∧ bmuCurd.st ≠ .ended
    ∧ s.bad = [] ∧ s.merges = [] ∧ s.fld Fld.ECC_FLIP_CFG_ARM = 0

theorem test_wit_BmuCommands :
    (∃ s : State, (s.bmu 63).curd = none) ∧ (∃ s : State, (s.bmu 63).curd = some 0x40000040 ∧ s.curdAt 0x40000040 = none)
    ∧ (∀ op < 4, ∃ s : State, bmuAt s (op + 1) true ∧ (bmuOps s bmuCurd).1.isSome = true ∧ (bmuOps s bmuCurd).2.1.isSome = true
      ∧ (bmuOps s bmuCurd).2.2.1 = some (1, 63 * 2 ^ 21 + 128) ∧ s.dstOk 3 (1, 63 * 2 ^ 21 + 128) (bmuOps s bmuCurd).2.2.2 = true)
    ∧ (∃ s : State, bmuAt s 0 true) ∧ (∃ s : State, bmuAt s 0 false) ∧ (∃ s : State, bmuAt s 5 false)
    ∧ (∃ s : State, bmuAt s 1 true ∧ (bmuOps s bmuCurd).1 = none)
    ∧ ∃ (s : State) (d : Loc), bmuAt s 1 true ∧ (bmuOps s bmuCurd).2.2.1 = some d ∧ s.dstOk 3 d (bmuOps s bmuCurd).2.2.2 = false := by
  refine ⟨⟨live, ?_⟩, ⟨{ live with bmus := [(63, { curd := some 0x40000040 })] }, ?_⟩, fun op h => ⟨bmuRun (gemmCmd (op + 1)), ?_⟩,
    ⟨bmuRun (gemmCmd 0), ?_⟩, ⟨bmuRun ((gemmCmd 0).set 1 16), ?_⟩, ⟨bmuRun (gemmCmd 5), ?_⟩, ⟨bmuRun ((gemmCmd 1).set 14 1), ?_⟩,
    ⟨bmuRun ((gemmCmd 1).set 29 0), (0, 128), ?_⟩⟩
  all_goals first | decide +kernel | (revert op; decide +kernel)

/-- Where no block has an owner, the arena may be written. -/
theorem dst_free (s : State) (h a n : Nat) (ho : s.own = []) (lo : arenaLo * 4096 ≤ a) (hi : a + n + 4096 ≤ (arenaLo + arenaN) * 4096) :
    s.dstOk h (0, a) n = true := by
  unfold State.dstOk
  simp only [bne_self_eq_false, Bool.false_or, List.all_eq_true, List.mem_range]
  intro i hi'
  have : s.owner (a / 4096 + i) = none := by unfold State.owner; rw [ho]; rfl
  simp only [this, beq_self_eq_true, Bool.true_and]
  have e : ceilDiv (a % 4096 + n) 4096 = (a % 4096 + n + 4095) / 4096 := rfl
  have b : arenaLo ≤ a / 4096 + i ∧ a / 4096 + i < arenaLo + arenaN := by
    rw [e] at hi'
    unfold arenaLo arenaN at *
    omega
  simp [b]

/-- An engine descriptor of one code block of 40 bits, of class `k`: input, output and status words at `i`, `o` and `st`. -/
def engArg (k i o st : Nat) : List Byte :=
  leBytes 1 k ++ zeros 1 ++ leBytes 2 1 ++ leBytes 4 40 ++ zeros 2 ++ [1, 0, 0, 0, 1, 0] ++ leBytes 4 200 ++ [2, 1, 0, 0] ++ zeros 8
    ++ leBytes 8 i ++ leBytes 8 o ++ leBytes 8 st ++ leBytes 8 0x40003000

/-- The curd of such a job, and engine 63 at its block `n`. -/
def engCurd (p : List Byte) : Curd := { curdOf 5 0x40000040 with st := .running, exec := 383, arg := p }
def engRun (p : List Byte) (n : Nat) : State := { inFlight 5 [engCurd p] with engs := [(63, { curd := some 0x40000040, next := n })] }

/-- Engine 63 runs the job `p` at block `n`, and no word is bad. -/
abbrev engAt (s : State) (p : List Byte) (r : Option Nat) : Prop :=
  (s.eng 63).curd = some 0x40000040 ∧ s.curdAt 0x40000040 = some (engCurd p) ∧ (engCurd p).st ≠ .ended
    ∧ s.nextBlock (engDesc p) ((engDesc p).n + 1) (s.eng 63).next = r ∧ s.bad = [] ∧ s.merges = [] ∧ s.fld Fld.ECC_FLIP_CFG_ARM = 0

theorem test_wit_CodingEngines_job :
    (∃ (s : State) (p : List Byte), engAt s p (some 0) ∧ caveSpan (engDesc p).inA (eOf (engDesc p).g (engDesc p).nl (engDesc p).qm (engDesc p).c 0) = true
      ∧ s.dstOk 3 (0, (engDesc p).statA + 4 * 0) 4 = true ∧ (engDesc p).flag 5 = false ∧ (engDesc p).bitsBefore 0 = 0
      ∧ ∀ n, n ≤ (engDesc p).tbs + 8448 + eOf (engDesc p).g (engDesc p).nl (engDesc p).qm (engDesc p).c 0 →
        s.bitsOk 3 (engDesc p).outA 0 n = true)
    ∧ (∃ (s : State) (p : List Byte), engAt s p (some 0) ∧ caveSpan (engDesc p).inA (eOf (engDesc p).g (engDesc p).nl (engDesc p).qm (engDesc p).c 0) = true
      ∧ s.dstOk 3 (0, (engDesc p).statA + 4 * 0) 4 = false)
    ∧ (∃ (s : State) (p : List Byte), engAt s p (some 0) ∧ caveSpan (engDesc p).inA (eOf (engDesc p).g (engDesc p).nl (engDesc p).qm (engDesc p).c 0) = false)
    ∧ (∃ (s : State) (p : List Byte), engAt s p none ∧ caveSpan (engDesc p).outA ((engDesc p).tbLen 5) = true ∧ (engDesc p).first + (engDesc p).n = (engDesc p).c
      ∧ s.dstOk 3 (0, (engDesc p).statA + 4 * (engDesc p).c) 4 = true)
    ∧ (∃ (s : State) (p : List Byte), engAt s p none ∧ caveSpan (engDesc p).outA ((engDesc p).tbLen 5) = true ∧ (engDesc p).first + (engDesc p).n = (engDesc p).c
      ∧ s.dstOk 3 (0, (engDesc p).statA + 4 * (engDesc p).c) 4 = false)
    ∧ (∃ (s : State) (p : List Byte), engAt s p none ∧ caveSpan (engDesc p).outA ((engDesc p).tbLen 5) = false)
    ∧ ∃ s : State, (s.eng 63).curd = some 0x40000040 ∧ s.curdAt 0x40000040 = none := by
  let far : Nat := 0x1800000000
  let good := engArg 5 0x40000000 0x40001000 0x40002000
  let deny := engArg 5 0x40000000 0x40001000 0x1000
  let farIn := engArg 5 far 0x40001000 0x40002000
  let farOut := engArg 5 0x40000000 far 0x40002000
  refine ⟨⟨engRun good 0, good, ?_, ?_, ?_, ?_, ?_, fun n hn => ?_⟩, ⟨engRun deny 0, deny, ?_⟩,
    ⟨engRun farIn 0, farIn, ?_⟩, ⟨engRun good 1, good, ?_⟩,
    ⟨engRun deny 1, deny, ?_⟩, ⟨engRun farOut 1, farOut, ?_⟩,
    ⟨{ live with engs := [(63, { curd := some 0x40000040 })] }, ?_⟩⟩
  case refine_6 =>
    have b : (engDesc good).tbs + 8448 + eOf (engDesc good).g (engDesc good).nl (engDesc good).qm (engDesc good).c 0 ≤ 10000 := by decide +kernel
    have a : (engDesc good).outA = 0x40001000 := by decide +kernel
    have c : ceilDiv (0 % 8 + n) 8 ≤ n + 7 := by unfold ceilDiv; omega
    unfold State.bitsOk
    rw [a]
    exact dst_free _ _ _ _ rfl (by decide) (by unfold arenaLo arenaN; omega)
  all_goals decide +kernel

theorem test_wit_CodingEngines_units :
    (∃ s : State, (s.eng 63).resetting = false ∧ (s.px 4).resetting = false) ∧ (∃ s : State, (s.eng 63).resetting = true)
    ∧ (∃ s : State, (s.px 4).resetting = true) ∧ (∃ s : State, Reach s .steward ∧ s.dieStat 3 ≠ 1)
    ∧ (∃ s : State, Reach s .steward ∧ s.dieStat 3 = 1 ∧ s.fld Fld.ENG_FENCE_STAT_FENCED 3 = 0x8000 ∧ s.withdrawOk 2 3 (1000 * 8) = true)
    ∧ ∃ s : State, Reach s .steward ∧ s.dieStat 3 = 1 ∧ s.withdrawOk 2 3 (1000 * 1) = false :=
  ⟨⟨live, by decide +kernel⟩, ⟨{ live with engs := [(63, { resetting := true })] }, by decide +kernel⟩,
   ⟨{ live with pxs := [(4, { resetting := true })] }, by decide +kernel⟩, ⟨State.reset, reach_steward _, by decide +kernel⟩,
   ⟨live.setFld Fld.ENG_FENCE_STAT_FENCED 3 0x8000, reach_steward _, by decide +kernel⟩,
   ⟨{ live with cal := [⟨5, 4, [⟨2, 3, 7500, 0, 7500, 8000⟩]⟩] }, reach_steward _, by decide +kernel⟩⟩

/-- Engine `n` of PX0 to PX3 and SE0 runs a job with the argument block `p`. -/
def pxRun (n : Nat) (p : List Byte) : State :=
  { inFlight 5 [{ curdOf 6 0x40000040 with st := .running, exec := 448 + n, arg := p }] with pxs := [(n, { curd := some 0x40000040 })] }
def pxCurd (n : Nat) (p : List Byte) : Curd := { curdOf 6 0x40000040 with st := .running, exec := 448 + n, arg := p }

/-- An LBT descriptor of type 2 on streams of mask `m`, and a PRACH argument block that reports to `out`. -/
def lbtArg (m : Nat) : List Byte := [7, 2, 0, 0] ++ leBytes 4 m ++ zeros 16 ++ leBytes 8 0x40001000 ++ zeros 32
def prachArg (out : Nat) : List Byte := zeros 48 ++ leBytes 8 out ++ zeros 8

/-- The access engine's job on stream 0, started 27 us after the time base. -/
def sensedCurd : Curd := { pxCurd 4 (lbtArg 1) with startStamp := (27000 * 128 + 15624) / 15625 }
def sensed : State :=
  { pxRun 4 (lbtArg 1) with
    tm := { (pxRun 4 []).tm with absGrain := (27000 * 128 + 15624) / 15625 }
    regs := (((pxRun 4 []).setReg .TIME_FRAME_BASE_LO 0 (1900000000 * 10240000000 % 2 ^ 32)).setReg .TIME_FRAME_BASE_HI 0
      (1900000000 * 10240000000 / 2 ^ 32)).regs
    curds := [sensedCurd] }

/-- Engine `n` runs `c`, whose argument block and samples are mapped, and no word is bad. -/
abbrev pxAt (s : State) (n : Nat) (c : Curd) : Prop :=
  (s.px n).curd = some 0x40000040 ∧ s.curdAt 0x40000040 = some c ∧ c.st ≠ .ended ∧ s.bad = [] ∧ s.merges = [] ∧ s.fld Fld.ECC_FLIP_CFG_ARM = 0
    ∧ caveSpan c.args 64 = true

theorem test_wit_PrachAndAccess_jobs :
    (∃ s : State, (s.px 3).curd.bind s.curdAt = none ∧ (s.px 4).curd.bind s.curdAt = none)
    ∧ (∃ (s : State) (c : Curd), pxAt s 3 c ∧ caveSpan (u64 c.arg 32) 0 = true
      ∧ (prachOf (c.arg.take 32)).rep * u16 c.arg 40 * (ceilDiv (prachOf (c.arg.take 32)).lra 16 * 16) * 4 = 0
      ∧ s.dstOk c.handle (0, u64 c.arg 48) (prachData (c.arg.take 32) (u8 c.arg 42) (u16 c.arg 40) (s.caveRead (u64 c.arg 32) 0)).1.length = true)
    ∧ (∃ (s : State) (c : Curd), pxAt s 3 c
      ∧ (prachOf (c.arg.take 32)).rep * u16 c.arg 40 * (ceilDiv (prachOf (c.arg.take 32)).lra 16 * 16) * 4 = 0
      ∧ s.dstOk c.handle (0, u64 c.arg 48) (prachData (c.arg.take 32) (u8 c.arg 42) (u16 c.arg 40) (s.caveRead (u64 c.arg 32) 0)).1.length = false)
    ∧ (∃ (s : State) (c : Curd), (s.px 3).curd = some 0x40000040 ∧ s.curdAt 0x40000040 = some c ∧ caveSpan c.args 64 = false)
    ∧ (∃ (s : State) (c : Curd), (s.px 4).curd = some 0x40000040 ∧ s.curdAt 0x40000040 = some c ∧ caveSpan c.args 64 = false)
    ∧ (∃ (s : State) (c : Curd), pxAt s 4 c ∧ lbtOk c.arg = false)
    ∧ (∃ (s : State) (c : Curd), pxAt s 4 c ∧ lbtOk c.arg = true ∧ s.dstOk c.handle (0, u64 c.arg 24) 16 = false)
    ∧ (∃ (s : State) (c : Curd), pxAt s 4 c ∧ lbtOk c.arg = true
      ∧ s.dstOk c.handle (0, u64 c.arg 24) 16 = true ∧ ∀ n < 32, bitAt (u32 c.arg 4) n = true →
        channelOk (s.stream n) (u8 c.arg 1) (u8 c.arg 2) (u16 c.arg 8) (s.stampNs c.startStamp / 9000) (s.stampNs (u32 c.arg 12) / 9000) = true)
    ∧ (∃ (s : State) (c : Curd), pxAt s 4 c ∧ lbtOk c.arg = true ∧ s.dstOk c.handle (0, u64 c.arg 24) 16 = true
      ∧ ¬ ∀ n < 32, bitAt (u32 c.arg 4) n = true →
        channelOk (s.stream n) (u8 c.arg 1) (u8 c.arg 2) (u16 c.arg 8) (s.stampNs c.startStamp / 9000) (s.stampNs (u32 c.arg 12) / 9000) = true) := by
  let bad (n : Nat) : State := { pxRun n [] with curds := [{ pxCurd n [] with args := 0x1800000000 }] }
  refine ⟨⟨live, ?_⟩, ⟨pxRun 3 (prachArg 0x40001000), pxCurd 3 (prachArg 0x40001000), ?_⟩, ⟨pxRun 3 (prachArg 0x1000), pxCurd 3 (prachArg 0x1000), ?_⟩,
    ⟨bad 3, { pxCurd 3 [] with args := 0x1800000000 }, ?_⟩, ⟨bad 4, { pxCurd 4 [] with args := 0x1800000000 }, ?_⟩,
    ⟨pxRun 4 (lbtArg 0), pxCurd 4 (lbtArg 0), ?_⟩, ⟨pxRun 4 ((lbtArg 1).set 27 0), pxCurd 4 ((lbtArg 1).set 27 0), ?_⟩,
    ⟨{ sensed with streams := [(0, { slots := [(0, 0), (1, 0), (2, 0)] })] }, sensedCurd, ?_⟩, ⟨sensed, sensedCurd, ?_⟩⟩ <;> decide +kernel

theorem test_wit_PrachAndAccess_writes :
    (∃ s : State, Reach s .steward ∧ s.fld Fld.PX_FENCE_STAT_FENCED = 8 ∧ s.withdrawOk 0xC 0 (1000 * 3) = true)
    ∧ (∃ s : State, Reach s .steward ∧ s.withdrawOk 0xC 0 (1000 * 1) = false)
    ∧ (∃ s : State, Reach s .steward ∧ s.fld Fld.SE_LOG_CFG_DEPTH_LOG2 = 6 ∧ s.reg .SE_LOG_TAIL = 5 ∧ s.reg .SE_LOG_HEAD = 0
      ∧ (5 + 2 ^ 7 - 0 % 2 ^ 7) % 2 ^ 7 = (5 % 2 ^ 7 + 2 ^ 7 - 0) % 2 ^ 7 ∧ (5 % 2 ^ 7 + 2 ^ 7 - 0) % 2 ^ 7 < (6 + 2 ^ 7 - 0 % 2 ^ 7) % 2 ^ 7) :=
  ⟨⟨live.setFld Fld.PX_FENCE_STAT_FENCED 0 8, reach_steward _, by decide +kernel⟩,
   ⟨{ live with cal := [⟨5, 4, [⟨0xC, 0, 3750, 0, 3750, 4000⟩]⟩] }, reach_steward _, by decide +kernel⟩,
   ⟨(live.setFld Fld.SE_LOG_CFG_DEPTH_LOG2 0 6).setReg .SE_LOG_TAIL 0 5, reach_steward _, by decide +kernel⟩⟩

/-- Stream 31 in state `st` with history `x`. -/
def streamIn (st : Nat) (x : SeStream) : State := { live.setFld Fld.SE_S_STAT_STATE 31 st with streams := [(31, x)] }

/-- The soft values of a signal field `f` without noise (R269). -/
def softOf (f : Nat) : List Int :=
  let c := ((List.range 24).foldl (fun (a : Nat × List Int) i =>
    let b := f / 2 ^ i % 2
    let o := convOut a.1 b
    (b * 32 + a.1 / 2, a.2 ++ [1 - 2 * (o.1 : Int), 1 - 2 * (o.2 : Int)])) (0, [])).2
  (List.range 48).map (fun j => c.getD (16 * (j % 3) + j / 3) 0)

/-- What the front end makes of the samples is a free value: the power of a block, and what it qualifies, have no value here. The
clauses about them exclude each other in pairs. -/
theorem test_wit_SensingStreams :
    (∃ s : State, s.seState 31 = 0) ∧ (∃ s : State, s.seState 31 = 1 ∧ (s.stream 31).raw.length + 1 = blockEdge 0 1 - blockEdge 0 0)
    ∧ (∃ s : State, s.seState 31 = 1 ∧ (s.stream 31).raw.length = blockEdge (s.fld Fld.SE_S_CFG_RATE 31) ((s.stream 31).blocks + 1)
      - blockEdge (s.fld Fld.SE_S_CFG_RATE 31) (s.stream 31).blocks)
    ∧ (∀ b < 3, ∃ s : State, s.seState 31 = 2 ∧ (s.stream 31).raw.length = 24 ∧ (s.stream 31).blk + 1 = [1, 3, 12].getD b 0)
    ∧ (∀ k < 2, ∃ s : State, s.seState 31 = 3 ∧ (s.stream 31).raw.length = 24 ∧ (s.stream 31).search = some (22 + k))
    ∧ (∃ s : State, s.seState 31 = 4 ∧ (s.stream 31).raw.length = 24 ∧ (s.stream 31).search = none)
    ∧ (∃ s : State, s.seState 31 = 3 ∧ (s.stream 31).search.isSome = true) ∧ (∃ s : State, s.seState 31 = 3 ∧ (s.stream 31).search = none)
    ∧ (popCount (lsigField (softOf 0x2B)) 18 % 2 = 0 ∧ lsigField (softOf 0x2B) = 0x2B
      ∧ ndbps (8 * b2n (bitAt 0x2B 0) + 4 * b2n (bitAt 0x2B 1) + 2 * b2n (bitAt 0x2B 2) + b2n (bitAt 0x2B 3)) ≠ 0 ∧ bits 0x2B 23 18 = 0)
    ∧ (popCount 0x0B 18 % 2 = 1 ∧ ndbps 0 = 0 ∧ bits 0x40000 23 18 ≠ 0)
    ∧ (∃ s : State, s.seState 31 ≠ 0 ∧ (s.stream 31).gaps.any (overSlot 4) = true)
    ∧ (∃ s : State, ¬(s.seState 31 = 0 ∨ (s.stream 31).gaps.any (overSlot 4) = true) ∧ ((s.stream 31).acc.find? (fun a => a.slot == 4)) = some ⟨4, 5, false⟩)
    ∧ (∃ s : State, ¬(s.seState 31 = 0 ∨ (s.stream 31).gaps.any (overSlot 4) = true) ∧ s.fld Fld.SE_ED_NAV_EN = 1 ∧ (s.stream 31).navs.any (overSlot 4) = true)
    ∧ ∃ s : State, ¬(s.seState 31 = 0 ∨ (s.stream 31).gaps.any (overSlot 4) = true) ∧ ((s.stream 31).acc.find? (fun a => a.slot == 4)) = some ⟨4, 4, false⟩
      ∧ ¬(s.fld Fld.SE_ED_NAV_EN = 1 ∧ (s.stream 31).navs.any (overSlot 4) = true) := by
  let raw : List (Int × Int × Int) := List.replicate 24 (0, 0, 0)
  refine ⟨⟨live, ?_⟩, ⟨streamIn 1 { raw := raw.take 23 }, ?_⟩, ⟨streamIn 1 { raw := raw }, ?_⟩,
    fun b h => ⟨streamIn 2 { raw := raw, blk := [0, 2, 11].getD b 0 }, ?_⟩, fun k h => ⟨streamIn 3 { raw := raw, search := some (22 + k) }, ?_⟩,
    ⟨streamIn 4 { raw := raw }, ?_⟩, ⟨streamIn 3 { search := some 0 }, ?_⟩, ⟨streamIn 3 {}, ?_⟩, ?_, ?_,
    ⟨streamIn 1 { gaps := [(44999, 45000)] }, ?_⟩, ⟨streamIn 1 { gaps := [(45000, 50000)], acc := [⟨4, 5, false⟩] }, ?_⟩,
    ⟨(streamIn 1 { navs := [(36000, 36001)] }).setFld Fld.SE_ED_NAV_EN 0 1, ?_⟩, ⟨streamIn 1 { acc := [⟨4, 4, false⟩] }, ?_⟩⟩
  all_goals first | decide +kernel | (revert b; decide +kernel) | (revert k; decide +kernel)

/-! ### Fronthaul -/

/-- Port 15 as a 100 GbE port in state `st`, its frames taken from and sent to address 0. -/
def fhIn (st : Nat) : State :=
  ((((live.setFld Fld.FH_STAT_STATE 15 st).setFld Fld.FH_CFG_MODE 15 1).setFld Fld.FH_SMAC_HI_VALID 120 1).setFld Fld.FH_CFG_MTU 15 1500).setFld
    Fld.FH_CFG_TAG_REQ 15 0

/-- One reserved FAB_TT or egress unit of pool `p`, index `i`, in beat 5. -/
def resCol (p i : Nat) : List Column := [⟨5, 4, [⟨p, i, 10, 9, 1, 10⟩]⟩]

theorem test_wit_FronthaulPorts :
    (∃ s : State, Reach s .steward ∧ s.fhShadowed 15 = true)
    ∧ (∃ s : State, Reach s .steward ∧ s.fhShadowed 15 = false ∧ s.fld Fld.FH_CFG_MODE 15 = 0 ∧ s.fhState 15 = 0)
    ∧ (∃ s : State, Reach s .steward ∧ s.fhShadowed 15 = false ∧ s.fld Fld.FH_CFG_MODE 15 ≠ 0 ∧ (s.port 15).disAt ≠ none ∧ s.fhState 15 ≠ 0)
    ∧ (∃ s : State, Reach s .steward ∧ s.fhShadowed 15 = false ∧ s.fld Fld.FH_CFG_MODE 15 ≠ 0 ∧ (s.port 15).disAt = none ∧ s.fhState 15 = 0)
    ∧ (∃ s : State, Reach s .steward ∧ s.fhShadowed 15 = false ∧ s.fld Fld.FH_CFG_MODE 15 ≠ 0 ∧ s.fhState 15 ≠ 0 ∧ (s.port 15).disAt = none
      ∧ s.noReservation (fun x => x.pool == 0xE && x.index == 15) = true)
    ∧ (∃ s : State, Reach s .steward ∧ s.fhShadowed 15 = false ∧ s.fhState 15 ≠ 0 ∧ (s.port 15).disAt = none
      ∧ s.noReservation (fun x => x.pool == 0xE && x.index == 15) = false)
    ∧ (∀ x ∈ [(false, none), (true, none), (false, some 5)], ∃ s : State, s.fhState 15 = 1 ∧ bitAt (s.reg .POWER_PADS) 7 = false
      ∧ (fhLanes 15 (s.fld Fld.FH_CFG_MODE 15)).all s.laneUp = true ∧ s.cap.egress.length = 16 ∧ (s.port 15).linked = x.1 ∧ (s.port 15).disAt = x.2)
    ∧ (∃ s : State, s.fhState 15 = 1 ∧ (fhLanes 15 (s.fld Fld.FH_CFG_MODE 15)).all s.laneUp = false)
    ∧ (∃ s : State, s.fhState 15 = 1 ∧ bitAt (s.reg .POWER_PADS) 7 = true) ∧ (∃ s : State, s.fhState 15 = 2)
    ∧ (∃ s : State, Sparse.get none (s.port 15).seq 159 = none)
    ∧ (∃ s : State, Sparse.get none (s.port 15).seq 159 = some ⟨255, 1000⟩ ∧ 1000 + 1000000 ≤ s.tm.ns)
    ∧ ∃ s : State, Sparse.get none (s.port 15).seq 159 = some ⟨255, 1000⟩ ∧ s.tm.ns < 1000 + 1000000 := by
  let x : FhPort := { seq := [(159, some ⟨255, 1000⟩)] }
  let late (n : Nat) : State := { fhIn 2 with fh := [(15, x)], tm := { live.tm with ns := n } }
  refine ⟨⟨(fhIn 0).setFld Fld.FH_CFG_MODE 14 3, reach_steward _, ?_⟩, ⟨live, reach_steward _, ?_⟩,
    ⟨(fhIn 2).setPort 15 { disAt := some 5 }, reach_steward _, ?_⟩, ⟨fhIn 0, reach_steward _, ?_⟩, ⟨fhIn 2, reach_steward _, ?_⟩,
    ⟨{ fhIn 2 with cal := resCol 0xE 15 }, reach_steward _, ?_⟩, fun x h => ⟨(fhIn 1).setPort 15 { linked := x.1, disAt := x.2 }, ?_⟩,
    ⟨(fhIn 1).setFld Fld.LN_STAT_PWR_STATE 30 3, ?_⟩, ⟨(fhIn 1).setReg .POWER_PADS 0 0x80, ?_⟩, ⟨fhIn 2, ?_⟩, ⟨fhIn 2, ?_⟩, ⟨late 1001000, ?_⟩,
    ⟨late 1000999, ?_⟩⟩
  all_goals first | decide +kernel | (revert x; decide +kernel)

/-- Frame 0 of the air starts at ns 0; carrier 31 of port 15 has one PRB, uncompressed, and stream entry 127 carries eAxC 0xFFFF, AxC 5, of it. -/
def cellUp (st : Nat) : State :=
  (((((((((fhIn st).setReg .TIME_FRAME_BASE_LO 0 (1900000000 * 10240000000 % 2 ^ 32)).setReg .TIME_FRAME_BASE_HI 0
    (1900000000 * 10240000000 / 2 ^ 32)).setReg .FH_AXC 2047 0).setFld Fld.FH_AXC_VALID 2047 1).setFld Fld.FH_AXC_AXC 2047 5).setFld
    Fld.FH_AXC_CAR 2047 31).setFld Fld.FH_AXC_EAXC 2047 0xFFFF).setFld Fld.FH_C_CFG_NPRB 511 1).setFld Fld.FH_C_CFG_WIDTH 511 16 |>.setFld
    Fld.FH_C_CFG_STATIC 511 1

/-- A U-plane frame for it: symbol 13 of the slot 9 of frame 0, one PRB; and the order whose input it matches. -/
def uFrame : RxFrame :=
  ⟨zeros 12 ++ [0xAE, 0xFE] ++ [0x10, 0, 0, 60] ++ [0xFF, 0xFF, 0, 0x80] ++ [0x10, 0, 0x90, 13] ++ [0, 0, 0, 1] ++ zeros 48, 82, true, none, 9928700⟩
def uIn : InputSt := { port := 0, kind := 0, ref := 5 + 2 ^ 16 + 13 * 2 ^ 32 + 2 ^ 40, len := 0, ready := 0, firstBeat := 1, bound := some 9 }
def uOrd : Order := { ord3 with inputs := [uIn] }
def cellIn (n : Nat) : State := { (cellUp 2).setFld Fld.FH_C_ULU_MAX 511 n with orders := [uOrd] }

/-- A frame of 64 bytes that the port hands to the host, by its EtherType. -/
def hFrame : RxFrame := ⟨zeros 12 ++ [8, 0] ++ zeros 46, 64, true, none, 0⟩
def hostIn : State := ((fhIn 2).setFld Fld.FH_HOST_ETYPE_ETYPE0 15 0x800).setFld Fld.FH_POLICE_CTRL_CTRL_RATE 15 0

/-- Frame `f` passes the checks of the link on port 15, which is UP. -/
def passes (s : State) (f : RxFrame) : Prop :=
  s.fhState 15 = 2 ∧ ceilDiv f.len 256 ≤ s.fld Fld.FH_GRAN_RX_FREE 15 ∧ s.linkCheck 15 f (ethHdr f.bytes) = 0 ∧ f.sec = none

/-- A run of free blocks is found where the pool's first blocks are free. -/
theorem run_at_head (s : State) (lo m n : Nat) (h : s.blocksFree lo m n true lo = true) : ∃ b, s.pickRun lo m n = some b := by
  unfold State.pickRun
  simp only [List.find?_cons, h]
  split <;> exact ⟨_, rfl⟩

theorem test_wit_FronthaulFrames_in :
    (∃ s : State, s.fhState 15 ≠ 2)
    ∧ (∃ (s : State) (f : RxFrame), s.fhState 15 = 2 ∧ s.fld Fld.FH_GRAN_RX_FREE 15 < ceilDiv f.len 256)
    ∧ (∃ (s : State) (f : RxFrame), s.fhState 15 = 2 ∧ ceilDiv f.len 256 ≤ s.fld Fld.FH_GRAN_RX_FREE 15
      ∧ s.linkCheck 15 f (ethHdr f.bytes) ≠ 0 ∧ f.sec = none)
    ∧ (∃ (s : State) (f : RxFrame), passes s f ∧ (s.police 15 true f.len f.ns).1 = false ∧ (ethHdr f.bytes).etype = 0xAEFE)
    ∧ (∃ (s : State) (f : RxFrame), passes s f ∧ (s.police 15 false f.len f.ns).1 = true ∧ (ethHdr f.bytes).etype = 0x800
      ∧ s.fld Fld.FH_INQ_ENABLE 15 = 0)
    ∧ (∃ (s : State) (f : RxFrame), passes s f ∧ (s.police 15 false f.len f.ns).1 = true ∧ (ethHdr f.bytes).etype = 0x800
      ∧ s.fld Fld.FH_INQ_ENABLE 15 = 1 ∧ ∃ b, s.pickRun genLo genN (ceilDiv f.bytes.length 4096) = some b) :=
  let u : State := (cellIn 4).setFld Fld.FH_GRAN_RX_FREE 15 1
  ⟨⟨live, by decide +kernel⟩, ⟨fhIn 2 |>.setFld Fld.FH_GRAN_RX_FREE 15 0, uFrame, by decide +kernel⟩,
   ⟨fhIn 2 |>.setFld Fld.FH_GRAN_RX_FREE 15 1, { uFrame with fcsOk := false }, by decide +kernel⟩,
   ⟨u.setFld Fld.FH_POLICE_DATA_RATE 15 1, { uFrame with ns := 0 }, by unfold passes; decide +kernel⟩,
   ⟨hostIn, hFrame, by unfold passes; decide +kernel⟩,
   ⟨hostIn.setFld Fld.FH_INQ_ENABLE 15 1, hFrame, by unfold passes; decide +kernel, by decide +kernel, by decide +kernel, by decide +kernel,
    run_at_head _ _ _ _ (by decide +kernel)⟩⟩

/-- The values that Table 11.4 reads from the U-plane frame `f` in `s` for stream entry `e`: the EtherType header's end, slot and
symbol, air time of the symbol, and sections. -/
def uRead (s : State) (f : RxFrame) (e : Nat) : Nat × Nat × Nat × Int × List Byte :=
  let b := f.bytes
  let q := (ethHdr b).off
  let w := beAt b (q + 10) 2
  let mu := s.fld Fld.FH_C_CFG_MU (s.entryCar e)
  let slot := (s.nearFrame (u8 b (q + 9)) f.ns * 10 + w / 4096) * slotsPerSub mu + w / 64 % 64
  (q, w, slot, s.airUnits mu slot (w % 64), slice b (q + 12) (beAt b (q + 2) 2 - 8))

theorem test_wit_FronthaulFrames_uplane :
    (∃ (s : State) (f : RxFrame) (e : Nat) (o : Order) (i : InputSt), let b := f.bytes; let c := s.entryCar e; let v := uRead s f e
      passes s f ∧ (s.police 15 true f.len f.ns).1 = true ∧ (ethHdr b).etype = 0xAEFE ∧ ecpriOk b v.1 = true ∧ u8 b (v.1 + 1) = 0
      ∧ 8 ≤ beAt b (v.1 + 2) 2 ∧ s.pcEntry 15 (beAt b (v.1 + 4) 2) = some e ∧ u8 b (v.1 + 7) = 0x80
      ∧ ((s.port 15).seqStep (e % 128) (u8 b (v.1 + 6)) f.ns).1 = true ∧ u8 b (v.1 + 8) = 0x10 ∧ s.fld Fld.FH_AXC_PRACH e = 0
      ∧ v.2.1 / 4096 ≤ 9 ∧ v.2.1 / 64 % 64 < slotsPerSub (s.fld Fld.FH_C_CFG_MU c) ∧ v.2.1 % 64 ≤ 13
      ∧ v.2.2.2.1 + (s.fld Fld.FH_C_ULU_MIN c * 6144 : Nat) ≤ ((384 * f.ns : Nat) : Int)
      ∧ ((384 * f.ns : Nat) : Int) ≤ v.2.2.2.1 + (s.fld Fld.FH_C_ULU_MAX c * 6144 : Nat)
      ∧ s.matchInput (s.fld Fld.FH_AXC_AXC e) (v.2.1 % 64) v.2.2.1 = some (o, i) ∧ i.closed = false
      ∧ s.prbBytes (s.fld Fld.FH_C_CFG_METHOD c) (s.fld Fld.FH_C_CFG_WIDTH c) = some 48
      ∧ (sectionsOf (s.fld Fld.FH_C_CFG_NPRB c) 48 (s.fld Fld.FH_C_CFG_STATIC c == 1)
        (s.fld Fld.FH_C_CFG_WIDTH c % 16 * 16 + s.fld Fld.FH_C_CFG_METHOD c) (v.2.2.2.2.length + 1) v.2.2.2.2).isSome = true)
    ∧ (∃ s : State, (s.port 15).held = [])
    ∧ ∃ (s : State) (h : FhHeld), Intact s ∧ (s.port 15).held = [h] ∧ s.orderOf h.handle = some uOrd ∧ uOrd.input h.inPort = some uIn
      ∧ s.fld Fld.FH_GRAN_RX_FREE 15 + h.granules < 2 ^ 15 ∧ s.heldSections 15 h = [(0, 1, zeros 48)] := by
  let h : FhHeld := ⟨1, 3, 0, 0, 31, false, [0, 0, 0, 1] ++ zeros 48, 0⟩
  refine ⟨⟨(cellIn 4).setFld Fld.FH_GRAN_RX_FREE 15 1, uFrame, 2047, uOrd, uIn, ?_⟩, ⟨live, ?_⟩,
    ⟨(cellIn 0).setPort 15 { held := [h] }, h, intact _ ?_, ?_⟩⟩ <;> (try unfold passes) <;> decide +kernel

/-- An FH_EGRESS job on port 15 with `n` messages, its air stamp `air`: one U-plane PRB of AxC 5 from the grid at 0x40004000. -/
def txDesc (n air : Nat) : List Byte :=
  [9, 0] ++ leBytes 2 n ++ leBytes 4 air ++ leBytes 8 0x40004000 ++ leBytes 8 0x40002000 ++ leBytes 8 0x40003000 ++ leBytes 2 5 ++ leBytes 2 1 ++ zeros 28
def txCurd : Curd := { curdOf 9 0x40000040 with beat := 0, st := .running, exec := 468 }
def txJob (msg : Nat) : FhEgress := { curd := 0x40000040, desc := txDesc 1 (mkStamp 1 0), msg := msg }
def txRun (g : FhEgress) (ns free : Nat) : State :=
  (({ cellUp 2 with curds := [txCurd], orders := [ord3], tm := { live.tm with ns := ns } }.setFld Fld.FH_C_DLU_MAX 511 1000).setPort 15
    { job := [g], freeNs := free }).caveWrite 0x40002000 ([0, 0] ++ leBytes 2 5 ++ zeros 2 ++ leBytes 2 1 ++ [0, 1] ++ zeros 22)

/-- When the next frame of job `g` departs and ends, when its window closes, the length of the frame, and its air time: the
expressions of the obligation. -/
def txTimes (s : State) (g : FhEgress) : Int × Int × Int × Nat × Nat :=
  let m := s.nextMsg g
  let w := s.txWindow m (u32 g.desc 4)
  let mu := s.fld Fld.FH_C_CFG_MU (s.axcCar m.axc)
  let seq := Sparse.get 0 (s.port 15).txSeq (s.fld Fld.FH_AXC_EAXC ((s.axcEntry m.axc).getD 0))
  let n := max 60 ((s.txEth 15 (s.axcCar m.axc)).length + 4 + (s.txPayload 15 g m seq).1.length)
  let dep := max (s.frameRelease 15 g) (384 * s.tm.ns : Nat)
  (dep, dep + ((wireLen n (s.secOn 15) * 8 * 384 / s.fhGbps 15 : Nat) : Int), w.2, n,
    (s.airUnits mu (s.airSlot mu (u32 g.desc 4)) m.sym / 384).toNat)

/-- The next frame of the port is of the job `g`, and the port is UP; no transmit granules return. -/
abbrev txNext (s : State) (g : FhEgress) : Prop :=
  s.egressNext 15 = some (g, txCurd) ∧ s.fhState 15 = 2 ∧ (s.bad = [] ∧ s.merges = [] ∧ s.fld Fld.ECC_FLIP_CFG_ARM = 0) ∧ s.txReturn 15 = s

/-- What the clauses about a frame on time add. -/
abbrev txOnTime (s : State) (g : FhEgress) : Prop :=
  s.msgOk 15 g (s.nextMsg g) = true ∧ (txTimes s g).1 ≤ ((384 * (s.tm.ns + 153) : Nat) : Int) ∧ (txTimes s g).2.1 ≤ (txTimes s g).2.2.1

theorem test_wit_FronthaulFrames_out :
    (∃ s : State, (s.txReturn 15).egressNext 15 = none) ∧ (∃ s : State, s.fhState 15 ≠ 2)
    ∧ (∃ s : State, txNext s (txJob 0) ∧ s.msgOk 15 (txJob 0) (s.nextMsg (txJob 0)) = false)
    ∧ (∃ s : State, txNext s (txJob 0) ∧ s.msgOk 15 (txJob 0) (s.nextMsg (txJob 0)) = true
      ∧ ((384 * (s.tm.ns + 153) : Nat) : Int) < (txTimes s (txJob 0)).1)
    ∧ (∃ s : State, txNext s (txJob 0) ∧ s.msgOk 15 (txJob 0) (s.nextMsg (txJob 0)) = true
      ∧ (txTimes s (txJob 0)).1 ≤ ((384 * (s.tm.ns + 153) : Nat) : Int) ∧ (txTimes s (txJob 0)).2.2.1 < (txTimes s (txJob 0)).2.1)
    ∧ (∃ s : State, txNext s (txJob 0) ∧ txOnTime s (txJob 0)
      ∧ s.gateHolds (s.nextMsg (txJob 0)).axc (txTimes s (txJob 0)).2.2.2.2 = some 31)
    ∧ (∀ b : Bool, ∃ s : State, txNext s (txJob 0) ∧ txOnTime s (txJob 0)
      ∧ s.gateHolds (s.nextMsg (txJob 0)).axc (txTimes s (txJob 0)).2.2.2.2 = none
      ∧ s.canBuild 15 (txTimes s (txJob 0)).2.2.2.1 (s.secOn 15) = b)
    ∧ (∃ s : State, (s.egressJobs 15).find? (fun x => !egressDescOk x.1.desc || x.1.down || x.1.done) = none)
    ∧ (∃ s : State, (s.egressJobs 15).find? (fun x => !egressDescOk x.1.desc || x.1.down || x.1.done) = some (txJob 1, txCurd)
      ∧ (s.bad = [] ∧ s.merges = [] ∧ s.fld Fld.ECC_FLIP_CFG_ARM = 0)) := by
  let gate : State := ((txRun (txJob 0) 999840 999993).setFld Fld.SE_G_CFG_EN 31 1).setFld Fld.SE_G_CFG_N_AXC 31 6
  refine ⟨⟨live, ?_⟩, ⟨live, ?_⟩, ⟨(txRun (txJob 0) 0 0).setFld Fld.FH_AXC_VALID 2047 0, ?_⟩, ⟨txRun (txJob 0) 983846 0, ?_⟩,
    ⟨txRun (txJob 0) 1000000 999994, ?_⟩, ⟨gate, ?_⟩,
    fun b => ⟨(txRun (txJob 0) 999840 999993).setFld Fld.FH_GRAN_TX_FREE 15 (b2n b), ?_⟩, ⟨live, ?_⟩, ⟨txRun (txJob 1) 0 0, ?_⟩⟩
  all_goals first | decide +kernel | (revert b; decide +kernel)

/-- Queue 300 is FH_OUTQ of port 15 and holds one descriptor of `n` bytes at 0x40005000, with FLAGS `k`. -/
def outQ (n k : Nat) : State :=
  ((((withQ 300 5 0 1 (fhIn 2)).setReg .Q_TAIL 300 1).setFld Fld.FH_OUTQ_ENABLE 15 1).setFld Fld.FH_OUTQ_QUEUE 15 300).caveWrite
    ((withQ 300 5 0 1 (fhIn 2)).slotAddr 300 0) (leBytes 8 0x40005000 ++ leBytes 4 n ++ zeros 9 ++ leBytes 1 k ++ zeros 10)

/-- FH_OUTQ of port 15 holds a frame, and the form of its descriptor is right, or not. -/
abbrev outAt (s : State) (ok : Bool) : Prop :=
  let q := s.fld Fld.FH_OUTQ_QUEUE 15
  ¬(s.fld Fld.FH_OUTQ_ENABLE 15 = 0 ∨ s.fhState 15 ≠ 2 ∨ s.qState q = 0 ∨ s.qOcc q = 0) ∧ s.txReturn 15 = s
    ∧ ptrOk (readBytes s.cave (s.slotAddr q (s.reg .Q_HEAD q)) 32) = ok

theorem test_wit_FronthaulFrames_host :
    (∃ s : State, s.fld Fld.FH_OUTQ_ENABLE 15 = 0) ∧ (∃ s : State, outAt s false)
    ∧ (∃ s : State, outAt s true ∧ s.egressNext 15 = none ∧ s.canBuild 15 64 (s.secOn 15) = true
      ∧ u32 (readBytes s.cave (s.slotAddr 300 0) 32) 8 = 64)
    ∧ ∃ s : State, outAt s true ∧ s.egressNext 15 = none ∧ s.canBuild 15 64 (s.secOn 15) = false
      ∧ u32 (readBytes s.cave (s.slotAddr 300 0) 32) 8 = 64 := by
  refine ⟨⟨live, ?_⟩, ⟨outQ 64 4, ?_⟩, ⟨outQ 64 1, ?_⟩, ⟨(outQ 64 1).setFld Fld.FH_GRAN_TX_FREE 15 0, ?_⟩⟩ <;> decide +kernel

/-! ### Fabric links -/

/-- This module has number 1,022; its link 11 is in state `st`, with record `x`. -/
def onFab (st : Nat) (x : FlLink) : State :=
  (((live.setFld Fld.FL_STAT_STATE 11 st).setFld Fld.FAB_MODNUM_VALID 0 1).setFld Fld.FAB_MODNUM_NUMBER 0 1022).setFl 11 x

/-- A frame of kind `k` on virtual lane `v` from module 3 to module `d`, with payload `p`, the first of its link, under the link's
first key. -/
def frm (k v d : Nat) (p : List Byte) : FabFrame :=
  ⟨({ kind := k, vl := v, dst := d, src := 3, ttl := 1, payload := p } : TxFrame).header false 0 0 ++ p, [], 0⟩

/-- `s` at ns `n`. -/
def atNs (n : Nat) (s : State) : State := { s with tm := { s.tm with ns := n } }

/-- A module without a deployment credential refuses every HELLO (R309). -/
theorem no_credential_no_hello (s : State) (p : List Byte) (h : s.kp.cred = []) : s.helloFail p ≠ 0 := by
  unfold State.helloFail
  simp only [h, true_or, if_true]
  split <;> simp

/-- Link 11 is lost: 1 us without alignment, or 10 us of silence. -/
abbrev lost11 (s : State) : Prop :=
  (flLanes 11).any (fun i => match (s.lane i).lostNs with | some t => t + 1000 ≤ s.tm.ns | none => false) = true
    ∨ (s.fl 11).lastRx + 10000 ≤ s.tm.ns

/-- Whether certificates and signatures hold is a free value: the clause about a HELLO that passes is the other value of the one
about a HELLO that fails, which a module without a deployment credential shows. -/
theorem test_wit_FabricLinks :
    (∃ s : State, Reach s .steward ∧ s.flState 11 = 0)
    ∧ (∃ s : State, Reach s .steward ∧ s.flState 11 ≠ 0 ∧ s.fab.disAt.any (fun x => x.1 == 11) = true)
    ∧ (∀ b : Bool, ∃ s : State, Reach s .steward ∧ s.flState 11 ≠ 0 ∧ s.fab.disAt.any (fun x => x.1 == 11) = false
      ∧ s.noReservation (fun x => x.pool == 0xF && x.index == 11) = b)
    ∧ (∀ b : Bool, ∃ s : State, Reach s .steward ∧ s.flState 11 = 4 ∧ (s.fl 11).rekeying = b)
    ∧ (∃ s : State, s.flState 11 = 1 ∧ (flLanes 11).all s.laneUp = true ∧ bitAt (s.reg .POWER_PADS) 8 = false)
    ∧ (∃ s : State, s.flState 11 = 1 ∧ (flLanes 11).all s.laneUp = false)
    ∧ (∃ s : State, s.flState 11 = 1 ∧ bitAt (s.reg .POWER_PADS) 8 = true)
    ∧ (∃ (s : State) (p : List Byte), s.flState 11 = 2 ∧ helloForm p = false)
    ∧ (∃ (s : State) (p : List Byte), s.flState 11 = 2 ∧ helloForm p = true ∧ s.helloFail p ≠ 0)
    ∧ (∃ s : State, s.flState 11 = 4 ∧ (s.fl 11).lastRx + 10000 ≤ s.tm.ns)
    ∧ (∃ s : State, s.flState 11 = 2
      ∧ (flLanes 11).any (fun i => match (s.lane i).lostNs with | some t => t + 1000 ≤ s.tm.ns | none => false) = true)
    ∧ (∃ s : State, s.flState 11 = 4 ∧ ¬lost11 s) ∧ (∃ s : State, s.flState 11 < 2) ∧ ∃ s : State, 4 < s.flState 11 := by
  refine ⟨⟨live, reach_steward _, ?_⟩, ⟨{ onFab 4 {} with fab := { (onFab 4 {}).fab with disAt := [(11, 5, false)] } }, reach_steward _, ?_⟩,
    fun b => ⟨{ onFab 4 {} with cal := if b then [] else resCol 0xF 11 }, reach_steward _, ?_⟩,
    fun b => ⟨onFab 4 { rekeying := b }, reach_steward _, ?_⟩, ⟨onFab 1 {}, ?_⟩,
    ⟨(onFab 1 {}).setFld Fld.LN_STAT_PWR_STATE 127 3, ?_⟩, ⟨(onFab 1 {}).setReg .POWER_PADS 0 0x100, ?_⟩, ⟨onFab 2 {}, zeros 291, ?_⟩,
    ⟨onFab 2 {}, zeros 292, ?_, ?_, no_credential_no_hello _ _ rfl⟩, ⟨atNs 10000 (onFab 4 {}), ?_⟩,
    ⟨atNs 1000 ((onFab 2 {}).setLane 127 { lostNs := some 0 }), ?_⟩, ⟨atNs 9999 ((onFab 4 {}).setLane 127 { lostNs := some 9000 }), ?_⟩,
    ⟨onFab 1 {}, ?_⟩, ⟨onFab 5 {}, ?_⟩⟩
  all_goals first | decide +kernel | (revert b; decide +kernel)

/-- Frame `f` is the next on link 11, under a key of the link, with or without credits. -/
abbrev next11 (s : State) (f : FabFrame) (paid : Bool) : Prop :=
  (fabHdr f.bytes).lseq = ((s.ackFull 11).fl 11).rxSeq ∧ ((s.ackFull 11).fl 11).openKey (fabHdr f.bytes) = some f.sealedBy
    ∧ decide (frameCost (fabHdr f.bytes).len ≤ natAt ((s.ackFull 11).fl 11).rxFree (fabHdr f.bytes).vl) = paid

theorem test_wit_FabricFrames_checks :
    (∃ s : State, s.flSealed 11 = false)
    ∧ (∃ (s : State) (f : FabFrame), s.flSealed 11 = true ∧ (fabHdr f.bytes).lseq ≠ ((s.ackFull 11).fl 11).rxSeq)
    ∧ (∃ (s : State) (f : FabFrame), s.flSealed 11 = true ∧ ((s.ackFull 11).fl 11).openKey (fabHdr f.bytes) ≠ some f.sealedBy)
    ∧ (∃ (s : State) (f : FabFrame), s.flSealed 11 = true ∧ next11 s f false)
    ∧ (∃ (s : State) (f : FabFrame), s.flState 11 = 4 ∧ next11 s f true ∧ hdrOk f.bytes = false)
    ∧ (∃ (s : State) (f : FabFrame), s.flState 11 = 4 ∧ next11 s f true ∧ hdrOk f.bytes = true ∧ (fabHdr f.bytes).vl = 1
      ∧ s.fld Fld.FL_POLICE_VL1_RATE 11 ≠ 0
      ∧ s.fld Fld.FL_POLICE_VL1_RATE 11 * 3125 < 2 * (((s.ackFull 11).fl 11).vl1 + 48 + (fabHdr f.bytes).len))
    ∧ (∀ b : Bool, ∃ (s : State) (f : FabFrame), s.flState 11 = 3 ∧ next11 s f true ∧ ((s.ackFull 11).fl 11).sealedTx = b)
    ∧ ∃ (s : State) (f : FabFrame), Accepts s 11 f ∧ (s.fl 11).unacked = 64 := by
  let f := frm 5 2 1021 (zeros 8)
  refine ⟨⟨live, ?_⟩, ⟨onFab 4 { rxSeq := 1 }, f, ?_⟩, ⟨onFab 4 {}, { f with sealedBy := [1] }, ?_⟩, ⟨onFab 3 { rxFree := [0, 0, 0, 0] }, f, ?_⟩,
    ⟨onFab 4 {}, frm 9 2 0 [], ?_⟩, ⟨(onFab 4 { vl1 := 1507 }).setFld Fld.FL_POLICE_VL1_RATE 11 1, frm 4 1 1021 (zeros 8), ?_⟩,
    fun b => ⟨onFab 3 { sealedTx := b }, frm 0x12 3 0 [], ?_⟩, ⟨onFab 4 { unacked := 64 }, f, ?_⟩⟩
  all_goals first | (unfold Accepts; decide +kernel) | decide +kernel | (revert b; decide +kernel)

theorem test_wit_FabricFrames_forward :
    (∃ (s : State) (f : FabFrame), Accepts s 11 f ∧ routedKind (fabHdr f.bytes).kind = false)
    ∧ (∃ (s : State) (f : FabFrame), Accepts s 11 f ∧ s.modNum = some (fabHdr f.bytes).dst)
    ∧ (∀ k ∈ [2, 5], ∃ (s : State) (f : FabFrame), let h := fabHdr f.bytes
      Accepts s 11 f ∧ routedKind h.kind = true ∧ s.modNum ≠ some h.dst ∧ s.genLive h.gen = false ∧ h.kind = k ∧ s.pickRoute h.src 0 = some (11, 0))
    ∧ (∃ (s : State) (f : FabFrame), let h := fabHdr f.bytes
      Accepts s 11 f ∧ routedKind h.kind = true ∧ s.modNum ≠ some h.dst ∧ s.genLive h.gen = true ∧ h.ttl = 0)
    ∧ (∃ (s : State) (f : FabFrame), let h := fabHdr f.bytes; Accepts s 11 f ∧ routedKind h.kind = true ∧ s.modNum ≠ some h.dst
      ∧ s.genLive h.gen = true ∧ h.ttl ≠ 0 ∧ 12 ≤ s.routeLink h.gen h.dst h.ridx h.dph)
    ∧ (∀ b : Bool, ∃ (s : State) (f : FabFrame), let h := fabHdr f.bytes; Accepts s 11 f ∧ routedKind h.kind = true ∧ s.modNum ≠ some h.dst
      ∧ s.genLive h.gen = true ∧ h.ttl ≠ 0 ∧ s.routeLink h.gen h.dst h.ridx h.dph < 12
      ∧ (s.flState (s.routeLink h.gen h.dst h.ridx h.dph) == 4) = b) := by
  let f := frm 5 2 1021 (zeros 8)
  let zero := f.bytes.set 6 0
  refine ⟨⟨onFab 4 {}, frm 0x12 3 0 [], ?_⟩, ⟨onFab 4 {}, frm 5 2 1022 [], ?_⟩,
    fun k h => ⟨((onFab 4 {}).setFld Fld.FAB_GEN_ACTIVE 0 1).setReg .ROUTE 1027 0xB, frm k (if k = 2 then 1 else 2) 1021 (zeros 8), ?_⟩,
    ⟨onFab 4 {}, ⟨zero, [], 0⟩, ?_⟩, ⟨onFab 4 {} |>.setReg .ROUTE 1021 0xF, f, ?_⟩,
    fun b => ⟨onFab 4 {} |>.setReg .ROUTE 1021 (0xA + b2n b), f, ?_⟩⟩
  all_goals first | (unfold Accepts; decide +kernel) | (revert k; unfold Accepts; decide +kernel) | (revert b; unfold Accepts; decide +kernel)

/-- Whether the signature of a REKEY frame holds is a free value: where its serial number is the peer's, the clauses about a REKEY
that fails and about one that passes cover its two values. -/
theorem test_wit_LinkUpkeep :
    (∃ s : State, s.flSealed 11 = false) ∧ (∃ s : State, s.flState 11 = 4 ∧ (s.fl 11).held ≠ [])
    ∧ (∃ s : State, s.flState 11 = 3 ∧ (∃ h ∈ (s.fl 11).held, h.lseq ≤ 0) ∧ (s.fl 11).sealedRx = true)
    ∧ (∃ s : State, s.flSealed 11 = true ∧ (s.fl 11).held.any (fun h => h.lseq == 7) = false ∧ (s.fl 11).unacked = 0 ∧ (s.fl 11).txQ = [])
    ∧ (∀ b : Bool, ∃ s : State, s.flSealed 11 = true ∧ (s.fl 11).held.any (fun h => h.lseq == 7) = true
      ∧ ((s.fl 11).held.map (fun h => if 7 ≤ h.lseq then { h with resent := h.resent + 1 } else h)).any (fun h => h.resent == 3) = b)
    ∧ (∃ s : State, s.flSealed 11 = true ∧ (s.fl 11).unacked ≠ 0)
    ∧ (∃ (s : State) (f : FabFrame), let p := f.bytes.drop 32; Accepts s 11 f ∧ (fabHdr f.bytes).kind = 0x11
      ∧ ¬(helloForm p = true ∧ u16 p 192 = 0 ∧ u16 p 194 = 0))
    ∧ (∃ (s : State) (f : FabFrame), let p := f.bytes.drop 32; Accepts s 11 f ∧ (fabHdr f.bytes).kind = 0x11
      ∧ (helloForm p = true ∧ u16 p 192 = 0 ∧ u16 p 194 = 0) ∧ s.rekeyFail 11 p ≠ 0)
    ∧ (∃ (s : State) (f : FabFrame), let p := f.bytes.drop 32; Accepts s 11 f ∧ (fabHdr f.bytes).kind = 0x11
      ∧ (helloForm p = true ∧ u16 p 192 = 0 ∧ u16 p 194 = 0) ∧ u64 p 0 = s.reg2 .FL_PEER_SERIAL_LO .FL_PEER_SERIAL_HI 11
      ∧ s.fld Fld.FL_PEER_VALID 11 = 1 ∧ u16 p 16 ≠ s.fld Fld.FL_PEER_NUMBER 11 + 2 ^ 15)
    ∧ (∀ k ∈ [(false, false), (true, false), (true, true)], ∃ (s : State) (f : FabFrame), let p := f.bytes.drop 32
      Accepts s 11 f ∧ (fabHdr f.bytes).kind = 0x11 ∧ (helloForm p = true ∧ u16 p 192 = 0 ∧ u16 p 194 = 0)
      ∧ u64 p 0 = s.reg2 .FL_PEER_SERIAL_LO .FL_PEER_SERIAL_HI 11
      ∧ ¬(s.fld Fld.FL_PEER_VALID 11 = 1 ∧ u16 p 16 ≠ s.fld Fld.FL_PEER_NUMBER 11 + 2 ^ 15) ∧ (s.fl 11).rekeying = k.1
      ∧ (s.fl 11).txQ.any (fun g => g.kind == 0x11) = k.2)
    ∧ (∃ (s : State) (f : FabFrame), Accepts s 11 f ∧ (fabHdr f.bytes).kind = 0x13 ∧ s.parentLink = some 11 ∧ (s.fl 11).timeRx = some 5000
      ∧ (s.fl 11).sentAt ≠ 0 ∧ u64 (f.bytes.drop 32) 12 * 2 ^ 32 + u32 (f.bytes.drop 32) 20 ≠ 0
      ∧ u64 (f.bytes.drop 32) 0 * 2 ^ 32 + u32 (f.bytes.drop 32) 8 ≠ 0)
    ∧ ∃ s : State, s.upLinks = [11] := by
  let h : HeldFrame := { lseq := 7, vl := 3, cost := 1, bytes := zeros 32 }
  let q : TxFrame := { kind := 0x11, vl := 3, dst := 0, src := 0, payload := [] }
  let g := frm 0x11 3 0 (zeros 292)
  let time : State := { (onFab 4 { sentAt := 1, timeRx := some 5000 }).setReg .ROUTE 3 0xB with fab :=
    { (onFab 4 { sentAt := 1, timeRx := some 5000 }).fab with timeSrc := some 3 } }
  refine ⟨⟨live, ?_⟩, ⟨onFab 4 { held := [h] }, ?_⟩, ⟨onFab 3 { held := [{ h with lseq := 0 }], sealedRx := true }, ?_⟩, ⟨onFab 4 {}, ?_⟩,
    fun b => ⟨onFab 4 { held := [{ h with resent := if b then 2 else 1 }] }, ?_⟩, ⟨onFab 3 { unacked := 1, rxSeq := 1 }, ?_⟩,
    ⟨onFab 4 {}, frm 0x11 3 0 [], ?_⟩, ⟨(onFab 4 {}).setReg .FL_PEER_SERIAL_LO 11 1, g, ?_⟩, ⟨(onFab 4 {}).setFld Fld.FL_PEER_VALID 11 1, g, ?_⟩,
    fun k h => ⟨onFab 4 { rekeying := k.1, txQ := if k.2 then [q] else [] }, g, ?_⟩,
    ⟨time, frm 0x13 3 0 (leBytes 8 0 ++ leBytes 4 2 ++ leBytes 8 0 ++ leBytes 4 1), ?_⟩, ⟨onFab 4 {}, ?_⟩⟩
  all_goals first | (unfold Accepts; decide +kernel) | decide +kernel | (revert b; decide +kernel) | (revert k; unfold Accepts; decide +kernel)

/-! ### Fabric membership, jobs and leases -/

/-- `onFab` with the coordinator known as module 3 behind link 11, where it is itself a peer, the grid at absolute grain `g`. -/
def member (g : Nat) : State :=
  runAt g ((((onFab 4 {}).setFld Fld.FAB_COORD_NUMBER 0 3).setFld Fld.FAB_COORD_VALID 0 1).setReg .ROUTE 3 0xB)

/-- This module as coordinator. -/
def coord (g : Nat) : State := runAt g ((onFab 4 {}).setFld Fld.FAB_MODNUM_COORD 0 1)

/-- Module 3 behind link 11 has a number; the coordinator is not known. -/
def orphan (v : Nat) : State := (onFab 4 {}).setFld Fld.FL_PEER_VALID 11 v

/-- A topology change is pending at the coordinator. -/
def changing : State := { coord (1151 * 1024) with fab := { (coord 0).fab with changed := true } }

/-- A load for the next epoch, 63, is held. -/
def loaded : State := { member 0 with fab := { (member 0).fab with loadEpoch := some 63 } }

/-- How a report travels from a module that is not the coordinator. -/
def wayOf (s : State) : Option Nat :=
  if s.modNum.isSome = true ∧ s.fld Fld.FAB_COORD_VALID = 1 ∧ (s.pickRoute (s.fld Fld.FAB_COORD_NUMBER) 0).isSome = true then
    (s.pickRoute (s.fld Fld.FAB_COORD_NUMBER) 0).map Prod.fst else s.numberedPeer

theorem test_wit_FabricMembership_reports :
    (∃ (s : State) (f : FabFrame), Accepts s 11 f ∧ (fabHdr f.bytes).kind = 0x12)
    ∧ (∃ s : State, s.gridRun = true ∧ s.grain = 0 ∧ s.beat % 80 = 0 ∧ s.bestCand.1 = s.kp.serial ∧ s.fab.stable + 1 = 8)
    ∧ (∀ b : Bool, ∃ s : State, s.gridRun = true ∧ s.grain = 0 ∧ s.beat % 80 = 0 ∧ s.bestCand.1 = s.kp.serial ∧ s.fab.stable + 1 = 7 ∧ s.isCoord = b)
    ∧ (∃ s : State, s.gridRun = true ∧ s.grain = 1 ∧ s.beat % 80 = 0)
    ∧ (∃ s : State, s.gridRun = true ∧ s.fab.reported ≠ some s.tm.epochCount ∧ s.isCoord = true)
    ∧ (∃ s : State, s.gridRun = true ∧ s.fab.dirty ≠ none ∧ s.isCoord = false ∧ s.modNum.isSome = true ∧ wayOf s = some 11)
    ∧ (∃ s : State, ¬(s.gridRun = true ∧ (s.fab.dirty ≠ none ∨ s.fab.reported ≠ some s.tm.epochCount)))
    ∧ (∃ (s : State) (f : FabFrame), ForUs s 11 6 f ∧ s.isCoord = true)
    ∧ (∀ v < 2, ∃ (s : State) (f : FabFrame), ForUs s 11 6 f ∧ s.isCoord = false ∧ wayOf s = if v = 1 then some 11 else none) := by
  let tick (n : Nat) (s : State) : State := { s with fab := { s.fab with stable := n } }
  refine ⟨⟨onFab 4 {}, frm 0x12 3 0 [], ?_⟩, ⟨tick 7 (coord (80 * 1024)), ?_⟩, fun b => ⟨tick 6 (if b then coord 0 else member 0), ?_⟩, ⟨coord 1, ?_⟩,
    ⟨coord 0, ?_⟩, ⟨{ member 0 with fab := { (member 0).fab with dirty := some 5, reported := some 0 } }, ?_⟩, ⟨live, ?_⟩,
    ⟨coord 0, frm 6 1 1022 [], ?_⟩, fun v h => ⟨orphan v, frm 6 1 1022 [], ?_⟩⟩
  all_goals first
    | decide +kernel
    | (unfold Accepts; decide +kernel)
    | (unfold ForUs Accepts; decide +kernel)
    | (revert b; decide +kernel)
    | (revert v; unfold ForUs Accepts; decide +kernel)

theorem test_wit_FabricMembership_routes :
    (∃ s : State, s.isCoord = false)
    ∧ (∃ s : State, ¬(s.isCoord = false ∨ s.fab.changed = false ∨ s.fab.computed = some s.tm.epochCount ∨ s.fab.change ≠ none
        ∨ s.fld Fld.FAB_GEN_OVERLAP = 1 ∨ s.epochLate = true ∨ s.gridRun = false)
      ∧ numOf (assignNums (sortReps (s.ownReport :: s.fab.reports.filter (fun r => r.serial != s.kp.serial && s.tm.epochCount < r.seen + 64))))
          s.kp.serial ≠ none)
    ∧ (∃ (s : State) (f : FabFrame), ForUs s 11 7 f ∧ s.trusted (fabHdr f.bytes).src = false)
    ∧ (∀ v < 2, ∃ (s : State) (f : FabFrame), ForUs s 11 7 f ∧ s.trusted (fabHdr f.bytes).src = true ∧ s.pickRoute (fabHdr f.bytes).src 0 = some (11, 0)
      ∧ decide (1152 < s.beat % 1280) = decide (v = 0) ∧ s.fld Fld.FAB_GEN_OVERLAP = v)
    ∧ (∃ (s : State) (f : FabFrame) (w : RouteRows), ForUs s 11 7 f ∧ s.trusted (fabHdr f.bytes).src = true ∧ s.beat % 1280 ≤ 1152
      ∧ s.fld Fld.FAB_GEN_OVERLAP ≠ 1 ∧ (w.routes.map Prod.fst).Nodup ∧ (1023, 2 ^ 32 - 1) ∈ w.routes)
    ∧ (∃ (s : State) (f : FabFrame), s.modNum = none ∧ Accepts s 11 f ∧ (fabHdr f.bytes).kind = 7 ∧ s.trusted (fabHdr f.bytes).src = true)
    ∧ (∀ e ∈ [62, 63], ∃ (s : State) (f : FabFrame), ForUs s 11 8 f ∧ (s.fab.loadEpoch = some (u32 f.bytes 32) ↔ e = 63))
    ∧ (∃ (s : State) (f : FabFrame), s.modNum = none ∧ Accepts s 11 f ∧ (fabHdr f.bytes).kind = 8) := by
  let f := frm 7 1 1022 []
  let new : State := ((member 0).setFld Fld.FAB_MODNUM_VALID 0 0)
  refine ⟨⟨member 0, ?_⟩, ⟨changing, ?_⟩, ⟨onFab 4 {}, f, ?_⟩,
    fun v h => ⟨(member ((1153 - v) * 1024)).setFld Fld.FAB_GEN_OVERLAP 0 v, f, ?_⟩,
    ⟨member (1152 * 1024), f, { routes := [(1023, 2 ^ 32 - 1), (0, 0)], windows := [] }, ?_⟩, ⟨new, f, ?_⟩,
    fun e h => ⟨loaded, frm 8 1 1022 (leBytes 4 e), ?_⟩, ⟨new, frm 8 1 1022 [], ?_⟩⟩
  all_goals first
    | decide +kernel
    | (unfold Accepts; decide +kernel)
    | (unfold ForUs Accepts; decide +kernel)
    | (revert v; unfold ForUs Accepts; decide +kernel)
    | (revert e; unfold ForUs Accepts; decide +kernel)

theorem test_wit_FabricMembership_queries :
    (∃ s : State, s.fld Fld.STEWARD_STAT_STATE ≠ 1)
    ∧ (∃ (s : State) (c : CmdCtx), s.fld Fld.STEWARD_STAT_STATE = 1 ∧ s.stewardTurn c = false)
    ∧ (∃ (s : State) (c : CmdCtx), TakesNow s c ∧ c.payload.length = 0) ∧ (∃ (s : State) (c : CmdCtx), TakesNow s c ∧ c.payload.length = 5)
    ∧ (∃ (s : State) (c : CmdCtx), TakesNow s c ∧ c.payload.length = 4 ∧ u16 c.payload 0 = 1024)
    ∧ (∃ (s : State) (c : CmdCtx), TakesNow s c ∧ c.payload.length = 4 ∧ u16 c.payload 0 = 1023 ∧ u16 c.payload 2 = 0)
    ∧ (∃ (s : State) (c : CmdCtx), TakesNow s c ∧ c.payload.length = 4 ∧ u16 c.payload 2 = 1025)
    ∧ (∃ (s : State) (c : CmdCtx), TakesNow s c ∧ c.payload.length = 4 ∧ u16 c.payload 0 = 1023 ∧ u16 c.payload 2 = 1024 ∧ s.isCoord = true)
    ∧ (∃ (s : State) (c : CmdCtx), TakesNow s c ∧ c.payload.length = 4 ∧ u16 c.payload 0 = 1023 ∧ u16 c.payload 2 = 1024 ∧ s.isCoord = false
      ∧ s.fld Fld.FAB_COORD_VALID ≠ 1)
    ∧ ∃ (s : State) (c : CmdCtx), TakesNow s c ∧ c.payload.length = 4 ∧ u16 c.payload 0 = 1023 ∧ u16 c.payload 2 = 1024 ∧ s.isCoord = false
      ∧ s.fld Fld.FAB_COORD_VALID = 1 ∧ s.pickRoute (s.fld Fld.FAB_COORD_NUMBER) 0 = some (11, 0) := by
  let c := cmd 0x1420 (leBytes 2 1023 ++ leBytes 2 1024)
  refine ⟨⟨State.reset, ?_⟩, ⟨{ live with mg := { live.mg with fetched := [cmd 0x1420 [], c] } }, c, ?_⟩, ⟨live, cmd 0x1421 [], takes _ _ ?_, ?_⟩,
    ⟨live, cmd 0x1422 (zeros 5), takes _ _ ?_, ?_⟩, ⟨live, cmd 0x1422 [0, 4, 0, 0], takes _ _ ?_, ?_⟩,
    ⟨live, cmd 0x1422 [255, 3, 0, 0], takes _ _ ?_, ?_⟩, ⟨live, cmd 0x1420 [0, 0, 1, 4], takes _ _ ?_, ?_⟩, ⟨coord 0, c, takes _ _ ?_, ?_⟩,
    ⟨onFab 4 {}, c, takes _ _ ?_, ?_⟩, ⟨member 0, c, takes _ _ ?_, ?_⟩⟩ <;> decide +kernel

/-- A chunk of stream tag `tag` of module 3, from stream offset `off`. -/
def chunk (tag off : Nat) (last : Bool) (p : List Byte) : FabFrame :=
  ⟨({ kind := 1, vl := 1, dst := 1022, src := 3, ttl := 1, stag := tag, off := off, last := last, payload := p } : TxFrame).header false 0 0 ++ p, [], 0⟩

/-- The fabric input of an order for that stream: 4,096 bytes into the last block of the arena, of which `got` have come. -/
def strIn (got : List Nat) (closed : Bool) : InputSt :=
  { port := 15, kind := 3, ref := 3 + 0xFEFF * 2 ^ 16 + 64 * 2 ^ 32, len := 0, ready := 0, firstBeat := 1, closed := closed, got := got
    buf := (arenaLo + arenaN - 1) * 4096 }
def strOrd (got : List Nat) (closed : Bool) : Order := { ord3 with inputs := [strIn got closed] }
def streaming (got : List Nat) (closed : Bool) : State := { onFab 4 {} with orders := [strOrd got closed] }

/-- The last flow of the table, in a move from module 3 that is past its boundary. -/
def moving (x : FlowEntry) : State :=
  { onFab 4 {} with flows := [(5242879, x)], fab := { (onFab 4 {}).fab with moveIn := [⟨3, 1, 5242879, 1, true, 0⟩] } }

/-- Frame `f` belongs to the stream of input `i` of order `o`; it is wrong, or not. -/
abbrev streams (s : State) (f : FabFrame) (o : Order) (i : InputSt) (wrong : Bool) : Prop :=
  let h := fabHdr f.bytes
  let n := bits i.ref 47 32 * 64
  h.stag ≠ 0xFFFF ∧ s.fabInput h.src h.stag = some (o, i)
    ∧ decide (i.got.contains (h.off / 2048) = true ∨ n < h.off + h.len ∨ (h.len ≠ 2048 ∧ h.off / 2048 + 1 ≠ nChunks n)) = wrong

theorem test_wit_FabricJobs_streams :
    (∃ (s : State) (f : FabFrame), ForUs s 11 1 f ∧ (fabHdr f.bytes).stag ≠ 0xFFFF ∧ s.fabInput 3 (fabHdr f.bytes).stag = none)
    ∧ (∃ (s : State) (f : FabFrame) (o : Order) (i : InputSt), ForUs s 11 1 f ∧ streams s f o i true ∧ i.got.contains ((fabHdr f.bytes).off / 2048) = true)
    ∧ (∃ (s : State) (f : FabFrame) (o : Order) (i : InputSt), ForUs s 11 1 f ∧ streams s f o i true
      ∧ bits i.ref 47 32 * 64 < (fabHdr f.bytes).off + (fabHdr f.bytes).len)
    ∧ (∃ (s : State) (f : FabFrame) (o : Order) (i : InputSt), ForUs s 11 1 f ∧ streams s f o i true ∧ (fabHdr f.bytes).len = 2047)
    ∧ (∃ (s : State) (f : FabFrame) (o : Order) (i : InputSt), ForUs s 11 1 f ∧ streams s f o i false ∧ i.closed = true)
    ∧ (∃ (s : State) (f : FabFrame) (o : Order) (i : InputSt), let h := fabHdr f.bytes; ForUs s 11 1 f ∧ streams s f o i false
      ∧ i.closed = false ∧ (s.bad = [] ∧ s.merges = [] ∧ s.fld Fld.ECC_FLIP_CFG_ARM = 0) ∧ s.orderOf o.handle = some o ∧ o.input i.port = some i
      ∧ arenaLo * 4096 ≤ i.buf + h.off ∧ i.buf + h.off + 2048 = (arenaLo + arenaN) * 4096 ∧ s.curds = []
      ∧ s.owner ((i.buf + h.off) / 4096) = none)
    ∧ (∃ (s : State) (f : FabFrame), ForUs s 11 1 f ∧ (fabHdr f.bytes).stag = 0xFFFF ∧ s.fab.moveIn = [])
    ∧ (∀ b < 2, ∃ (s : State) (f : FabFrame), let h := fabHdr f.bytes; let x := s.flow 5242879; ForUs s 11 1 f ∧ h.stag = 0xFFFF
      ∧ s.fab.moveIn.any (fun m => m.live && m.peer == h.src && m.first ≤ 5242879 && 5242879 < m.first + m.n) = true
      ∧ x.sbState = b ∧ x.state = 1 ∧ h.off + h.len ≤ x.sbBlocks * 4096 ∧ h.last = true) := by
  let c := chunk 0xFEFF 2048 true (zeros 2048)
  let m := chunk 0xFFFF 2048 true (zeros 2048)
  refine ⟨⟨streaming [] false, chunk 7 0 false (zeros 64), ?_⟩, ⟨streaming [1] false, c, strOrd [1] false, strIn [1] false, ?_⟩,
    ⟨streaming [] false, chunk 0xFEFF 4096 true (zeros 1), strOrd [] false, strIn [] false, ?_⟩,
    ⟨streaming [] false, chunk 0xFEFF 0 false (zeros 2047), strOrd [] false, strIn [] false, ?_⟩,
    ⟨streaming [] true, c, strOrd [] true, strIn [] true, ?_⟩, ⟨streaming [0] false, c, strOrd [0] false, strIn [0] false, ?_⟩,
    ⟨streaming [] false, m, ?_⟩, fun b h => ⟨moving { state := 1, sbBlocks := 1, sbState := b }, m, ?_⟩⟩
  all_goals first | (unfold ForUs Accepts; decide +kernel) | (revert b; unfold ForUs Accepts; decide +kernel)

/-- A job of class `k` on link 11 that has told the fabric of itself and whose last frame leaves at ns `n`. -/
def fabCurd (k : Nat) : Curd := { curdOf k 0x40000040 with st := .running, exec := 480 }
def waiting (n : Nat) : RemoteJob := { curd := 0x40000040, lessor := 3, leftNs := n }
def fabJob (k n : Nat) : State :=
  { onFab 4 {} with curds := [fabCurd k], orders := [ord3], fab := { (onFab 4 {}).fab with jobs := [waiting n] } }

/-- Module 3 leases `n` CORE units of die 0 in slot 15 in epoch 1; the grid stands in grain `g` of beat 1,279. -/
def leased (n : Nat) : Grant := ⟨3, 15, ⟨1022, 0, 0, n, 0, 0, 1⟩⟩
def lessor (n g : Nat) : State :=
  { onFab 4 {} with
    regs := (runAt 0 (onFab 4 {})).regs, tm := { (onFab 4 {}).tm with absGrain := 1279 * 1024 + g }
    images := [(7, { state := 2, gen := 1, bytes := image1 0 })], fab := { (onFab 4 {}).fab with grants := [leased n] } }

/-- A REMOTE_RUN payload for task `k` of image handle `h`, one curd of budget 1. -/
def runPay (h k : Nat) : List Byte :=
  [0, 15] ++ leBytes 2 h ++ leBytes 2 k ++ leBytes 2 1 ++ leBytes 2 1 ++ leBytes 2 0xFEFF ++ zeros 4 ++ leBytes 4 64 ++ zeros 44

/-- What the clauses about a lessor's grant share: the payload names the grant and keeps its ranges. -/
abbrev grantOf (s : State) (p : List Byte) (g : Grant) : Prop :=
  s.fab.grants.find? (fun x => x.lessee == 3 && x.slot == u8 p 1 && x.lease.epoch == epochOf (beatAdd s.beat 1)) = some g
    ∧ p.length = 64 ∧ u8 p 0 = 0 ∧ remoteOk p = true ∧ u64 p 20 = 0

/-- The task of the payload may run, and fits the lease: the conditions of the obligation. -/
abbrev mayRun (s : State) (p : List Byte) (g : Grant) : Prop :=
  certified (remoteDec s g 7 p (beatAdd s.beat 1)) s.judgedStep = true ∧ u16 p 4 < imgNTask (s.image 7).bytes
abbrev fitsIn (s : State) (p : List Byte) (g : Grant) : Prop :=
  classPool (imgTaskAt (s.image 7).bytes (u16 p 4)).cls = some g.lease.pool
    ∧ s.leaseFits 3 (u8 p 1) (beatAdd s.beat 1) g.lease (remoteNeed (s.image 7).bytes p g.lease.die) = true

theorem test_wit_FabricJobs_run :
    (∃ s : State, s.curdAt 0x40000040 = none)
    ∧ (∀ n < 2, ∃ (s : State) (c : Curd), s.curdAt 0x40000040 = some c ∧ c.cls = 10 ∧ c.st = .running
      ∧ s.fab.jobs.any (fun j => j.curd == 0x40000040) = true ∧ s.jobSent c = decide (n = 0))
    ∧ (∃ (s : State) (f : FabFrame), ForUs s 11 4 f ∧ s.fab.grants = [])
    ∧ (∃ (s : State) (f : FabFrame) (g : Grant), ForUs s 11 4 f ∧ remoteOk (f.bytes.drop 32) = false
      ∧ s.fab.grants.find? (fun x => x.lessee == 3 && x.slot == u8 (f.bytes.drop 32) 1 && x.lease.epoch == epochOf (beatAdd s.beat 1)) = some g)
    ∧ (∃ (s : State) (f : FabFrame) (g : Grant), let p := f.bytes.drop 32; ForUs s 11 4 f ∧ grantOf s p g ∧ s.orderImage (u16 p 2) = none)
    ∧ (∃ (s : State) (f : FabFrame) (g : Grant), let p := f.bytes.drop 32
      ForUs s 11 4 f ∧ grantOf s p g ∧ s.orderImage (u16 p 2) = some 7 ∧ ¬mayRun s p g)
    ∧ (∃ (s : State) (f : FabFrame) (g : Grant), let p := f.bytes.drop 32
      ForUs s 11 4 f ∧ grantOf s p g ∧ s.orderImage (u16 p 2) = some 7 ∧ mayRun s p g ∧ ¬fitsIn s p g)
    ∧ (∀ n ∈ [1007, 1008], ∃ (s : State) (f : FabFrame) (g : Grant), let p := f.bytes.drop 32
      ForUs s 11 4 f ∧ grantOf s p g ∧ s.orderImage (u16 p 2) = some 7 ∧ mayRun s p g ∧ fitsIn s p g ∧ s.grain = n
        ∧ s.bad = [] ∧ s.merges = [] ∧ s.fld Fld.ECC_FLIP_CFG_ARM = 0) := by
  let q := quantumOf 1
  refine ⟨⟨live, ?_⟩, fun n h => ⟨fabJob 10 n, fabCurd 10, ?_⟩, ⟨onFab 4 {}, frm 4 1 1022 (runPay 0x107 0), ?_⟩,
    ⟨lessor 9 0, frm 4 1 1022 ((runPay 0x107 0).set 31 1), leased 9, ?_⟩, ⟨lessor 9 0, frm 4 1 1022 (runPay 0x106 0), leased 9, ?_⟩,
    ⟨lessor 9 0, frm 4 1 1022 (runPay 0x107 1), leased 9, ?_⟩, ⟨lessor (q - 1) 0, frm 4 1 1022 (runPay 0x107 0), leased (q - 1), ?_⟩,
    fun n h => ⟨lessor q n, frm 4 1 1022 (runPay 0x107 0), leased q, ?_⟩⟩
  all_goals first
    | decide +kernel
    | (unfold ForUs Accepts; decide +kernel)
    | (revert n; decide +kernel)
    | (revert n; unfold ForUs Accepts; decide +kernel)

/-- A remote order of module 3, with sentinel 16,383, without OUT bytes in other lengths than `n`. -/
def remOrd : Order := { ord3 with handle := 16383, promised := mkStamp 1 1012, remote := some ⟨3, 15, 0xFEFF, 0x40001000, 64, 1, [0, 0, 0]⟩ }

/-- A command that has gone to module 3, and what its REPLY says. -/
def asked (op : Nat) : Journal := ⟨cmd op (leBytes 2 3 ++ zeros 14), false⟩
def asking (op : Nat) : State :=
  { member 0 with mg := { (member 0).mg with journal := [asked op] }, fab := { (member 0).fab with asked := [((asked op).ctx, 15)] } }
def answer (op st : Nat) : FabFrame := frm 3 2 1022 (mkPacket 0 (op + 0x8000) 9 (leBytes 4 st ++ zeros 4))

theorem test_wit_FabricJobs_answers :
    (∃ (s : State) (f : FabFrame), ForUs s 11 5 f ∧ s.fab.jobs = [])
    ∧ (∀ k ∈ [(0, 0), (1, 0), (1, 1)], ∃ (s : State) (f : FabFrame), ForUs s 11 5 f ∧ s.fab.jobs.find? (fun j => j.lessor == 3 && !j.acked
        && (match s.curdAt j.curd with | some c => c.cls == 11 && c.st == .running | none => false)) = some (waiting k.2)
      ∧ s.curdAt 0x40000040 = some (fabCurd 11) ∧ u8 f.bytes 32 = k.1 ∧ s.jobSent (fabCurd 11) = decide (k.2 = 0))
    ∧ (∃ s : State, s.orderAt 16383 = none) ∧ (∃ s : State, s.orderAt 3 = some ord3)
    ∧ (∀ n ∈ [1000, 1001], ∃ s : State, s.orderAt 16383 = some remOrd ∧ s.gridRun = true ∧ s.beat = stampBeat remOrd.promised ∧ s.grain = n
      ∧ s.bad = [] ∧ s.merges = [] ∧ s.fld Fld.ECC_FLIP_CFG_ARM = 0)
    ∧ (∃ (s : State) (f : FabFrame), ForUs s 11 2 f ∧ pktMagicOk (f.bytes.drop 32) = false)
    ∧ (∃ (s : State) (f : FabFrame), let p := f.bytes.drop 32; ForUs s 11 2 f ∧ (pktMagicOk p && p.length == pktBytes p && pktCrcOk p
      && pktFlags p == 2 && (pktOpcode p == 0x1401 || pktOpcode p == 0x1420)) = true)
    ∧ (∃ (s : State) (f : FabFrame), ForUs s 11 3 f ∧ s.fab.change = none)
    ∧ (∃ (s : State) (f : FabFrame) (c : RouteChange), ForUs s 11 3 f ∧ s.fab.change = some c ∧ c.committed = true)
    ∧ (∀ x ∈ [[3], [3, 1023]], ∃ (s : State) (f : FabFrame) (c : RouteChange), ForUs s 11 3 f ∧ s.fab.change = some c ∧ c.committed = false
      ∧ c.acked = [] ∧ c.members = x ∧ (fabHdr f.bytes).src = 3)
    ∧ (∃ (s : State) (f : FabFrame), let p := f.bytes.drop 32; ForUs s 11 3 f ∧ (pktMagicOk p && p.length == pktBytes p && pktCrcOk p) = false)
    ∧ (∃ (s : State) (f : FabFrame), let p := f.bytes.drop 32; ForUs s 11 3 f ∧ (pktMagicOk p && p.length == pktBytes p && pktCrcOk p) = true
      ∧ s.mg.journal = [])
    ∧ (∀ k ∈ [(0x1401, 0), (0x1401, 0x24), (0x1420, 1), (0x1420, 0xFF)], ∃ (s : State) (f : FabFrame), let p := f.bytes.drop 32; ForUs s 11 3 f
      ∧ (pktMagicOk p && p.length == pktBytes p && pktCrcOk p) = true
      ∧ s.mg.journal.find? (fun j => j.ctx.tag == pktTag p && j.ctx.opcode + 32768 == pktOpcode p && !j.done
          && (match j.ctx.src with | .fabric _ => false | _ => true)) = some (asked k.1)
      ∧ s.fab.asked.find? (fun a => a.1 == (asked k.1).ctx) = some ((asked k.1).ctx, 15) ∧ u8 (pktPayload p) 0 = k.2 ∧ u16 (asked k.1).ctx.payload 0 = 3
      ∧ 15 < s.fab.leases.length ∧ statusListed k.2 = decide (k.2 ≠ 0xFF)) := by
  let change (c : Bool) (m : List Nat) : State := { onFab 4 {} with fab := { (onFab 4 {}).fab with change := some ⟨1, true, [], m, c, []⟩ } }
  refine ⟨⟨onFab 4 {}, frm 5 2 1022 [1], ?_⟩, fun k h => ⟨fabJob 11 k.2, frm 5 2 1022 [BitVec.ofNat 8 k.1], ?_⟩, ⟨live, ?_⟩, ⟨inFlight 0 [], ?_⟩,
    fun n h => ⟨{ runAt (1024 + n) (onFab 4 {}) with orders := [remOrd] }, ?_⟩, ⟨onFab 4 {}, frm 2 1 1022 (zeros 16), ?_⟩,
    ⟨onFab 4 {}, frm 2 1 1022 (mkPacket 2 0x1420 9 (zeros 4)), ?_⟩, ⟨onFab 4 {}, frm 3 2 1022 [], ?_⟩,
    ⟨change true [3], frm 3 2 1022 [], ⟨1, true, [], [3], true, []⟩, ?_⟩,
    fun x h => ⟨change false x, frm 3 2 1022 [], ⟨1, true, [], x, false, []⟩, ?_⟩, ⟨onFab 4 {}, frm 3 2 1022 (zeros 16), ?_⟩,
    ⟨onFab 4 {}, answer 0x1420 0, ?_⟩, fun k h => ⟨asking k.1, answer k.1 k.2, ?_⟩⟩
  all_goals first
    | decide +kernel
    | (unfold ForUs Accepts; decide +kernel)
    | (revert k; unfold ForUs Accepts; decide +kernel)
    | (revert n; decide +kernel)
    | (revert x; unfold ForUs Accepts; decide +kernel)

/-- A lease command of 16 payload bytes from module 3. -/
def leaseCmd (p : List Byte) : CmdCtx := { cmd 0x1401 p with src := .fabric 3 }
def leaseOf (p : List Byte) (e : Nat) : Lease := ⟨u16 p 0, u8 p 2, u8 p 3, u32 p 4, u32 p 8, u32 p 12, e⟩

/-- A column of epoch 1 with die 0 in service, the grid in beat `b` of epoch 0. -/
def granting (b : Nat) (g : List Grant) : State :=
  { runAt (b * 1024) (onFab 4 {}) with
    cal := [newColumn { tiles := 1, dies := 1 } 4 1280], fab := { (onFab 4 {}).fab with grants := g } }

/-- What the clauses about a grant share, and what a grant needs. -/
abbrev judges (s : State) (c : CmdCtx) : Prop := TakesNow s c ∧ c.src = .fabric 3 ∧ c.payload.length = 16
abbrev roomFor (s : State) (p : List Byte) : Prop :=
  ∀ x ∈ s.cal, epochOf x.beat = nextEpoch s.epoch → fits s.cal x.beat (leaseCosts (leaseOf p (nextEpoch s.epoch))) = true
abbrev fewLeases (s : State) : Prop := (s.fab.grants.filter (fun g => g.lease.epoch == nextEpoch s.epoch)).length < 16

theorem test_wit_LeasesAndMoves_leases :
    (∃ s : State, s.fld Fld.STEWARD_STAT_STATE ≠ 1)
    ∧ (∃ (s : State) (c : CmdCtx), s.fld Fld.STEWARD_STAT_STATE = 1 ∧ s.stewardTurn c = false)
    ∧ (∃ (s : State) (c : CmdCtx), TakesNow s c ∧ c.payload.length = 5 ∧ c.src = .fabric 3)
    ∧ (∃ (s : State) (c : CmdCtx), TakesNow s c ∧ c.payload.length = 16 ∧ leaseArgsOk c.payload = false)
    ∧ (∃ (s : State) (c : CmdCtx), TakesNow s c ∧ c.payload.length = 16 ∧ leaseArgsOk c.payload = true ∧ s.leaseFree = [])
    ∧ (∃ (s : State) (c : CmdCtx), TakesNow s c ∧ c.payload.length = 16 ∧ leaseArgsOk c.payload = true ∧ s.leaseFree ≠ []
      ∧ s.pickRoute (u16 c.payload 0) 0 = none)
    ∧ (∃ (s : State) (c : CmdCtx), TakesNow s c ∧ c.payload.length = 16 ∧ leaseArgsOk c.payload = true ∧ s.leaseFree ≠ []
      ∧ s.pickRoute (u16 c.payload 0) 0 = some (11, 0))
    ∧ (∃ (s : State) (c : CmdCtx), let p := c.payload
      TakesNow s c ∧ p.length = 4 ∧ u8 p 0 = 15 ∧ u32 p 0 / 256 = 0 ∧ s.fab.leases.getD (u8 p 0) none = none)
    ∧ (∃ (s : State) (c : CmdCtx), let p := c.payload
      TakesNow s c ∧ p.length = 4 ∧ u8 p 0 = 15 ∧ u32 p 0 / 256 = 0 ∧ (s.fab.leases.getD (u8 p 0) none).isSome = true)
    ∧ (∃ (s : State) (c : CmdCtx), TakesNow s c ∧ ∀ m, c.src ≠ .fabric m)
    ∧ (∃ (s : State) (c : CmdCtx), judges s c ∧ leaseArgsOk c.payload = false)
    ∧ (∃ (s : State) (c : CmdCtx), judges s c ∧ leaseArgsOk c.payload = true ∧ s.epochLate = true)
    ∧ (∃ (s : State) (c : CmdCtx), judges s c ∧ leaseArgsOk c.payload = true ∧ s.epochLate = false ∧ ¬fewLeases s)
    ∧ (∃ (s : State) (c : CmdCtx), judges s c ∧ leaseArgsOk c.payload = true ∧ s.epochLate = false ∧ fewLeases s ∧ ¬roomFor s c.payload)
    ∧ ∃ (s : State) (c : CmdCtx), judges s c ∧ leaseArgsOk c.payload = true ∧ s.epochLate = false ∧ fewLeases s ∧ s.cal ≠ [] ∧ roomFor s c.payload := by
  let z : Lease := ⟨3, 5, 3, 1, 0, 0, 1⟩
  let ask (n : Nat) : CmdCtx := leaseCmd (leBytes 2 3 ++ [0, 0] ++ leBytes 4 n ++ zeros 8)
  let full (k : Nat) : List Grant := List.replicate k ⟨4, 0, { z with pool := 0, die := 0 }⟩
  let wrong := leaseCmd ([3, 0, 6] ++ zeros 13)
  refine ⟨⟨State.reset, ?_⟩, ⟨{ live with mg := { live.mg with fetched := [cmd 0x1402 [], cmd 0x1401 []] } }, cmd 0x1401 [], ?_⟩,
    ⟨live, leaseCmd (zeros 5), takes _ _ ?_, ?_⟩, ⟨live, wrong, takes _ _ ?_, ?_⟩,
    ⟨{ member 0 with fab := { (member 0).fab with leases := List.replicate 16 (some z) } }, ask 1, takes _ _ ?_, ?_⟩,
    ⟨onFab 4 {} |>.setReg .ROUTE 3 0xFFFF, ask 1, takes _ _ ?_, ?_⟩, ⟨member 0, ask 1, takes _ _ ?_, ?_⟩,
    ⟨live, cmd 0x1402 [15, 0, 0, 0], takes _ _ ?_, ?_⟩,
    ⟨{ live with fab := { live.fab with leases := List.replicate 15 none ++ [some z] } }, cmd 0x1402 [15, 0, 0, 0], takes _ _ ?_, ?_⟩,
    ⟨live, cmd 0x1401 [], takes _ _ ?_, fun _ => nofun⟩, ⟨live, wrong, ⟨takes _ _ ?_, ?_⟩, ?_⟩,
    ⟨granting 1152 [], ask 1, ⟨takes _ _ ?_, ?_⟩, ?_⟩, ⟨granting 1151 (full 16), ask 1, ⟨takes _ _ ?_, ?_⟩, ?_⟩,
    ⟨granting 1151 [], ask (2 ^ 32 - 1), ⟨takes _ _ ?_, ?_⟩, ?_⟩, ⟨granting 1151 (full 15), ask 1, ⟨takes _ _ ?_, ?_⟩, ?_⟩⟩ <;> decide +kernel

/-- A move command to or from module 3 of the last `n` flows, at the boundary of epoch 1. -/
def movePay (n : Nat) : List Byte := leBytes 2 3 ++ [1, 0] ++ leBytes 4 (0x500000 - n) ++ leBytes 4 n

/-- A move of the last two flows to module 3 is past its boundary; the first of them is `x`, the other is at REFS 1, or free. -/
def leaving (x : FlowEntry) (other : Bool) : State :=
  { member 0 with
    flows := [(0x4FFFFE, x), (0x4FFFFF, if other then { flow0 with refs := 1 } else {})]
    fab := { (member 0).fab with moveOut := [⟨3, 1, 0x4FFFFE, 2, true, 0⟩] } }

/-- The fields of a MOVE_IN are in range; its blocks are there. -/
abbrev moveArgs (s : State) (p : List Byte) : Prop := s.moveArgsOk p = true ∧ u16 p 12 ≤ 1023 ∧ u8 p 14 ≤ 0x0F ∧ u8 p 15 = 0
abbrev moveRoom (s : State) (p : List Byte) : Prop := u32 p 8 * flowBlocks (u16 p 12) ≤ s.genAvail

/-- The next flow to copy is the first of the two, VALID or not; it is the last of its move, or not. -/
abbrev copies (s : State) (valid whole : Bool) : Prop :=
  let m : Move := ⟨3, 1, 0x4FFFFE, 2, true, 0⟩
  s.fab.moveOut.find? (fun m => m.live && (s.moveNext m).isSome) = some m ∧ s.moveNext m = some 0x4FFFFE
    ∧ ((s.flow 0x4FFFFE).sbState = 1 ↔ valid = true) ∧ ((∀ i < m.n, m.first + i = 0x4FFFFE ∨ (s.flow (m.first + i)).state = 0) ↔ whole = true)

theorem test_wit_LeasesAndMoves_moves :
    (∃ (s : State) (c : CmdCtx), TakesNow s c ∧ c.payload.length = 16 ∧ ¬moveArgs s c.payload)
    ∧ (∃ (s : State) (c : CmdCtx), TakesNow s c ∧ c.payload.length = 16 ∧ moveArgs s c.payload ∧ s.epochLate = true)
    ∧ (∃ (s : State) (c : CmdCtx), TakesNow s c ∧ c.payload.length = 16 ∧ moveArgs s c.payload ∧ s.epochLate = false ∧ ¬moveRoom s c.payload)
    ∧ (∀ b : Bool, ∃ (s : State) (c : CmdCtx), TakesNow s c ∧ c.payload.length = 16 ∧ moveArgs s c.payload ∧ s.epochLate = false
      ∧ moveRoom s c.payload ∧ decide (∀ i < u32 c.payload 8, (s.flow (u32 c.payload 4 + i)).state = 0) = b)
    ∧ (∃ (s : State) (c : CmdCtx) (m : Move), let p := c.payload; TakesNow s c ∧ p.length = 12
      ∧ s.fab.moveOut.find? (fun (m : Move) => m.peer == u16 p 0 && m.epoch == u8 p 2 && m.first == u32 p 4 && m.n == u32 p 8) = some m)
    ∧ (∃ (s : State) (c : CmdCtx), TakesNow s c ∧ c.payload.length = 12 ∧ s.fab.moveOut = [] ∧ s.moveArgsOk c.payload = false)
    ∧ (∀ b ∈ [1151, 1152], ∃ (s : State) (c : CmdCtx), TakesNow s c ∧ c.payload.length = 12 ∧ s.fab.moveOut = [] ∧ s.moveArgsOk c.payload = true
      ∧ s.epochLate = decide (b = 1152))
    ∧ (∃ s : State, s.fab.moveOut.find? (fun m => m.live && (s.moveNext m).isSome) = none)
    ∧ (∃ s : State, copies s true false ∧ s.pickRoute 3 0 = none)
    ∧ (∀ v o : Bool, ∃ s : State, copies s v o ∧ s.pickRoute 3 0 = some (11, 0)) := by
  let t (n sb : Nat) : CmdCtx := cmd 0x1410 (movePay n ++ leBytes 2 sb ++ [0x0F, 0])
  let m : Move := ⟨3, 1, 0x4FFFFE, 2, true, 0⟩
  refine ⟨⟨member 0, t 0 0, takes _ _ ?_, ?_⟩, ⟨member (1152 * 1024), t 1 1023, takes _ _ ?_, ?_⟩, ⟨member 0, t 65536 1023, takes _ _ ?_, ?_⟩,
    fun b => ⟨{ member (1151 * 1024) with flows := if b then [] else [(0x4FFFFF, flow0)] }, t 2 1023, takes _ _ ?_, ?_⟩,
    ⟨leaving flow0 true, cmd 0x1411 (movePay 2), m, takes _ _ ?_, ?_⟩, ⟨member 0, cmd 0x1411 (movePay 0), takes _ _ ?_, ?_⟩,
    fun b h => ⟨member (b * 1024), cmd 0x1411 (movePay 1), takes _ _ ?_, ?_⟩, ⟨leaving { flow0 with refs := 1 } true, ?_⟩,
    ⟨(leaving { flow0 with sbState := 1 } true).setReg .ROUTE 3 0xFFFF, ?_⟩,
    fun v o => ⟨leaving { flow0 with sbState := b2n v } (!o), ?_⟩⟩
  all_goals first | decide +kernel | (revert b; decide +kernel) | (revert v o; decide +kernel)

/-! ### Transfers, lanes, logic, integrity and host access -/

/-- A DMA descriptor: spaces `sp`, `n` bytes from `a` to `b`, then the descriptor at `nx`. -/
def dmaWords (sp n a b nx : Nat) : List Byte :=
  [8, 0] ++ leBytes 1 sp ++ [0] ++ leBytes 4 n ++ leBytes 8 a ++ leBytes 8 b ++ leBytes 8 nx ++ zeros 32

/-- Where the tests move data to: the first block of the arena. -/
def dstA : Nat := arenaLo * 4096

/-- Hub channel 63 runs set 1 with a descriptor. -/
def hubRun (d : List Byte) : State := { live with dmas := [(63, { active := some { kind := 1, desc := d } })] }

/-- The Cave line at 0x40000000 is in state `e`. -/
def bad1 (e : WordErr) : BadWord := { mem := 0, word := 0x1000000, err := e }
def hurt (s : State) : State := { s with bad := [bad1 .ue] }

/-- No word is bad: nothing that a transfer reads changes under it. -/
abbrev sound (s : State) : Prop := s.bad = [] ∧ s.merges = [] ∧ s.fld Fld.ECC_FLIP_CFG_ARM = 0
abbrev calm (s : State) : Prop := s.merges = [] ∧ s.fld Fld.ECC_FLIP_CFG_ARM = 0

/-- Queue 300 is a DMA queue of channel 63 and holds one descriptor. -/
def queued : State :=
  (((withQ 300 7 0 1 live).setReg .Q_TAIL 300 1).setFld Fld.DMA_CH_CFG_QEN 63 1).setFld Fld.DMA_CH_CFG_QUEUE 63 300

/-- A HUB_DMA job with a descriptor. -/
def dmaCurd (n : Nat) : Curd := { curdOf 8 0x40001040 with st := .running, exec := n }
def jobRun (d : List Byte) : State :=
  { live with curds := [dmaCurd 447], orders := [ord3], dmaJobs := [{ curd := 0x40001040, remaining := 4, desc := d, chan := some 63 }] }

/-- Channel 3 of tile 63 runs a descriptor for core 255. -/
def tileJob (d : List Byte) (gone : Bool) : TileJob := { desc := d, core := 255, curd := none, aborted := gone }
def tileRun (d : List Byte) (gone : Bool) : State := { live with tchans := [(63 * 8 + 3, { active := some (tileJob d gone) })] }

theorem test_wit_DmaCommands_chan :
    (∃ s : State, Reach s .steward ∧ (s.dma 63).setBusy 1 = false ∧ (s.dma 63).active = none ∧ (s.dma 63).armed = [])
    ∧ (∃ s : State, Reach s .steward ∧ (s.dma 63).setBusy 1 = true ∧ (s.dma 63).active ≠ none)
    ∧ (∃ s : State, (s.dma 63).aborting = false) ∧ (∃ s : State, (s.dma 63).aborting = true ∧ calm s)
    ∧ (∃ s : State, sound s ∧ s.gridRun = true ∧ 63 < s.sentWrites)
    ∧ (∃ s : State, sound s ∧ s.gridRun = false ∧ (s.dma 63).active = none ∧ (s.dma 63).halted = false ∧ (s.dma 63).aborting = false
      ∧ (s.dma 63).armed = [1, 0] ∧ (s.dma 0).halted = true)
    ∧ (∃ s : State, sound s ∧ s.gridRun = false ∧ (s.dma 63).active = none ∧ (s.dma 63).halted = false ∧ (s.dma 63).aborting = false
      ∧ (s.dma 63).armed = [] ∧ s.fld Fld.DMA_CH_CFG_QEN 63 = 1 ∧ s.qType (s.dmaQueue 63) = 7 ∧ s.qState (s.dmaQueue 63) ≠ 0
      ∧ 0 < s.qOcc (s.dmaQueue 63) ∧ ∀ e < 64, e ≠ 63 → s.dmaQueue e ≠ s.dmaQueue 63)
    ∧ (∃ s : State, sound s ∧ s.gridRun = true ∧ s.sentWrites = 63 ∧ s.curds = [] ∧ (s.dma 63).active = none ∧ (s.dma 63).halted = false
      ∧ (s.dma 63).aborting = false ∧ (s.dma 63).armed = [] ∧ s.fld Fld.DMA_CH_CFG_QEN 63 ≠ 1)
    ∧ (∃ (s : State) (c : Curd), sound s ∧ s.gridRun = true ∧ s.dmaJobs = [] ∧ s.sentWrites = 63 ∧ s.curdAt c.addr = some c ∧ c.exec = 0x3FF
      ∧ s.curds.filter (fun c => c.cls == 8 && c.st == .running) = [c])
    ∧ ∃ s : State, s.xferOf (.hub 63) = none ∧ s.xferOf (.job 0) = none ∧ s.xferOf (.tile 63 3) = none := by
  let c : Curd := dmaCurd 0x3FF
  refine ⟨⟨live, reach_steward _, ?_⟩, ⟨hubRun [], reach_steward _, ?_⟩, ⟨live, ?_⟩, ⟨{ live with dmas := [(63, { aborting := true })] }, ?_⟩,
    ⟨{ runAt 0 live with sentWrites := 64 }, ?_⟩, ⟨{ live with dmas := [(0, { halted := true }), (63, { armed := [1, 0] })] }, ?_⟩, ⟨queued, ?_⟩,
    ⟨{ runAt 0 live with sentWrites := 63 }, ?_⟩, ⟨{ runAt 0 live with curds := [c], sentWrites := 63 }, c, ?_⟩, ⟨live, ?_⟩⟩ <;> decide +kernel

theorem test_wit_DmaCommands_hub :
    (∀ k ∈ [(0, 0), (1, 0), (0, 1)], ∃ (s : State) (x : Xfer) (w : DmaWork), s.xferOf (.hub 63) = some x ∧ (s.dma 63).active = some w ∧ w.kind ≠ 2
      ∧ s.xferFault x = none ∧ sound s ∧ x.d.dstSp = k.1 ∧ decide (x.d.next ≠ 0) = decide (k.2 = 1) ∧ x.d.stat = 0 ∧ s.curds = []
      ∧ s.flr.contains x.d.func = false)
    ∧ (∃ (s : State) (x : Xfer), s.xferOf (.hub 63) = some x ∧ s.xferFault x = some (0x62, 0) ∧ calm s)
    ∧ (∃ (s : State) (x : Xfer), s.xferOf (.hub 63) = some x ∧ s.xferFault x = some (0x21, 0) ∧ calm s)
    ∧ ∃ (s : State) (x : Xfer), s.xferOf (.hub 63) = some x ∧ s.xferFault x = none ∧ x.d.srcSp = 1 ∧ calm s := by
  let x (d : List Byte) : Xfer := { desc := d, hub := true, exec := 447 }
  let w (d : List Byte) : DmaWork := { kind := 1, desc := d }
  let cc := dmaWords 0 64 0x40000000 dstA 0
  let d (k : Nat × Nat) : List Byte := dmaWords (4 * k.1) 64 0x40000000 dstA (0x40000040 * k.2)
  let hc := dmaWords 1 1 0 dstA 0
  refine ⟨fun k h => ⟨hubRun (d k), x (d k), w (d k), ?_⟩, ⟨hurt (hubRun cc), x cc, ?_⟩, ⟨hubRun [], x [], ?_⟩, ⟨hubRun hc, x hc, ?_⟩⟩
  all_goals first | decide +kernel | (revert k; decide +kernel)

theorem test_wit_DmaCommands_jobs :
    (∀ b : Bool, ∃ (s : State) (x : Xfer), s.xferOf (.job 0x40001040) = some x ∧ x.d.stat = 0
      ∧ (x.d.dstSp = 0 → ∀ c ∈ s.curds, c.addr + 64 ≤ x.d.dst ∨ x.d.dst + x.d.len ≤ c.addr) ∧ sound s ∧ s.xferFault x = none
      ∧ decide (x.d.next = 0) = b)
    ∧ (∃ (s : State) (x : Xfer), s.xferOf (.job 0x40001040) = some x ∧ x.d.stat = 0 ∧ s.xferFault x = some (0x33, 0)
      ∧ (x.d.dstSp = 0 → ∀ c ∈ s.curds, c.addr + 64 ≤ x.d.dst ∨ x.d.dst + x.d.len ≤ c.addr) ∧ sound s)
    ∧ (∀ k ∈ [2, 3], ∃ (s : State) (x : Xfer) (j : TileJob), s.xferOf (.tile 63 3) = some x ∧ sound s
      ∧ (s.tchan (63 * 8 + 3)).active = some j ∧ j.aborted = false ∧ s.xferFault x = none ∧ x.d.dstSp = k)
    ∧ (∃ (s : State) (x : Xfer) (j : TileJob), s.xferOf (.tile 63 3) = some x ∧ sound s
      ∧ (s.tchan (63 * 8 + 3)).active = some j ∧ j.aborted = true ∧ s.xferFault x = none)
    ∧ ∃ (s : State) (x : Xfer) (j : TileJob), s.xferOf (.tile 63 3) = some x ∧ sound s ∧ (s.tchan (63 * 8 + 3)).active = some j
      ∧ s.xferFault x = some (0x21, 0) := by
  let x (d : List Byte) : Xfer := { desc := d, hub := true, exec := 447, handle := 3, func := some 0 }
  let y (d : List Byte) : Xfer := { desc := d, hub := false, tile := 63, exec := 0x400 + 255 }
  let cc (b : Bool) : List Byte := dmaWords 0 64 0x40000000 dstA (if b then 0 else 0x40000040)
  let sw := (dmaWords 0 64 dstA (dstA + 2) 0).set 3 2
  let tv := dmaWords (2 + 12) 64 (0x1C0000 - 64) (2 ^ 19 - 64) 0
  let vt := dmaWords (3 + 8) 64 (2 ^ 19 - 64) (0x1C0000 - 64) 0
  let d (k : Nat) : List Byte := if k = 3 then tv else vt
  refine ⟨fun b => ⟨jobRun (cc b), x (cc b), ?_⟩, ⟨jobRun sw, x sw, ?_⟩, fun k h => ⟨tileRun (d k) false, y (d k), tileJob (d k) false, ?_⟩,
    ⟨tileRun tv true, y tv, tileJob tv true, ?_⟩, ⟨tileRun [] false, y [], tileJob [] false, ?_⟩⟩
  all_goals first | decide +kernel | (revert b; decide +kernel) | (revert k; decide +kernel)

/-- Lane `i` in power state `p`, its record `x`. -/
def laneIn (i p : Nat) (x : LaneSt) : State := (live.setFld Fld.LN_STAT_PWR_STATE i p).setLane i x

theorem test_wit_LaneEvents :
    (∃ s : State, Reach s .steward ∧ s.laneUp 144 = true) ∧ (∃ s : State, Reach s .steward ∧ s.laneUp 144 = false)
    ∧ (∃ s : State, (s.lane 144).test = none) ∧ (∃ s : State, (s.lane 144).test ≠ none ∧ s.laneUp 144 = true)
    ∧ (∃ s : State, (s.lane 144).test ≠ none ∧ s.laneUp 144 = false) ∧ (∃ s : State, (s.lane 143).test ≠ none) ∧ (∃ s : State, (s.lane 143).test = none)
    ∧ (∃ s : State, s.fld Fld.LN_STAT_ALIGNED 127 = 0) ∧ (∃ s : State, s.fld Fld.LN_STAT_ALIGNED 127 ≠ 0 ∧ s.fld Fld.FL_STAT_STATE 11 ≠ 1)
    ∧ (∃ s : State, s.laneUp 127 = true) ∧ (∃ s : State, s.laneUp 127 = false)
    ∧ (∃ s : State, laneLink 127 = some 11 ∧ s.flState 11 = 1) ∧ (∃ s : State, s.fld Fld.LN_STAT_PWR_STATE 144 = 3)
    ∧ ∃ s : State, s.fld Fld.LN_STAT_PWR_STATE 144 ≠ 3 := by
  refine ⟨⟨laneIn 144 0 {}, reach_steward _, ?_⟩, ⟨laneIn 144 3 {}, reach_steward _, ?_⟩, ⟨live, ?_⟩, ⟨laneIn 144 0 { test := some 5 }, ?_⟩,
    ⟨laneIn 144 1 { test := some 5 }, ?_⟩, ⟨laneIn 143 0 { test := some 5 }, ?_⟩, ⟨live, ?_⟩, ⟨live.setFld Fld.LN_STAT_ALIGNED 127 0, ?_⟩,
    ⟨live.setFld Fld.LN_STAT_ALIGNED 127 1, ?_⟩, ⟨laneIn 127 0 {}, ?_⟩, ⟨laneIn 127 3 {}, ?_⟩, ⟨onFab 1 {}, ?_⟩, ⟨laneIn 144 3 {}, ?_⟩,
    ⟨laneIn 144 0 {}, ?_⟩⟩ <;> decide +kernel

/-- The loader chain holds the load `l`; READY is set. -/
def loading (l : Option LrLoad) : State := { live.setSspFlag 0 true with lr := { live.lr with load := l } }

theorem loading_not_shut (l : Option LrLoad) (h : ∀ x, l = some x → x.ssp = true) :
    ¬((loading l).sspFlag 0 = false ∨ (loading l).lr.closed = true ∨ ∃ x, (loading l).lr.load = some x ∧ x.ssp = false) := by
  have a : (loading l).sspFlag 0 = true := show (loading none).sspFlag 0 = true by decide +kernel
  rintro (e | e | ⟨x, e, f⟩)
  · simp [a] at e
  · exact absurd (show (loading none).lr.closed = true from e) (by decide +kernel)
  · simp [h x e] at f

/-- The retry window is open and the load has ended; region 4 is in state `k`. -/
def windowed (k : Nat) : State :=
  { live.setFld Fld.LR_STAT_STATE 4 k with lr := { live.lr with window := true, loadEnded := true } }

/-- Region 4 runs; the scrubber stands at its frame `k`, and its first frame reads `b`. -/
def scrubbing (k : Nat) (b : Byte) : State :=
  { (live.setFld Fld.LR_STAT_STATE 4 3).setFld Fld.LR_SCRUB_CFG_EN 0 1 with
    lr := { live.lr with region := 4, frame := k, regions := List.replicate 4 {} ++ [{ data := List.replicate 1024 b }] } }

/-- Both copies of the golden copy of region 4 cannot be corrected in their first line. -/
def goldHurt : State :=
  { scrubbing 0 0 with bad := [{ mem := 0, word := goldenAddr 4 / 64, err := .ue }, { mem := 0, word := (goldenAddr 4 + 0x20000000) / 64, err := .ue }] }

/-- A load whose bytes have all come, signed with key `k`, for the regions 0 and 4. -/
def signed (k : Nat) : LrLoad := { ssp := true, bytes := zeros 20 ++ leBytes 4 k, verify := true, named := [0, 4] }

/-- Whether a signature under a valid key holds is a free value: the clause about a bitstream that holds is the other value of the
one about a bitstream that does not, which one of no valid key shows. -/
theorem test_wit_LogicRegions_load :
    (∃ s : State, s.sspFlag 0 = false)
    ∧ (∀ n ∈ [127, 128], ∃ (s : State) (d : List Byte), ¬(s.sspFlag 0 = false ∨ s.lr.closed = true ∨ ∃ l, s.lr.load = some l ∧ l.ssp = false)
      ∧ s.lr.load = none ∧ d.length = n ∧ lrHeaderOk d = false)
    ∧ (∃ s : State, s.lr.window = false) ∧ (∃ s : State, s.lr.window = true ∧ s.lr.loadEnded = true ∧ s.lr.load = none ∧ ∀ p < 5, s.lrState p = 0 ∨ s.lrState p = 3)
    ∧ (∃ s : State, s.lr.window = true ∧ ¬(s.lr.loadEnded = true ∧ s.lr.load = none ∧ ∀ p < 5, s.lrState p = 0 ∨ s.lrState p = 3))
    ∧ (∃ s : State, s.lr.load = none)
    ∧ (∀ p ∈ [none, some 4], ∃ (s : State) (l : LrLoad), s.lr.load = some l ∧ l.ssp = true ∧ l.verify = false ∧ l.at = p.getD 6)
    ∧ (∃ (s : State) (l : LrLoad), s.lr.load = some l ∧ l.verify = true ∧ s.keyValid 2 (u32 l.bytes 20) = true ∧ l.named = [0, 4])
    ∧ (∃ (s : State) (l : LrLoad), s.lr.load = some l ∧ l.verify = true ∧ l.named = [0, 4]
      ∧ (s.verifySig 2 (u32 l.bytes 20) (l.bytes.take (u32 l.bytes 8 - 96)) (slice l.bytes (u32 l.bytes 8 - 96) 96)).1 = false)
    ∧ (∃ s : State, s.lrState 4 = 2) ∧ (∃ s : State, s.lrState 4 ≠ 2) := by
  refine ⟨⟨live, ?_⟩, fun n h => ⟨loading none, zeros n, loading_not_shut _ (fun _ => nofun), ?_⟩, ⟨live, ?_⟩, ⟨windowed 0, ?_⟩, ⟨windowed 2, rfl, fun h => absurd (h.2.2 4 (by decide)) ?_⟩, ⟨live, ?_⟩,
    fun p h => ⟨loading (some { ssp := true, pos := p }), { ssp := true, pos := p }, ?_⟩, ⟨loading (some (signed 1)), signed 1, ?_⟩,
    ⟨loading (some (signed 5)), signed 5, ?_⟩, ⟨live.setFld Fld.LR_STAT_STATE 4 2, ?_⟩, ⟨live, ?_⟩⟩
  all_goals first | decide +kernel | (revert n; decide +kernel) | (revert p; decide +kernel)

/-- An LR_LOAD of `n` bytes at host address `a`, and carrier 511 using a method of region 0. -/
def loadCmd (a n : Nat) : CmdCtx := cmd 0x0600 (leBytes 8 a ++ leBytes 4 n ++ zeros 4)
def inUse (s : State) : State := (s.setFld Fld.FH_C_CFG_EN 511 1).setFld Fld.FH_C_CFG_METHOD 511 8

/-- The clauses on the form of an LR_LOAD. -/
abbrev loadForm (p : List Byte) : Prop := p.length = 16 ∧ u64 p 0 % 4096 = 0 ∧ u32 p 12 = 0

theorem test_wit_LogicRegions_commands :
    (∃ s : State, s.fld Fld.STEWARD_STAT_STATE ≠ 1) ∧ (∃ (s : State) (c : CmdCtx), s.fld Fld.STEWARD_STAT_STATE = 1 ∧ s.stewardTurn c = false)
    ∧ (∃ (s : State) (c : CmdCtx), TakesNow s c ∧ c.payload.length = 5 ∧ s.classLRuns c = false)
    ∧ (∃ (s : State) (c : CmdCtx), TakesNow s c ∧ c.payload.length = 4 ∧ u8 c.payload 0 = 5)
    ∧ (∃ (s : State) (c : CmdCtx), TakesNow s c ∧ c.payload.length = 4 ∧ u8 c.payload 0 = 4 ∧ allZero (c.payload.drop 1) = true)
    ∧ (∃ (s : State) (c : CmdCtx), TakesNow s c ∧ s.classLRuns c = true)
    ∧ (∃ (s : State) (c : CmdCtx), TakesNow s c ∧ s.classLRuns c = false ∧ c.payload.length = 16 ∧ u64 c.payload 0 % 4096 = 4095)
    ∧ (∀ n ∈ [1279, 25166209], ∃ (s : State) (c : CmdCtx), TakesNow s c ∧ s.classLRuns c = false ∧ loadForm c.payload ∧ u32 c.payload 8 = n)
    ∧ (∃ (s : State) (c : CmdCtx) (host : List Byte), TakesNow s c ∧ s.classLRuns c = false ∧ loadForm c.payload ∧ u32 c.payload 8 = 1280
      ∧ u8 host 128 = 0 ∧ s.lr0InUse = true)
    ∧ (∃ (s : State) (c : CmdCtx) (host : List Byte), TakesNow s c ∧ s.classLRuns c = false ∧ loadForm c.payload ∧ u32 c.payload 8 = 1280
      ∧ ¬(u8 host 128 = 0 ∧ s.lr0InUse = true) ∧ s.lr.load ≠ none)
    ∧ ∃ (s : State) (c : CmdCtx) (host : List Byte), TakesNow s c ∧ s.classLRuns c = false ∧ loadForm c.payload ∧ u32 c.payload 8 = 25166208
      ∧ ¬(u8 host 128 = 0 ∧ s.lr0InUse = true) ∧ s.lr.load = none ∧ s.lr.pendReply = none := by
  let c := loadCmd 4096
  let busy : State := { live with mg := { live.mg with journal := [⟨loadCmd 0 0, false⟩] } }
  refine ⟨⟨State.reset, ?_⟩, ⟨{ live with mg := { live.mg with fetched := [cmd 0x0601 [], cmd 0x0601 [4]] } }, cmd 0x0601 [4], ?_⟩,
    ⟨live, cmd 0x0601 (zeros 5), takes _ _ ?_, ?_⟩, ⟨live, cmd 0x0601 [5, 0, 0, 0], takes _ _ ?_, ?_⟩,
    ⟨live, cmd 0x0601 [4, 0, 0, 0], takes _ _ ?_, ?_⟩, ⟨busy, c 1280, takes _ _ ?_, ?_⟩, ⟨live, loadCmd 4095 1280, takes _ _ ?_, ?_⟩,
    fun n h => ⟨live, c n, takes _ _ ?_, ?_⟩, ⟨inUse live, c 1280, zeros 129, takes _ _ ?_, ?_⟩,
    ⟨loading (some { ssp := true }), c 1280, [], takes _ _ ?_, ?_⟩, ⟨live, c 25166208, [], takes _ _ ?_, ?_⟩⟩
  all_goals first | decide +kernel | (revert n; decide +kernel)

/-- The scrubber is on and stands at frame `k` of region 4, whose frame and golden copy are there or not. -/
abbrev scrubs (s : State) (k : Nat) (there gold same : Bool) : Prop :=
  let mine := slice (s.region 4).data (k * 1024) 1024
  s.fld Fld.LR_SCRUB_CFG_EN ≠ 0 ∧ s.lr.stopped = false ∧ s.scrubAt = some (4, k) ∧ 4 < s.lr.regions.length ∧ decide (mine ≠ []) = there
    ∧ s.rangeOk 0 (goldenAddr 4 + k * 1024) 1024 = gold ∧ decide (mine = (s.caveRead (goldenAddr 4 + k * 1024) 1024).take mine.length) = same

theorem test_wit_LogicRegions_scrub :
    (∃ s : State, s.fld Fld.LR_SCRUB_CFG_EN = 0) ∧ (∃ s : State, s.fld Fld.LR_SCRUB_CFG_EN ≠ 0 ∧ s.lr.stopped = false ∧ s.scrubAt = none)
    ∧ (∃ s : State, scrubs s 2047 false true true) ∧ (∃ s : State, scrubs s 0 true true false) ∧ (∃ s : State, scrubs s 0 true true true)
    ∧ ∃ s : State, scrubs s 0 true false true := by
  refine ⟨⟨live.setFld Fld.LR_SCRUB_CFG_EN 0 0, ?_⟩, ⟨live.setFld Fld.LR_SCRUB_CFG_EN 0 1, ?_⟩, ⟨scrubbing 2047 0, ?_⟩, ⟨scrubbing 0 1, ?_⟩,
    ⟨scrubbing 0 0, ?_⟩, ⟨goldHurt, ?_⟩⟩ <;> decide +kernel

/-- The scrub walk is on and stands at the Cave line 0x40000000; the words `b` are bad. -/
def walking (b : List BadWord) : State :=
  { ((live.setFld Fld.ECC_SCRUB_CFG_EN 0 1).setFld Fld.ECC_SCRUB_CFG_LINES 0 2).setReg2 .ECC_SCRUB_POS_LO .ECC_SCRUB_POS_HI 0 0x40000000 with bad := b }

/-- A merge entry of a Cave line, one of which a second copy is held, and the errors on it. -/
def merging (w : Nat) (b : List BadWord) : State := { live with merges := [⟨0, w, 5, 0, 4⟩], bad := b }
def twice (e : WordErr) : BadWord := { mem := 0, word := 0, err := e }

theorem test_wit_IntegrityEvents_drain :
    (∃ s : State, s.mergeAt (0, 0x1000000) = none)
    ∧ (∃ (s : State) (m : Merge), s.mergeAt (0, 0x1000000) = some m ∧ s.wordErr (0, 0x1000000) = none)
    ∧ (∀ e ∈ [WordErr.ce, .poison, .ue], ∃ (s : State) (m : Merge) (b : BadWord), s.mergeAt (0, 0x1000000) = some m
      ∧ s.wordErr (0, 0x1000000) = some b ∧ b.err = e ∧ s.fld Fld.ECC_D_STORE_HANDLING m.die ≠ 1 ∧ copyB (0, 0x1000000) = none)
    ∧ (∃ (s : State) (m : Merge) (b : BadWord), s.mergeAt (0, 0x1000000) = some m ∧ s.wordErr (0, 0x1000000) = some b ∧ b.err = .ue
      ∧ s.inHand.contains (m.die, 0, 0x1000000) = true)
    ∧ (∀ k : Bool, ∃ (s : State) (m : Merge) (b : BadWord), s.mergeAt (0, 0) = some m ∧ s.wordErr (0, 0) = some b ∧ b.err = .ue
      ∧ s.fld Fld.ECC_D_STORE_HANDLING m.die ≠ 1 ∧ copyB (0, 0) ≠ none ∧ s.wordBad (0, 0) = k) := by
  let m : Merge := ⟨0, 0x1000000, 5, 0, 4⟩
  let other : BadWord := { mem := 0, word := 0x800000, err := .poison }
  refine ⟨⟨live, ?_⟩, ⟨merging 0x1000000 [], m, ?_⟩, fun e h => ⟨merging 0x1000000 [bad1 e], m, bad1 e, ?_⟩,
    ⟨{ merging 0x1000000 [bad1 .ue] with inHand := [(4, 0, 0x1000000)] }, m, bad1 .ue, ?_⟩,
    fun k => ⟨merging 0 (twice .ue :: if k then [other] else []), ⟨0, 0, 5, 0, 4⟩, twice .ue, ?_⟩⟩
  all_goals first | decide +kernel | (revert e; decide +kernel) | (revert k; decide +kernel)

theorem test_wit_IntegrityEvents_walk :
    (∃ s : State, s.fld Fld.ECC_SCRUB_CFG_EN ≠ 1) ∧ (∃ s : State, 2 ≤ s.pwState)
    ∧ (∀ b ∈ [[], [bad1 .ce], [bad1 .ue], [bad1 .poison]], ∃ s : State, s.fld Fld.ECC_SCRUB_CFG_EN = 1 ∧ s.pwState ≤ 1 ∧ s.bad = b ∧ s.merges = []
      ∧ s.scrubVisits (scrubIndex (s.reg2 .ECC_SCRUB_POS_LO .ECC_SCRUB_POS_HI)) s.scrubLines (min (s.fld Fld.ECC_SCRUB_CFG_LINES) 1) (0, 0x1000000) = true
      ∧ copyB (0, 0x1000000) = none ∧ s.fld Fld.ECC_D_STORE_HANDLING 4 = 0) := by
  refine ⟨⟨live.setFld Fld.ECC_SCRUB_CFG_EN 0 0, ?_⟩, ⟨live.setFld Fld.POWER_STAT_STATE 0 2, ?_⟩, fun b h => ⟨walking b, ?_⟩⟩
  all_goals first | decide +kernel | (revert b; decide +kernel)

theorem test_wit_ErrorRecordsMerge :
    ∀ st ∈ [0x62, 0x65, 0x66], ∃ (s : State) (d : Fin 5), s.errs.length = 5 ∧ ∃ x ∈ s.errs.getD d.val [], x.mem = 0 ∧ x.word = 0x1000000 ∧ x.status = st := by
  intro st h
  let x : ErrRec := ⟨0, st, 0, 4, 0, 0x40000000, 5, 0, 0, none, 65535, 0, 0, 0x1000000⟩
  exact ⟨{ live with errs := [[], [], [], [], [x]] }, 4, rfl, x, .head _, rfl, rfl, rfl⟩

/-- The fill has ended; the Cave window starts at 0. -/
def window : State := live.setFld Fld.ECC_FILL_DONE 0 1

/-- The window reads four bytes from offset 0x40000000, all mapped, which the fill has reached or not. -/
abbrev winFour (s : State) (reached : Bool) : Prop :=
  s.pwState ≤ 2 ∧ mappedLen (s.winAddr 0x40000000) 4 = 4
    ∧ decide (s.filled (s.winAddr 0x40000000) = true ∧ s.filled (s.winAddr 0x40000000 + 4 - 1) = true) = reached

theorem test_wit_HostAccess_bar4 :
    (∃ s : State, 3 ≤ s.pwState) ∧ (∃ s : State, winFour s false)
    ∧ (∃ s : State, winFour s true ∧ s.rangeOk 0 (s.winAddr 0x40000000) 4 = false)
    ∧ (∃ s : State, winFour s true ∧ s.rangeOk 0 (s.winAddr 0x40000000) 4 = true ∧ sound s)
    ∧ (∃ s : State, s.pwState ≤ 2 ∧ sound s ∧ s.curds = []
      ∧ ∀ i < 4, caveMapped (s.winAddr 0x14000000 + i) = true ∧ s.blockProtected (s.winAddr 0x14000000 + i) = true)
    ∧ ∃ s : State, s.pwState ≤ 2 ∧ sound s ∧ (∀ i < 4, s.winWritable (s.winAddr dstA + i) = true) ∧ s.curds = [] := by
  refine ⟨⟨live.setFld Fld.POWER_STAT_STATE 0 3, ?_⟩, ⟨live, ?_⟩, ⟨hurt window, ?_⟩, ⟨window, ?_⟩, ⟨window, ?_⟩, ⟨window, ?_⟩⟩ <;> decide +kernel

/-- A REG_STAGE payload of `n` pairs for boundary 63. -/
def stagePay (n : Nat) : List Byte := leBytes 4 63 ++ leBytes 4 n ++ zeros (8 * n)
def stageForm (p : List Byte) : Prop := 8 ≤ p.length ∧ p.length = 8 + 8 * u32 p 4
abbrev stageFields (p : List Byte) : Prop :=
  u8 p 0 ≤ 63 ∧ allZero (slice p 1 3) = true ∧ 1 ≤ u32 p 4 ∧ u32 p 4 ≤ 128 ∧ (stagePairs p).all (fun x => spanOk x.1 1 1) = true

theorem test_wit_HostAccess_registers :
    (∃ s : State, s.fld Fld.STEWARD_STAT_STATE ≠ 1) ∧ (∃ (s : State) (c : CmdCtx), s.fld Fld.STEWARD_STAT_STATE = 1 ∧ s.stewardTurn c = false)
    ∧ (∃ (s : State) (c : CmdCtx), TakesNow s c ∧ c.payload.length = 7)
    ∧ (∀ n ∈ [256, 257], ∃ (s : State) (c : CmdCtx), TakesNow s c ∧ c.payload.length = 8 ∧ u32 c.payload 4 = n
      ∧ spanOk (u32 c.payload 0) n 256 = decide (n = 256))
    ∧ (∀ a ∈ [0x3FFFFFC, 0x4000000], ∃ (s : State) (c : CmdCtx), let p := c.payload; TakesNow s c ∧ 8 ≤ p.length ∧ p.length = 8 + 4 * u32 p 4
      ∧ u32 p 0 = a ∧ spanOk a (u32 p 4) 256 = decide (a = 0x3FFFFFC))
    ∧ (∀ n ∈ [0, 1], ∃ (s : State) (c : CmdCtx), TakesNow s c ∧ stageForm c.payload ∧ decide (stageFields c.payload) = decide (n = 1))
    ∧ (∀ n ∈ [7, 8], ∃ (s : State) (c : CmdCtx), TakesNow s c ∧ stageForm c.payload ∧ stageFields c.payload
      ∧ decide (8 ≤ s.mg.stage.length ∨ 1024 < s.stagePairsHeld + u32 c.payload 4) = decide (n = 8))
    ∧ (∃ (s : State) (b : StageBatch), s.gridRun = true ∧ (s.beat + 1) % 1280 = 0 ∧ 1008 ≤ s.grain ∧ s.grain ≤ 1022
      ∧ s.mg.stage.filter (fun b => decide (b.boundary = (s.absBeat + 1) % beatMod ∧ b.notBefore ≤ s.absBeat + 1)) = [b])
    ∧ ∃ s : State, ¬(s.gridRun = true ∧ (s.beat + 1) % 1280 = 0 ∧ 1008 ≤ s.grain ∧ s.grain ≤ 1022) := by
  let b : StageBatch := { epoch := 1, boundary := 1280, notBefore := 1280, writes := [(0, 0)], ctx := cmd 0x0402 [] }
  let held (n : Nat) : State := { live with mg := { live.mg with stage := List.replicate n b } }
  refine ⟨⟨State.reset, ?_⟩, ⟨{ live with mg := { live.mg with fetched := [cmd 0x0401 [], cmd 0x0400 []] } }, cmd 0x0400 [], ?_⟩,
    ⟨live, cmd 0x0400 (zeros 7), takes _ _ ?_, ?_⟩, fun n h => ⟨live, cmd 0x0400 (leBytes 4 0 ++ leBytes 4 n), takes _ _ ?_, ?_⟩,
    fun a h => ⟨live, cmd 0x0401 (leBytes 4 a ++ leBytes 4 1 ++ zeros 4), takes _ _ ?_, ?_⟩,
    fun n h => ⟨live, cmd 0x0402 (stagePay n), takes _ _ ?_, ?_, ?_⟩, fun n h => ⟨held n, cmd 0x0402 (stagePay 1), takes _ _ ?_, ?_, ?_⟩,
    ⟨{ runAt (1279 * 1024 + 1022) live with mg := { live.mg with stage := [b] } }, b, ?_⟩, ⟨live, ?_⟩⟩
  all_goals first
    | decide +kernel
    | (unfold stageForm; decide +kernel)
    | (revert n; decide +kernel)
    | (revert n; unfold stageForm; decide +kernel)
    | (revert a; decide +kernel)

/-- Debug session 3 is ACTIVE at level `l` on tile 63 for ring pair 0. -/
def session (l : Nat) : State := ((live.setFld Fld.DBG_SESS_STATE 3 2).setFld Fld.DBG_SESS_LEVEL 3 l).setFld Fld.DBG_SESS_TILE 3 63

/-- A debug access through it: space, address, 4 bytes, and what it writes. -/
def dbgPay (sp a : Nat) (d : List Byte) : CmdCtx := cmd 0x2020 (leBytes 1 3 ++ leBytes 1 sp ++ zeros 2 ++ leBytes 8 a ++ leBytes 4 4 ++ d)

/-- The result of an access check that permits it. -/
theorem permits (s : State) (c : CmdCtx) (w : Bool) (p : DbgAccess → Bool)
    (h : (match s.dbgAccess c w with | .inr x => p x | .inl _ => false) = true) : ∃ x, s.dbgAccess c w = .inr x ∧ p x = true := by
  cases e : s.dbgAccess c w with
  | inl _ => simp [e] at h
  | inr x => exact ⟨x, rfl, by simpa [e] using h⟩

/-- An access in space `sp` to the last word that its space has for tile 63; tile 63 is on, or off. -/
def dbgAt (sp : Nat) (on : Bool) (d : List Byte) : State × CmdCtx :=
  (if on then session 3 else (session 3).setReg .POWER_TILES_HI 0 0,
   dbgPay sp ([0x3FFFFFC, dstA, 64 * 2 ^ 21 - 4, 255 * 2 ^ 20 + 2 ^ 19 - 4, 255 * 2 ^ 20].getD sp 0) d)

theorem test_wit_HostAccess_debug :
    (∀ w : Bool, ∃ (s : State) (c : CmdCtx) (st : Nat), TakesNow s c ∧ s.dbgAccess c w = .inl st)
    ∧ (∀ on : Bool, ∀ sp < 5, ∃ (s : State) (c : CmdCtx), TakesNow s c ∧ sound s ∧ ∃ x, s.dbgAccess c false = .inr x
      ∧ (x.space == sp && (sp < 2 || s.tileOn x.target == on)) = true)
    ∧ (∃ (s : State) (c : CmdCtx), TakesNow s c ∧ ∃ x, s.dbgAccess c false = .inr x
      ∧ (x.mem == some (0, 0x40000000) && !s.rangeOk 0 0x40000000 x.len) = true)
    ∧ (∀ on : Bool, ∀ sp < 5, ∃ (s : State) (c : CmdCtx), TakesNow s c ∧ sound s ∧ ∃ x, s.dbgAccess c true = .inr x
      ∧ (x.space == sp && (sp < 2 || s.tileOn x.target == on) && s.curds.isEmpty
        && (sp != 1 || (List.range x.len).all (fun i => !caveSystem (x.addr + i)))) = true) := by
  refine ⟨fun w => ⟨live, dbgPay 0 0 [], if w then 0x22 else 0x24, takes _ _ ?_, ?_⟩,
    fun on sp h => ⟨(dbgAt sp on []).1, (dbgAt sp on []).2, takes _ _ ?_, ?_, permits _ _ _ (fun x => _) ?_⟩,
    ⟨hurt (session 3), dbgPay 1 0x40000000 [], takes _ _ ?_,
      permits _ _ _ (fun x => x.mem == some (0, 0x40000000) && !(hurt (session 3)).rangeOk 0 0x40000000 x.len) ?_⟩,
    fun on sp h => ⟨(dbgAt sp on (zeros 4)).1, (dbgAt sp on (zeros 4)).2, takes _ _ ?_, ?_, permits _ _ _ (fun x => _) ?_⟩⟩
  all_goals first
    | decide +kernel
    | (revert on sp; decide +kernel)
    | (cases w <;> rfl)

theorem test_wit_MemoryStaysCanonical : ∃ s t : State, Memory.wf s = true ∧ step s = .next t :=
  ⟨State.reset, State.reset.idle, by decide, rfl⟩


/-! ## Well-formedness refuses -/

/-- A write and a frame that the checks below spoil. -/
def goodWrite : BusWrite := ⟨0x40, 4, 0x10, .pf0⟩
def goodFrame (n : Nat) : RxFrame := ⟨zeros n, 64, true, none, 0⟩

theorem test_wf_good_write : (Instr.registerWrite goodWrite false).wf = true := by decide
theorem test_wf_write_of_no_bytes : (Instr.registerWrite { goodWrite with len := 0, value := 0 } false).wf = false := by decide
theorem test_wf_write_value_too_wide : (Instr.registerWrite { goodWrite with value := 2 ^ 32 } false).wf = false := by decide
theorem test_wf_vf_zero : (Instr.closeAll (.vf 0)).wf = false := by decide
theorem test_wf_vf_sixteen : (Instr.registerWrite { goodWrite with src := .vf 16 } false).wf = false := by decide
theorem test_wf_good_command : (Instr.nop (cmd 1 [])).wf = true := by decide
theorem test_wf_reply_opcode : (Instr.nop (cmd 0x8001 [])).wf = false := by decide
theorem test_wf_flags_too_wide : (Instr.nop { cmd 1 [] with flags := 256 }).wf = false := by decide
theorem test_wf_tag_too_wide : (Instr.nop { cmd 1 [] with tag := 2 ^ 32 }).wf = false := by decide
theorem test_wf_fetch_stamp_too_wide : (Instr.slotOrder { cmd 0x100 [] with fetch := 2 ^ 27 }).wf = false := by decide
theorem test_wf_payload_of_part_words : (Instr.nop (cmd 1 (zeros 5))).wf = false := by decide
theorem test_wf_issuer_of_no_function : (Instr.nop { cmd 1 [] with issuer := 17 }).wf = false := by decide
theorem test_wf_payload_too_long : (Instr.nop (cmd 1 (zeros 65524))).wf = false := by decide +kernel
theorem test_wf_good_frame : (Instr.fhFrameReceive 0 (goodFrame 14)).wf = true := by decide
theorem test_wf_short_frame : (Instr.fhFrameReceive 0 (goodFrame 13)).wf = false := by decide
theorem test_wf_frame_longer_than_passed : (Instr.fhFrameReceive 0 (goodFrame 65)).wf = false := by decide +kernel
theorem test_wf_short_fabric_frame : (Instr.fabCmd 0 ⟨zeros 31, [], 0⟩).wf = false := by decide
theorem test_wf_port_of_datagram : (Instr.mgmtDatagram ⟨0, 65536, 0, 0, false, false, []⟩).wf = false := by decide
theorem test_wf_module_number : (Instr.topo 0 ⟨zeros 32, [], 0⟩ { serial := 1, number := some 1023, links := [], quality := 0 }).wf = false := by decide
theorem test_wf_found_error_memory : (Instr.scrubWalk 0 [⟨4, 0, false⟩]).wf = false := by decide

/-! ## What the spec's examples print (their file is named; the figures are the spec's) -/

/-- 16: the check value of CRC-32C. -/
theorem test_crc32c_check_value :
    crc32c [0x31, 0x32, 0x33, 0x34, 0x35, 0x36, 0x37, 0x38, 0x39] = 0xE3069283 := by decide +kernel
/-- 16: the reply to a NOP with tag 9. -/
theorem test_nop_reply_packet : mkPacket 0 0x8001 9 (leBytes 4 0)
    = [0x44, 0x55, 0x01, 0x00, 0x01, 0x80, 0x01, 0x00, 0x09, 0x00, 0x00, 0x00, 0x7A, 0x98, 0xC1, 0x94, 0, 0, 0, 0] := by decide +kernel
/-- 02: the promised stamp of beat 5,011. -/
theorem test_stamp : mkStamp 5011 1000 = 0x004E4FE8 := by decide
/-- 04: CB_STRIDE of NCB 25,344, and the map of 131 blocks that 42 regions need. -/
theorem test_cb_stride : cbStride 25344 = 12736 ∧ ceilDiv (64 + 42 * 12736) 4096 = 131
    ∧ storedBlocks 42 12736 131 = 42 ∧ storedBlocks 42 12736 130 < 42 := by decide +kernel
/-- 04: pick_shift of 90 is 4, and −37 and +5 make byte 0x0E. -/
theorem test_compression : pickShift [some 90] = 4 ∧ nibbles [some (-37), some 5] 4 = [0x0E] := by decide +kernel
/-- 04: +20 combines with the stored −2 to −12, which stores as 0xF. -/
theorem test_combining : combineLlr [llrOfNibble 0xE 4] [some 20] 1 = [some (-12)] ∧ nibbles [some (-12)] 4 = [0x0F] := by decide +kernel
/-- 05: the FLOW_BLOCK trace record. -/
theorem test_trace_record : traceRec 0x7DA800 4 0 0x148 false 0x3C0B7 0x2000
    = [0x00, 0xA8, 0x7D, 0x00, 0x04, 0x00, 0x48, 0x01, 0xB7, 0xC0, 0x03, 0x00, 0x00, 0x20, 0x00, 0x00] := by decide +kernel
/-- 06: the bundle of five words that ends with its fifth. -/
theorem test_bundle : takeBundle 6 [0x08528080, 0x0873FFFF, 0x40810C2B, 0xA8228404, 0xCE4E0000, 0]
      = [0x08528080, 0x0873FFFF, 0x40810C2B, 0xA8228404, 0xCE4E0000]
    ∧ bundleOk 0 [0x08528080, 0x0873FFFF, 0x40810C2B, 0xA8228404, 0xCE4E0000] = true := by decide +kernel
/-- 08: UE 2's job has E_r 11,232 for every block, and its TB has 42 blocks of lifting size 384. -/
theorem test_rate_matching : eOf 471744 2 6 42 0 = 11232 ∧ eOf 471744 2 6 42 41 = 11232 ∧ (ldpcSeg 352264 1).c = 42
    ∧ (ldpcSeg 352264 1).lift = 384 := by decide +kernel
/-- 08: status words 5 and 17. -/
theorem test_status_words : statusBits true true true false false 4 = 0x040F ∧ statusBits false false true false false 16 = 0x100A := by
  decide
/-- 11: symbol 13 of a slot at 30 kHz starts 464.323 µs into it. -/
theorem test_symbol_start : (symTs 1 13 * 12500 + 192) / 384 = 464323 := by decide
/-- 19 and 20: places of two of the power counters. -/
theorem test_power_counter_places : RegId.offset .POWER_CNT 7 = RegId.offset .POWER_CNT 0 - 0x100 + 0x124
    ∧ RegId.offset .POWER_CNT 16 = RegId.offset .POWER_CNT 0 - 0x100 + 0x150 := by decide +kernel

/-! ## The placement example of 02: one step of the admission unit over a calendar built for it -/

/-- A constant function of a cost table, and entries that use it. -/
def fn0 (n : Nat) : List Byte := leBytes 4 (n * 65536) ++ zeros 4
def units (pool src val n : Nat) : List Byte := leBytes 1 pool ++ leBytes 1 src ++ leBytes 1 val ++ zeros 1 ++ leBytes 2 16 ++ zeros 2 ++ fn0 n
def quanta (pool n b : Nat) : List Byte := leBytes 1 pool ++ zeros 3 ++ leBytes 2 24 ++ zeros 2 ++ fn0 n ++ fn0 b
def costs (l : List (List Byte)) : List Byte := padTo 128 (leBytes 1 l.length ++ zeros 3 ++ l.flatten)
/-- Task `i` of the example: its class, its ports, and its one successor, task `i + 1`. -/
def task (i cls ports succs : Nat) : List Byte :=
  leBytes 1 cls ++ zeros 1 ++ leBytes 2 succs ++ leBytes 4 (384 + 4 * i) ++ leBytes 2 ports ++ zeros 2 ++ leBytes 4 (512 + 128 * i) ++ zeros 16
def placeImg : List Byte :=
  padTo 384 (padTo 256 (leBytes 4 0x01474B41 ++ leBytes 2 1 ++ zeros 10 ++ leBytes 4 1024 ++ leBytes 2 4 ++ leBytes 2 1 ++ leBytes 4 256)
    ++ task 0 0 1 1 ++ task 1 1 0 1 ++ task 2 2 0 1 ++ task 3 8 0 0)
  ++ padTo 128 (leBytes 4 1 ++ leBytes 4 2 ++ leBytes 4 3)
  ++ costs [quanta 0 8 230, units 8 1 0 40000, units 7 0 0 40000] ++ costs [quanta 1 16 240]
  ++ costs [quanta 2 6 480, units 8 1 0 60000] ++ costs [units 9 1 0 120, units 0xA 1 0 1200]
/-- A column of the example: what is reserved of CORE, BMU and LDEC on CD2 and of LDEC on CD3. -/
def exCol (b : Nat) : Column :=
  let r := fun (p i : Nat) => if p = 0 ∧ i = 2 ∧ b = 5008 then 50000 else if p = 1 ∧ i = 2 ∧ b = 5009 then 9000
    else if p = 2 ∧ i = 2 ∧ b = 5010 then 5000 else if p = 2 ∧ i = 3 ∧ b = 5010 then 4000 else 0
  let cell := fun (p i a c : Nat) => (⟨p, i, a, a - r p i, r p i, c⟩ : PoolCell)
  ⟨b, 4, (List.range 4).flatMap (fun i => [cell 0 i 60000 64000, cell 1 i 15000 16000, cell 2 i 7500 8000,
    cell 6 i 2929687 3125000, cell 7 i 2929687 3125000])
    ++ [cell 8 0 8789062 9375000, cell 9 0 60000 64000, cell 0xA 0 102539 109375, cell 0x11 0 1024 1024]⟩
def exCal : List Column := (List.range 64).map (fun i => exCol (5002 + i))
def exOrd : DecIn := ⟨placeImg, List.replicate 16 0, 2, 15, mkStamp 5011 1000, [(0, mkStamp 5003 600)]⟩


/-- 02: the order is placed at 5,008 to 5,011 on CD2, CD2, CD3 and (no die of its own) with its promise in beat 5,011. -/
theorem test_placement_example : (match placeAll exOrd exCal 0 5011 5002 with | .ok _ pl p => some (pl, p) | _ => none)
    = some ([(0, 5008, 2), (1, 5009, 2), (2, 5010, 3), (3, 5011, 2)], 5011) := by decide +kernel
/-- 02: an order for beat 5,005 does not fit its window, and the earliest beat for it is 5,007. -/
theorem test_second_order_example : placeAll exOrd exCal 0 5005 5002 = .window ∧ firstOpenAt (mkStamp 5000 1010) = 5002
    ∧ earliestFrom exOrd exCal 0 5002 60 5006 = 5007 := by decide +kernel

/-! ## Further examples -/

/-- 03: COUNT's points (0, 0) and (276, 8) give 8 at 273, and BUDGET's (16, 80) and (64, 230) give 230 at 64. -/
def fn1 (x0 y0 x1 y1 : Nat) : List Byte :=
  zeros 4 ++ leBytes 1 1 ++ zeros 3 ++ zeros 1 ++ leBytes 1 0xFF ++ leBytes 1 2 ++ zeros 1 ++ leBytes 2 x0 ++ leBytes 2 x1 ++ zeros 4
    ++ leBytes 4 (y0 * 65536) ++ leBytes 4 (y1 * 65536) ++ zeros 12
theorem test_cost_functions : evalFn (fn1 0 0 276 8) 0 [273] = 8 ∧ evalFn (fn1 16 80 64 230) 0 [64] = 230 ∧ quantumOf 230 = 250 := by
  decide +kernel

/-- 07: a 64-QAM symbol with real part 2.2/√42 and ν 0.05 gives the LLRs 18, 14 and 2 for bits 0, 2 and 4. -/
def exSym : CF := ((fmul (fdiv (fofInt 22 0).1 (fofInt 10 0).1).1 (frsqrt (fofInt 42 0).1).1).1, 0)
theorem test_demap : [0, 2, 4].map (fun j => llrOf 6 2 j exSym (fdiv (fofInt 1 0).1 (fofInt 20 0).1).1) = [18, 14, 2] := by decide +kernel

/-- 10: L-SIG RATE 0b1011 and LENGTH 1,500, started at 1.85 µs, end at 357.85 µs. -/
def receiving : State := (State.reset.setSeState 3 3).setStream 3 { search := some 0 }
theorem test_l_sig : (match exec (.lsigDecoded 3 (softOf (0b1101 + 1500 * 32)) 9850) receiving with
    | .next t => some ((t.stream 3).fin, t.seState 3) | _ => none) = some (some 357850, 4) := by decide +kernel

/-- 14: a Cave copy to 6 bytes above its source runs DESCENDING, SWAP32 refuses it, and with 4 bytes SWAP32 runs DESCENDING. -/
def copyBy (swap d : Nat) : Xfer :=
  { desc := zeros 3 ++ leBytes 1 swap ++ leBytes 4 4096 ++ leBytes 8 0xE20000100 ++ leBytes 8 (0xE20000100 + d) ++ zeros 40, hub := true, exec := 0 }
theorem test_copy_orders : (copyBy 0 6).order = some true ∧ (copyBy 2 6).order = none ∧ (copyBy 2 4).order = some true := by decide +kernel

/-- 18: the delivered error record. -/
theorem test_error_record : ErrRec.bytes ⟨mkStamp 8044 40, 0x62, 0, 2, 0, 0x0D59F8FD00, 336, 0x7F, 0x000380A2, none, 2, 4, 0, 0⟩ 0 0x000380A2
    = [0x28, 0xB0, 0x7D, 0x00, 0x62, 0x00, 0x02, 0x00, 0x00, 0xFD, 0xF8, 0x59, 0x0D, 0x00, 0x00, 0x00, 0x50, 0x01, 0x7F, 0x00,
       0xA2, 0x80, 0x03, 0x00, 0x02, 0x00, 0x00, 0x00, 0x04, 0x00, 0x00, 0x00] := by decide +kernel

/-- 01: BASE takes 0x10; 0x18 is discarded and recorded at offset 0x40. -/
theorem test_cave_window : (match exec (.registerWrite ⟨0x40, 4, 0x10, .pf0⟩ false) live with
    | .next t => (match exec (.registerWrite ⟨0x40, 4, 0x18, .pf0⟩ false) t with
      | .next u => some (t.reg .GLOBAL_CAVEWIN, u.reg .GLOBAL_CAVEWIN, u.fld Fld.GLOBAL_WERR_OFFSET, u.fld Fld.GLOBAL_WERR_VALID)
      | _ => none)
    | _ => none) = some (0x10, 0x10, 0x40, 1) := by decide +kernel

/-- 10: the B4 occasion's figures, and preamble 37's record. -/
def exPrach : Prach := ⟨10, 4, 0x0A, prachLra 0x0A 0, prachRep 0x0A, prachIdft 0x0A 0, prachDf 0x0A 1, 64, 48, 40⟩
theorem test_prach_figures : exPrach.nv = 34 ∧ exPrach.nRoot = 2 ∧ exPrach.w = 8 ∧ exPrach.idft = 256 := by decide +kernel
theorem test_prach_record : (prachRecord exPrach 1 64 37 12 (fofInt 1000 0).1 (fofInt 62500 0).1 (fofInt 42000 0).1 26)
    = [0x25, 0x00, 0x02, 0x00, 0xE6, 0x03, 0x00, 0x00, 0x55, 0xBD, 0xEE, 0x08, 0x4E, 0x07, 0x1A, 0x00] := by decide +kernel

/-- 11: READY (8,040, 400) binds to slot 9 of SFN 100, counted from frame 0 in epoch 6. -/
theorem test_slot_binding : (runAt (8040 * 1024 + 400) State.reset).bindSlot 1 13 (mkStamp 8040 400) = some 2009 := by decide +kernel

/-- The queue of waiting commands is empty after reset. -/
theorem test_wit_StepTakesFrontCommand : State.reset.pending = [] := rfl

end Sys2Proof.Tests
end

section
/-!
The obligations of 00_scope.md: the registers after reset, the words of the shadow registers, and work over the fabric.
-/
namespace Sys2Proof.Machine

/-! ## Registers after reset -/

/-- The key of a register names its kind. -/
@[simp] theorem RegId.key_mod (r : RegId) (i : Nat) : r.key i % 512 = r.ctorIdx := by
  have hr : r.ctorIdx < 512 := by cases r <;> decide
  unfold RegId.key
  omega

/-- Every register reads the reset value of its kind. -/
theorem State.reg_reset (r : RegId) (i : Nat) : State.reset.reg r i = resetWords.getD r.ctorIdx 0 := by
  unfold State.reg resetOfKey
  rw [RegId.key_mod]
  rfl

/-- Settles O2: each register reads the reset word that its fields make up. -/
theorem resetValues : Obligations.ResetValues := by
  unfold Obligations.ResetValues
  refine ⟨rfl, by decide, rfl, ?_⟩
  simp only [State.fld, State.reg_reset]
  decide +kernel

/-! ## Shadow words -/

/-- One latched word is one register write, of the fields of the latch's class. -/
theorem State.applyWords_single (s : State) (a : Access) (r : RegId) (i v : Nat) :
    s.applyWords a [(r.key i, some v)] = s.setReg r i (takeFields r.desc.fields (fun f => f.acc == a) (s.reg r i) v) := by
  simp only [State.applyWords, List.foldl_cons, List.foldl_nil, RegId.key_mod]
  rfl

/-- The beat tick changes the registers as `applyWords` does. -/
theorem State.regs_applyRws (s : State) : s.applyRws.regs = (s.applyWords .rws s.rwsLatched).regs := rfl

/-- Words change registers alone. -/
theorem State.regsOnly_applyWords (s : State) (a : Access) (m : Sparse (Option Nat)) : RegsOnly s (s.applyWords a m) := by
  refine (RegsOnly.refl s).foldl _ (fun u e h => ?_) m
  split
  · exact h.trans rfl
  · exact h

/-- The beat tick touches no memory. -/
theorem State.sameMemory_applyRws (s : State) : SameMemory s s.applyRws :=
  (s.regsOnly_applyWords .rws s.rwsLatched).sameMemory

/-- Settles O11: a single latched word is a register write, and the waiting words move up by definition. -/
theorem shadowWordsTakeEffect : Obligations.ShadowWordsTakeEffect := by
  unfold Obligations.ShadowWordsTakeEffect
  refine ⟨fun s r i v hl => ?_, fun s => ⟨rfl, rfl, rfl, rfl, rfl⟩⟩
  have hreg : ∀ q j, s.applyRws.reg q j
      = (s.setReg r i (takeFields r.desc.fields (fun f => f.acc == .rws) (s.reg r i) v)).reg q j := by
    intro q j
    rw [← State.applyWords_single, ← hl]
    exact State.reg_congr s.regs_applyRws q j
  refine ⟨by rw [hreg]; simp, fun q j hq => ?_, rfl, s.sameMemory_applyRws⟩
  rw [hreg, State.reg_setReg, if_neg (by simpa using hq)]

/-! ## Work over the fabric

The last clause about REMOTE_ACK judges whether a job has sent everything in the state before the frame, where `State.jobQueued`
looks at every entry of the link table. Accepting the frame rewrites the entry of its link, and `Sparse.set` leaves one entry of
that key. A table that lists a link twice (no canonical table does) so loses the frame that waits in the second entry: the job
counts as sent, and ends. -/

namespace LinkListedTwice

/-- A REMOTE job that runs. -/
def job : Curd :=
  { handle := 0, task := 0, index := 0, cls := 11, budget := 0, quantum := 125, beat := 0, die := 0, dep := 0, flow := 0, entry := 0
    entryOff := 0, args := 0, succ := 0, nSucc := 0, prio := 0, addr := 0x40000040, rank := 0, st := .running }

/-- Its REMOTE_RUN to module 3, not yet answered. -/
def request : RemoteJob := { curd := job.addr, lessor := 3 }

/-- A frame of the job that waits on its link. -/
def waitingFrame : TxFrame := { kind := 1, vl := 1, dst := 3, src := 1022, payload := [], curd := some job.addr }

/-- Module 1,022, link 0 UP and listed twice; the job's frame waits in the second entry. -/
def start : State :=
  { ((State.reset.setFld Fld.FL_STAT_STATE 0 4).setFld Fld.FAB_MODNUM_VALID 0 1).setFld Fld.FAB_MODNUM_NUMBER 0 1022 with
    curds := [job], fab := { links := [(0, {}), (0, { txQ := [waitingFrame] })], jobs := [request] } }

/-- The REMOTE_ACK of module 3 that accepts the job. -/
def ack : FabFrame :=
  let p := leBytes 4 1 ++ leBytes 4 0
  ⟨({ kind := 5, vl := 2, dst := 1022, src := 3, payload := p } : TxFrame).header false 0 0 ++ p, [], 0⟩

theorem forUs_ack : ForUs start 0 5 ack := by
  unfold ForUs Accepts
  decide +kernel

theorem job_not_sent : start.jobSent job = false := by decide +kernel

/-- Accepting the frame drops the second entry, so the job ends and is forgotten. -/
theorem no_jobs_after_ack : (start.remoteAck 0 ack).fab.jobs = [] := by decide +kernel

end LinkListedTwice

/-- Refutes O52: accepting REMOTE_ACK on a link that the link table lists twice drops the frame in the second entry, so that the
job, which had not sent everything, ends, where the clause keeps it as an acknowledged job. -/
theorem not_fabricJobs : ¬ Obligations.FabricJobs := by
  unfold Obligations.FabricJobs
  rintro ⟨-, -, -, -, hack, -⟩
  obtain ⟨-, hjob⟩ := hack LinkListedTwice.start 0 LinkListedTwice.ack LinkListedTwice.forUs_ack
  obtain ⟨-, -, hkeep⟩ := hjob LinkListedTwice.request LinkListedTwice.job (by decide +kernel) (by decide +kernel)
  obtain ⟨t, ht, y, hy, -⟩ := hkeep (by decide +kernel) LinkListedTwice.job_not_sent
  obtain rfl : LinkListedTwice.start.remoteAck 0 LinkListedTwice.ack = t := Host.Outcome.next.inj ht
  rw [LinkListedTwice.no_jobs_after_ack] at hy
  cases hy

end Sys2Proof.Machine
end

section
/-!
The obligation of 03_slot_orders.md: the image commands.

A load whose signature does not verify raises the event VERIFY_FAIL (R497, Table 20.8) before it is answered. Where a subscriber of
the management port takes events of that severity, its notice leaves at once, ahead of the answer; so what the load sends is two
packets, where the clause about the signature allows the one answer.
-/
namespace Sys2Proof.Machine

/-- An answer is one packet. -/
theorem Replied.length_replies {s t : State} {c : CmdCtx} {sw : Nat} {rest : List Byte} (h : Replied s t c sw rest) :
    t.replies.length = s.replies.length + 1 := by
  obtain ⟨⟨tr, hr⟩, -⟩ := h
  rw [hr, List.length_append, List.length_singleton]

namespace UnverifiedImage

/-- A graph image of one HUB_DMA task, whose cost table charges nothing; its KEY_ID is 0, which names no key. -/
def image : List Byte :=
  leBytes 4 0x01474B41 ++ leBytes 2 1 ++ zeros 10 ++ leBytes 4 292 ++ leBytes 2 1 ++ zeros 2 ++ leBytes 4 256 ++ zeros 16
    ++ leBytes 4 292 ++ zeros 208
    ++ (leBytes 1 8 ++ zeros 11 ++ leBytes 4 288 ++ zeros 16)
    ++ zeros 4

/-- The IMAGE_LOAD of slot 7 from ring pair 0. -/
def load : CmdCtx :=
  { src := .pair 0, issuer := 0, opcode := 0x1010, flags := 0, tag := 9, fetch := 0
    payload := leBytes 2 7 ++ zeros 2 ++ leBytes 4 292 ++ zeros 8 }

/-- The subscriber: a controller behind the management port, to which every event is sent. -/
def controller : Subscriber := { src := .port 1 5120, minSev := 0 }

/-- Slot 7 is LOADING, the management port carries traffic, and the controller is subscribed. -/
def start : State :=
  { State.reset.setFld Fld.MGMT_CFG_EN 0 1 with
    images := [(7, { state := 1, loadLen := 292, loadCtx := some load })]
    mg := { State.reset.mg with subs := [controller] } }

theorem imageOk_image : imageOk image = true := by decide +kernel

/-- KEY_ID 0 names no key of a graph image, whatever the signature. -/
theorem signature_fails : (start.verifySig 1 (u32 image 224) (imgSigned image) (slice image 128 96)).1 = false := by
  have hkey : start.keyValid 1 (u32 image 224) = false := by decide +kernel
  rw [State.verifySig, State.verify, hkey, Bool.false_and]

/-- The end of the load sends the controller's notice and the answer. -/
theorem two_packets_sent {t : State} (h : exec (.imageLoadComplete 7 image) start = .next t) : t.replies.length = 2 := by
  obtain rfl := Host.Outcome.next.inj h
  decide +kernel

end UnverifiedImage

open UnverifiedImage in
/-- Refutes O34: with a subscriber on the management port, the end of a load whose signature does not verify sends the notice of
VERIFY_FAIL as well as the answer, where the clause has the answer alone. -/
theorem not_imageCommands : ¬ Obligations.ImageCommands := by
  unfold Obligations.ImageCommands
  rintro ⟨-, hend, -⟩
  obtain ⟨-, hloading⟩ := hend start 7 image
  obtain ⟨-, -, hsignature, -⟩ := hloading load (by decide +kernel) (by decide +kernel)
  obtain ⟨t, ht, -, -, -, -, hreplied⟩ := hsignature (by decide +kernel) imageOk_image signature_fails
  have hone : t.replies.length = 1 := hreplied.length_replies
  rw [two_packets_sent ht] at hone
  omega

end Sys2Proof.Machine
end

section
/-!
The obligation of 05_dispatch.md: how a core's waits end.
-/
namespace Sys2Proof.Machine

/-! ## Cores -/

@[simp] theorem State.core_setCore_same (s : State) (n : Nat) (c : Core) : (s.setCore n c).core n = c :=
  Sparse.get_set_same ({} : Core) s.cores n c

/-- Another state with the same cores. -/
theorem State.core_congr {s t : State} (h : t.cores = s.cores) (n : Nat) : t.core n = s.core n := by
  rw [State.core, State.core, h]

@[simp] theorem State.core_setReg (s : State) (r : RegId) (i v n : Nat) : (s.setReg r i v).core n = s.core n := rfl
@[simp] theorem State.core_setFld (s : State) (f : Fld) (i v n : Nat) : (s.setFld f i v).core n = s.core n := rfl
@[simp] theorem State.core_bump (s : State) (r : RegId) (i k n : Nat) : (s.bump r i k).core n = s.core n := rfl
@[simp] theorem State.core_used (s : State) (n : Nat) : s.used.core n = s.core n := rfl

@[simp] theorem State.reg_setCore (s : State) (n : Nat) (c : Core) (r : RegId) (i : Nat) : (s.setCore n c).reg r i = s.reg r i := rfl
@[simp] theorem State.curdAt_setCore (s : State) (n : Nat) (c : Core) (a : Nat) : (s.setCore n c).curdAt a = s.curdAt a := rfl
@[simp] theorem State.curdAt_setReg (s : State) (r : RegId) (i v a : Nat) : (s.setReg r i v).curdAt a = s.curdAt a := rfl
@[simp] theorem State.curdAt_setFld (s : State) (f : Fld) (i v a : Nat) : (s.setFld f i v).curdAt a = s.curdAt a := rfl

@[simp] theorem State.core_setCmu (s : State) (n : Nat) (ops : List CmuOp) (l : Option Nat) :
    (s.setCmu n ops l).core n = { s.core n with cmu := ops, longAt := l } := by
  simp [State.setCmu]

/-- The CMU's operations show in CORE_STAT alone. -/
theorem State.reg_setCmu (s : State) (n : Nat) (ops : List CmuOp) (l : Option Nat) {q : RegId} (hq : q ≠ .CORE_STAT) (j : Nat) :
    (s.setCmu n ops l).reg q j = s.reg q j := by
  simp [State.setCmu, hq]

/-! ## A curd's end -/

/-- Reading a curd after a change that leaves its address. -/
theorem State.curdAt_modCurd (s : State) (a : Nat) (f : Curd → Curd) (hf : ∀ c, (f c).addr = c.addr) :
    (s.modCurd a f).curdAt a = (s.curdAt a).map f := by
  have hpred : ((fun c : Curd => c.addr == a) ∘ fun c => if c.addr = a then f c else c) = fun c => c.addr == a := by
    funext c
    by_cases h : c.addr = a <;> simp [h, hf]
  rw [State.curdAt, State.curdAt, State.modCurd, List.find?_map, hpred]
  cases hfind : s.curds.find? (fun c => c.addr == a) with
  | none => rfl
  | some x =>
    have hx : x.addr = a := by simpa using List.find?_some hfind
    simp [hx]

/-- A curd that has not ended ends with the status. -/
theorem State.curdAt_endCurd {s : State} {a st : Nat} {x : Curd} (hx : s.curdAt a = some x) (hlive : x.st ≠ .ended) :
    (s.endCurd a st).curdAt a = some (x.ended s.stamp st) := by
  have haddr : ∀ c : Curd, (if c.st = .ended then c else c.ended s.stamp st false).addr = c.addr := by
    intro c
    split <;> rfl
  rw [State.endCurd, State.curdAt_modCurd _ _ _ haddr, hx, Option.map_some, if_neg hlive]

/-- What `coreFinish` does: the core holds no curd, waits for nothing and shows state `w`, and the curd it held has ended. -/
theorem State.coreFinish_spec (s : State) (n st w : Nat) (hw : w < 4) :
    ((s.coreFinish n st w).core n).curd = none ∧ ((s.coreFinish n st w).core n).wait = .none
    ∧ (s.coreFinish n st w).fld Fld.CORE_STAT_STATE n = w ∧ (s.coreFinish n st w).reg .CORE_CUR n = 0
    ∧ ∀ a x, (s.core n).curd = some a → s.curdAt a = some x → x.st ≠ .ended →
      (s.coreFinish n st w).curdAt a = some (x.ended s.stamp st) := by
  refine ⟨by simp [State.coreFinish], by simp [State.coreFinish], ?_, by simp [State.coreFinish], fun a x hcurd hx hlive => ?_⟩
  · simp [State.coreFinish]
    omega
  · simpa [State.coreFinish, hcurd] using State.curdAt_endCurd hx hlive

/-! ## Local stores become visible -/

/-- One local store, performed in VM or TSM. -/
def State.storeLocal (n : Nat) (t : State) (e : Nat × Byte) : State :=
  match localKey n e.1 with
  | some (2, k) => { t with vm := Sparse.set 0 t.vm k e.2 }
  | some (_, k) => { t with tsm := Sparse.set 0 t.tsm k e.2 }
  | none => t

/-- With storage intact, making the stores visible performs them and empties the buffer. -/
theorem State.flushLocal_of_intact {s : State} (h : Intact s) (n : Nat) :
    s.flushLocal n = ((s.core n).lbuf.foldl (State.storeLocal n) s).setCore n { s.core n with lbuf := [] } := by
  obtain ⟨hbad, -, harm⟩ := h
  rw [State.flushLocal, if_pos ⟨hbad, harm⟩]
  rfl

/-- Local stores change VM and TSM. -/
theorem State.foldl_storeLocal (n : Nat) (l : List (Nat × Byte)) (s : State) :
    ∃ vm tsm, l.foldl (State.storeLocal n) s = { s with vm := vm, tsm := tsm } := by
  induction l generalizing s with
  | nil => exact ⟨s.vm, s.tsm, rfl⟩
  | cons e l ih =>
    have hone : ∃ vm tsm, State.storeLocal n s e = { s with vm := vm, tsm := tsm } := by
      unfold State.storeLocal
      split <;> exact ⟨_, _, rfl⟩
    obtain ⟨vm, tsm, he⟩ := hone
    rw [List.foldl_cons, he]
    exact ih { s with vm := vm, tsm := tsm }

/-- What making the stores visible changes: VM, TSM and the core's buffer. -/
theorem State.flushLocal_frame {s : State} (h : Intact s) (n : Nat) :
    ∃ vm tsm, s.flushLocal n = ({ s with vm := vm, tsm := tsm } : State).setCore n { s.core n with lbuf := [] } := by
  obtain ⟨vm, tsm, hfold⟩ := State.foldl_storeLocal n (s.core n).lbuf s
  exact ⟨vm, tsm, by rw [State.flushLocal_of_intact h, hfold]⟩

/-- The last store to a byte of VM stands there. -/
theorem State.get_flushLocal_last {s : State} (h : Intact s) {n a q : Nat} {l : List (Nat × Byte)} {b : Byte}
    (hbuf : (s.core n).lbuf = l ++ [(a, b)]) (hkey : localKey n a = some (2, q)) : Sparse.get 0 (s.flushLocal n).vm q = b := by
  rw [State.flushLocal_of_intact h, hbuf, List.foldl_append, List.foldl_cons, List.foldl_nil, State.storeLocal, hkey]
  exact Sparse.get_set_same 0 _ q b

/-! ## GIVE, stops and fences -/

/-- No entry drains where no merge buffer is in use. -/
theorem State.drainAll_of_merges_nil {s : State} (h : s.merges = []) (p : Merge → Bool) : s.drainAll p = (true, s) := by
  rw [State.drainAll, h]
  rfl

/-- With storage intact, the end of a GIVE makes the core's stores visible and finishes its curd. -/
theorem exec_giveEnd_of_quiet {s : State} {n : Fin 256} {st : Nat} (hwait : (s.core n.val).wait = .give st)
    (hquiet : s.coreQuiet n.val = true) (h : Intact s) :
    exec (.giveEnd n) s = .next ((s.flushLocal n.val).coreFinish n.val
      (if (s.core n.val).wprot = true ∨ (s.core n.val).lateErr = true then 0x12 else st) 2) := by
  obtain ⟨vm, tsm, hflush⟩ := State.flushLocal_frame h n.val
  obtain ⟨-, hnone, -⟩ := h
  have hmerges : (s.flushLocal n.val).merges = [] := by rw [hflush]; exact hnone
  have hcore : (s.flushLocal n.val).core n.val = { s.core n.val with lbuf := [] } := by rw [hflush]; simp
  show execGiveEnd n s = _
  simp only [execGiveEnd, hwait, hquiet, if_true, State.drainAll_of_merges_nil hmerges, hcore]

/-- With storage intact, a core whose CMU and transfers are drained ends its stop: its stores become visible and its curd ends. -/
theorem exec_curdStopEnd_of_drained {s : State} {n : Fin 256} {st : Nat} (hwait : (s.core n.val).wait = .stop st)
    (hcmu : (s.core n.val).cmu = []) (hbusy : s.tileBusy (coreTile n.val) (s.core n.val).curd = false) :
    exec (.curdStopEnd n) s = .next ((s.flushLocal n.val).coreFinish n.val st 1) := by
  show execCurdStopEnd n s = _
  simp [execCurdStopEnd, hwait, hcmu, hbusy]

/-- The end of a curd after its core's stores have become visible. -/
theorem State.coreFinish_flushLocal_spec {s : State} (h : Intact s) (n st w : Nat) (hw : w < 4) :
    let t := (s.flushLocal n).coreFinish n st w
    (t.core n).curd = none ∧ (t.core n).wait = .none ∧ t.fld Fld.CORE_STAT_STATE n = w ∧ t.reg .CORE_CUR n = 0
    ∧ ∀ a x, (s.core n).curd = some a → s.curdAt a = some x → x.st ≠ .ended → t.curdAt a = some (x.ended s.stamp st) := by
  obtain ⟨vm, tsm, hflush⟩ := State.flushLocal_frame h n
  obtain ⟨hcurd, hwait, hstate, hcur, hend⟩ := (s.flushLocal n).coreFinish_spec n st w hw
  refine ⟨hcurd, hwait, hstate, hcur, fun a x ha hx hlive => ?_⟩
  have hstamp : (s.flushLocal n).stamp = s.stamp := by rw [hflush]; rfl
  rw [← hstamp]
  refine hend a x ?_ ?_ hlive
  · rw [hflush, State.core_setCore_same]; exact ha
  · rw [hflush]; exact hx

/-- A fence whose condition holds lets issue resume; one of local stores makes them visible. -/
theorem exec_fenceComplete_of_met {s : State} {n : Fin 256} {k : Nat} (hwait : (s.core n.val).wait = .fence k)
    (hmet : s.fenceMet n.val k = true) :
    exec (.fenceComplete n) s = .next
      (let t := if k = 3 ∨ k = 6 then s.flushLocal n.val else s
       t.setCore n.val { t.core n.val with wait := .none }) := by
  show execFenceComplete n s = _
  simp only [execFenceComplete, hwait, hmet, if_true]

/-! ## Cave stores -/

/-- With storage intact, a write of a code word, whole or in part, leaves the codes as they are. -/
theorem State.writeWord_of_intact {s : State} (hbad : s.bad = []) (hmerges : s.merges = []) (w : Nat × Nat) (whole : Bool)
    (die src handle : Nat) : s.writeWord w whole die src handle = s := by
  have hclean : s.wordClean w = s := by
    rw [State.wordClean, hbad, hmerges, List.filter_nil, List.filter_nil, ← hbad, ← hmerges]
  simp [State.writeWord, State.mergeAt, State.wordErr, hbad, hmerges, hclean]

theorem State.writeWords_of_intact {s : State} (hbad : s.bad = []) (hmerges : s.merges = []) (mem a k die src handle : Nat) :
    s.writeWords mem a k die src handle = s := by
  rw [State.writeWords]
  induction wordsOf mem a k with
  | nil => rfl
  | cons w l ih => rw [List.foldl_cons, State.writeWord_of_intact hbad hmerges, ih]

/-- No write meets an injector that is not armed. -/
theorem State.flip_of_disarmed {s : State} (h : s.fld Fld.ECC_FLIP_CFG_ARM = 0) (mem a src : Nat) : s.flip mem a src = s := by
  simp [State.flip, h]

/-- A byte stored in the Cave changes the Cave or a descriptor. -/
theorem State.caveSet_frame (s : State) (a : Nat) (b : Byte) :
    ∃ cave curds, s.caveSet a b = { s with cave := cave, curds := curds } := by
  unfold State.caveSet
  dsimp only
  split
  · exact ⟨_, _, rfl⟩
  · split
    · exact ⟨_, _, rfl⟩
    · split <;> exact ⟨_, _, rfl⟩
    · exact ⟨_, _, rfl⟩

theorem State.caveBytes_frame (p : List Byte) (s : State) (a : Nat) :
    ∃ cave curds, s.caveBytes a p = { s with cave := cave, curds := curds } := by
  induction p generalizing s a with
  | nil => exact ⟨s.cave, s.curds, rfl⟩
  | cons b r ih =>
    obtain ⟨cave, curds, hset⟩ := s.caveSet_frame a b
    rw [State.caveBytes, hset]
    exact ih { s with cave := cave, curds := curds } (a + 1)

/-- With every code word intact, a write to the Cave is its bytes, after the deep tier has woken. -/
theorem State.caveWrite_of_bad_nil {s : State} (hbad : s.bad = []) (a : Nat) (p : List Byte) :
    ∃ pw, s.caveWrite a p = ({ s with pw := pw } : State).caveBytes a p := by
  have hwake : ∃ pw, s.wakeStack a p.length = { s with pw := pw } := by
    unfold State.wakeStack
    split <;> exact ⟨_, rfl⟩
  obtain ⟨pw, hpw⟩ := hwake
  refine ⟨pw, ?_⟩
  rw [State.caveWrite, hpw, State.caveHeal, if_pos hbad]

/-- Address `a` is one whose byte is held as such: mapped above the low SYSTEM region, in a block without image bytes or descriptors. -/
def State.PlainAt (s : State) (a : Nat) : Prop :=
  0x40000000 ≤ a ∧ caveMapped a = true ∧ (∀ i k, s.owner (a / 4096) ≠ some (.image i k)) ∧ ∀ c ∈ s.curds, c.addr / 4096 ≠ a / 4096

/-- Addresses of one block are plain together. -/
theorem State.PlainAt.of_same_block {s : State} {a b : Nat} (h : s.PlainAt a) (hb : b / 4096 = a / 4096) : s.PlainAt b := by
  obtain ⟨hlow, hmapped, himage, hcurds⟩ := h
  refine ⟨by omega, ?_, by rwa [hb], by rwa [hb]⟩
  simp only [caveMapped, Bool.or_eq_true, Bool.and_eq_true, decide_eq_true_eq] at hmapped ⊢
  omega

theorem canonAddr_of_le {a : Nat} (h : 0x40000000 ≤ a) : canonAddr a = a := by
  rw [canonAddr, if_neg (by omega), if_neg (by omega)]

/-- No descriptor lies in the line of a plain address. -/
theorem State.PlainAt.curd_addr_ne {s : State} {a : Nat} (h : s.PlainAt a) {c : Curd} (hc : c ∈ s.curds) : c.addr ≠ a / 64 * 64 := by
  obtain ⟨-, -, -, hcurds⟩ := h
  have := hcurds c hc
  omega

/-- Storing a plain byte. -/
theorem State.PlainAt.caveSet_eq {s : State} {a : Nat} (h : s.PlainAt a) (b : Byte) :
    s.caveSet a b = { s with cave := Sparse.set 0 s.cave a b } := by
  have hcurds : s.curds.any (fun c => c.addr == a / 64 * 64) = false := by
    simpa using fun c hc => h.curd_addr_ne hc
  obtain ⟨hlow, hmapped, himage, -⟩ := h
  have hreach : (!caveMapped a || decide (a < 0x14000000)) = false := by
    simp only [hmapped, Bool.not_true, Bool.false_or, decide_eq_false_iff_not]
    omega
  unfold State.caveSet
  simp only [canonAddr_of_le hlow, hreach, hcurds, Bool.false_eq_true, if_false]
  split
  · exact absurd ‹_› (himage _ _)
  · rfl
  · rfl

/-- Reading a plain byte. -/
theorem State.PlainAt.caveByte_eq {s : State} {a : Nat} (h : s.PlainAt a) : s.caveByte a = Sparse.get 0 s.cave a := by
  have hfind : s.curds.find? (fun c => c.addr == a / 64 * 64) = none := by
    simpa using fun c hc => h.curd_addr_ne hc
  obtain ⟨hlow, -, himage, -⟩ := h
  unfold State.caveByte
  simp only [canonAddr_of_le hlow, if_neg (show ¬a < 0x14000000 by omega), hfind]
  split
  · exact absurd ‹_› (himage _ _)
  · rfl
  · rfl

/-- Storing plain bytes. -/
theorem State.caveBytes_of_plain (p : List Byte) (s : State) (a : Nat) (h : ∀ i < p.length, s.PlainAt (a + i)) :
    s.caveBytes a p = { s with cave := writeBytes s.cave a p } := by
  induction p generalizing s a with
  | nil => rfl
  | cons b r ih =>
    have hhead : s.PlainAt a := h 0 (by simp)
    have htail : ∀ i < r.length, s.PlainAt (a + 1 + i) := fun i hi => by
      rw [Nat.add_assoc, Nat.add_comm 1 i]
      exact h (i + 1) (by simpa using hi)
    rw [State.caveBytes, hhead.caveSet_eq]
    exact ih { s with cave := Sparse.set 0 s.cave a b } (a + 1) htail

/-- Plain bytes read back after a write. -/
theorem State.caveRead_writeBytes {s : State} {a : Nat} {p : List Byte} (h : ∀ i < p.length, s.PlainAt (a + i)) :
    ({ s with cave := writeBytes s.cave a p } : State).caveRead a p.length = p := by
  refine List.ext_getElem (by simp [State.caveRead]) fun i _ hi => ?_
  have hplain : ({ s with cave := writeBytes s.cave a p } : State).PlainAt (a + i) := h i hi
  simp only [State.caveRead, List.getElem_map, List.getElem_range, hplain.caveByte_eq]
  exact get_writeBytes_same p s.cave a i hi

/-- A block that is not protected lies above the low SYSTEM region and belongs to no image. -/
theorem State.blockProtected_false {s : State} {a : Nat} (h : s.blockProtected a = false) :
    0x40000000 ≤ a ∧ ∀ i k, s.owner (a / 4096) ≠ some (.image i k) := by
  rw [State.blockProtected, Bool.or_eq_false_iff] at h
  obtain ⟨hsys, hown⟩ := h
  simp only [caveSystem, Bool.or_eq_false_iff, decide_eq_false_iff_not] at hsys
  refine ⟨by omega, fun i k ho => ?_⟩
  simp [ho] at hown

/-- An address of a block that is not protected, mapped and free of descriptors, is plain. -/
theorem State.plainAt_of_unprotected {s : State} {a : Nat} (h : s.blockProtected a = false) (hmapped : caveMapped a = true)
    (hcurds : ∀ c ∈ s.curds, c.addr / 4096 ≠ a / 4096) : s.PlainAt a := by
  have ⟨hlow, himage⟩ := State.blockProtected_false h
  exact ⟨hlow, hmapped, himage, hcurds⟩

theorem Intact.setCore {s : State} (h : Intact s) (n : Nat) (c : Core) : Intact (s.setCore n c) := h

/-- The hub performs a Cave store: the codes, the bytes and the injector see it. -/
def State.performStore (s : State) (n a h : Nat) (p : List Byte) : State := ((s.writeWords 0 a p.length 4 n h).caveWrite a p).flip 0 a n

/-- With storage intact, a store is its bytes alone, after the deep tier has woken. -/
theorem State.performStore_of_intact {s : State} (hs : Intact s) (n a h : Nat) (p : List Byte) :
    ∃ pw, s.performStore n a h p = ({ s with pw := pw } : State).caveBytes a p := by
  obtain ⟨hbad, hmerges, harm⟩ := hs
  obtain ⟨pw, hpw⟩ := State.caveWrite_of_bad_nil hbad a p
  obtain ⟨cave, curds, hbytes⟩ := State.caveBytes_frame p { s with pw := pw } a
  refine ⟨pw, ?_⟩
  have harmed : (({ s with pw := pw } : State).caveBytes a p).fld Fld.ECC_FLIP_CFG_ARM = 0 := by rw [hbytes]; exact harm
  rw [State.performStore, State.writeWords_of_intact hbad hmerges, hpw, State.flip_of_disarmed harmed]

/-- With storage intact, a store leaves the cores, the local memories and the registers. -/
theorem State.performStore_frame {s : State} (hs : Intact s) (n a h : Nat) (p : List Byte) :
    (s.performStore n a h p).cores = s.cores ∧ (s.performStore n a h p).vm = s.vm ∧ (s.performStore n a h p).tsm = s.tsm
    ∧ (s.performStore n a h p).regs = s.regs := by
  obtain ⟨pw, hstore⟩ := State.performStore_of_intact hs n a h p
  obtain ⟨cave, curds, hbytes⟩ := State.caveBytes_frame p { s with pw := pw } a
  rw [hstore, hbytes]
  exact ⟨rfl, rfl, rfl, rfl⟩

/-- With storage intact, a store to plain bytes writes them and no other. -/
theorem State.performStore_plain {s : State} (hs : Intact s) {a : Nat} {p : List Byte} (hplain : ∀ i < p.length, s.PlainAt (a + i))
    (n h : Nat) :
    (s.performStore n a h p).caveRead a p.length = p
    ∧ ∀ b, b < a ∨ a + p.length ≤ b → Sparse.get 0 (s.performStore n a h p).cave b = Sparse.get 0 s.cave b := by
  obtain ⟨pw, hstore⟩ := State.performStore_of_intact hs n a h p
  have hplain' : ∀ i < p.length, ({ s with pw := pw } : State).PlainAt (a + i) := hplain
  rw [hstore, State.caveBytes_of_plain p _ a hplain']
  exact ⟨State.caveRead_writeBytes hplain', fun b hb => get_writeBytes_other p s.cave a b hb⟩

/-- STORE_PERFORMED takes the core's oldest store, to a block that is not protected, and performs it. -/
theorem exec_storePerformed_of_open {s : State} {n : Fin 256} {x : CaveStore} {r : List CaveStore}
    (hcsts : (s.core n.val).csts = x :: r) (hopen : s.blockProtected x.addr = false) :
    ∃ h, exec (.storePerformed n) s
      = .next ((s.setCore n.val { s.core n.val with csts := r }).performStore n.val x.addr h x.data) := by
  have harm : exec (.storePerformed n) s = execStorePerformed n s := rfl
  simp only [harm, execStorePerformed, hcsts, hopen, Bool.false_eq_true, if_false]
  exact ⟨_, rfl⟩

/-- What STORE_PERFORMED leaves with storage intact: of a plain block, the store's bytes and no other. -/
theorem storePerformed_spec {s : State} {n : Fin 256} {x : CaveStore} {r : List CaveStore} (hcsts : (s.core n.val).csts = x :: r)
    (hopen : s.blockProtected x.addr = false) (hs : Intact s) :
    ∃ t, exec (.storePerformed n) s = .next t ∧ (t.core n.val).csts = r ∧ t.vm = s.vm ∧ t.tsm = s.tsm ∧ t.regs = s.regs
      ∧ (0x14000000 ≤ canonAddr x.addr → caveMapped (canonAddr x.addr) = true → canonAddr x.addr % 4096 + x.data.length ≤ 4096 →
        (∀ c ∈ s.curds, c.addr / 4096 ≠ canonAddr x.addr / 4096) → t.caveRead (canonAddr x.addr) x.data.length = x.data
        ∧ ∀ a, a < canonAddr x.addr ∨ canonAddr x.addr + x.data.length ≤ a → Sparse.get 0 t.cave a = Sparse.get 0 s.cave a) := by
  have ⟨hlow, _⟩ := State.blockProtected_false hopen
  obtain ⟨h, hexec⟩ := exec_storePerformed_of_open hcsts hopen
  have hu : Intact (s.setCore n.val { s.core n.val with csts := r }) := hs.setCore _ _
  obtain ⟨hcores, hvm, htsm, hregs⟩ := State.performStore_frame hu n.val x.addr h x.data
  refine ⟨_, hexec, ?_, hvm, htsm, hregs, ?_⟩
  · rw [State.core_congr hcores, State.core_setCore_same]
  · rw [canonAddr_of_le hlow]
    intro _ hmapped hfit hcurds
    have hplain : s.PlainAt x.addr := State.plainAt_of_unprotected hopen hmapped hcurds
    exact State.performStore_plain hu (fun i hi => hplain.of_same_block (by omega)) n.val h

theorem SameMemory.trans {s t u : State} (h1 : SameMemory s t) (h2 : SameMemory t u) : SameMemory s u := by
  obtain ⟨hcave, hvm, htsm⟩ := h1
  obtain ⟨hcave', hvm', htsm'⟩ := h2
  exact ⟨hcave'.trans hcave, hvm'.trans hvm, htsm'.trans htsm⟩

/-- What the record of an exception other than a collision holds: cause, slot, bundle and stamp, and the count. -/
theorem State.excRecord_spec (s : State) (n slot pc h : Nat) {cause : Nat} (hc : cause ≠ 5) :
    (∀ m, (s.excRecord n cause slot pc h).core m = s.core m)
    ∧ (s.excRecord n cause slot pc h).reg .CORE_EXC n = cause + 256 * slot
    ∧ (s.excRecord n cause slot pc h).reg .CORE_EXC_PC n = pc
    ∧ (s.excRecord n cause slot pc h).reg .CORE_EXC_STAMP n = s.stamp
    ∧ (s.excRecord n cause slot pc h).reg .CORE_CNT_EXC n = (s.reg .CORE_CNT_EXC n + 1) % 2 ^ 32
    ∧ RegsOnly s (s.excRecord n cause slot pc h) := by
  simp only [State.excRecord, if_neg hc]
  have hstamp : ((((s.setReg .CORE_EXC n (cause + 256 * slot)).setReg .CORE_EXC_PC n pc).setReg .CORE_EXC_HANDLE n h)).stamp = s.stamp := by
    simp [State.stamp, State.gridRun, State.beat, State.absBeat, State.grain]
  refine ⟨fun m => rfl, by simp, by simp, by simp, by simp, ?_⟩
  exact ((((RegsOnly.refl s).setReg _ _ _).setReg _ _ _).setReg _ _ _).setReg _ _ _ |>.bump _ _ _

/-- A store refused in a protected block is taken and recorded as WPROT with its bundle. -/
theorem cstRefused_spec {s : State} {n : Fin 256} {x : CaveStore} {r : List CaveStore} (hcsts : (s.core n.val).csts = x :: r)
    (hshut : s.blockProtected x.addr = true) :
    ∃ t, exec (.cstRefused n) s = .next t ∧ (t.core n.val).csts = r ∧ t.reg .CORE_EXC n.val = 0x09 ∧ t.reg .CORE_EXC_PC n.val = x.pc
      ∧ t.reg .CORE_EXC_STAMP n.val = s.stamp ∧ t.reg .CORE_CNT_EXC n.val = (s.reg .CORE_CNT_EXC n.val + 1) % 2 ^ 32 ∧ SameMemory s t
      ∧ (x.curd = (s.core n.val).curd → (t.core n.val).wprot = true) := by
  have hexec : ∃ h, exec (.cstRefused n) s
      = .next ((s.setCore n.val { s.core n.val with csts := r, wprot := (s.core n.val).wprot || x.curd == (s.core n.val).curd }).excRecord
        n.val 0x09 0 x.pc h) := by
    have harm : exec (.cstRefused n) s = execCstRefused n s := rfl
    simp only [harm, execCstRefused, hcsts, hshut, if_true]
    exact ⟨_, rfl⟩
  obtain ⟨h, hexec⟩ := hexec
  refine ⟨_, hexec, ?_⟩
  generalize hu : s.setCore n.val _ = u
  have hcore : u.core n.val
      = { s.core n.val with csts := r, wprot := (s.core n.val).wprot || x.curd == (s.core n.val).curd } := by
    rw [← hu, State.core_setCore_same]
  have hsame : u.stamp = s.stamp ∧ u.reg .CORE_CNT_EXC n.val = s.reg .CORE_CNT_EXC n.val ∧ SameMemory s u := by
    rw [← hu]
    exact ⟨rfl, rfl, rfl, rfl, rfl⟩
  obtain ⟨hstamp, hcount, hmem⟩ := hsame
  obtain ⟨hcores, hcause, hpc, hst, hcnt, hregs⟩ := u.excRecord_spec n.val 0 x.pc h (show 9 ≠ 5 by decide)
  refine ⟨?_, hcause, hpc, hst.trans hstamp, by rw [hcnt, hcount], hmem.trans hregs.sameMemory, fun hcurd => ?_⟩
  · rw [hcores, hcore]
  · simp [hcores, hcore, hcurd]

/-! ## Error records -/

/-- From `s` to `t` no core changed, and of the registers those of the error stores alone. -/
def ErrStoresOnly (s t : State) : Prop :=
  t.cores = s.cores ∧ ∀ q j, q ≠ .ECC_D_STORE → q ≠ .ECC_D_CNT_LOST → t.reg q j = s.reg q j

theorem ErrStoresOnly.trans {s t u : State} (h1 : ErrStoresOnly s t) (h2 : ErrStoresOnly t u) : ErrStoresOnly s u := by
  obtain ⟨hcores, hregs⟩ := h1
  obtain ⟨hcores', hregs'⟩ := h2
  exact ⟨hcores'.trans hcores, fun q j hs hl => (hregs' q j hs hl).trans (hregs q j hs hl)⟩

/-- A field of an error store is set. -/
theorem errStoresOnly_setFld (s : State) (f : Fld) (i v : Nat) (hf : f.reg = .ECC_D_STORE) : ErrStoresOnly s (s.setFld f i v) :=
  ⟨s.setFld_cores f i v, fun q j hs _ => by rw [State.reg_setFld, if_neg (fun h => hs (h.1.trans hf))]⟩

theorem errStoresOnly_errLost (s : State) (die : Nat) : ErrStoresOnly s (s.errLost die) := by
  have hbump : ErrStoresOnly s (s.bump .ECC_D_CNT_LOST die) :=
    ⟨s.bump_cores _ _ _, fun q j _ hl => by rw [State.reg_bump, if_neg (fun h => hl h.1)]⟩
  exact hbump.trans (errStoresOnly_setFld _ _ _ _ rfl)

/-- The records of a store are replaced and counted. -/
theorem errStoresOnly_put (s : State) (l : List (List ErrRec)) (die v : Nat) :
    ErrStoresOnly s (({ s with errs := l } : State).setFld Fld.ECC_D_STORE_USED die v) :=
  ErrStoresOnly.trans ⟨rfl, fun _ _ _ _ => rfl⟩ (errStoresOnly_setFld _ _ _ _ rfl)

theorem errStoresOnly_errStore (s : State) (die : Nat) (r : ErrRec) : ErrStoresOnly s (s.errStore die r) := by
  unfold State.errStore
  dsimp only
  split
  · exact errStoresOnly_put _ _ _ _
  · split
    · exact errStoresOnly_put _ _ _ _
    · split
      · exact (errStoresOnly_errLost s die).trans (errStoresOnly_put _ _ _ _)
      · exact errStoresOnly_errLost s die

theorem errStoresOnly_inHand (s : State) (l : List (Nat × Nat × Nat)) : ErrStoresOnly s { s with inHand := l } :=
  ⟨rfl, fun _ _ _ _ => rfl⟩

/-- Beside the die's store, an error that does not escalate raises its counter and nothing else. -/
theorem errStoresOnly_errRecord (s : State) {die status : Nat} (h : status = 0x62 → s.fld Fld.ECC_D_STORE_HANDLING die = 0)
    (mem word flags req synd handle : Nat) :
    ErrStoresOnly (s.bump (errCounter status) die) (s.errRecord die status mem word flags req synd handle) := by
  have hcalm : ((s.fld Fld.ECC_D_STORE_HANDLING die == 1 && status == 0x62) && !s.inHand.contains (die, mem, word)) = false := by
    by_cases hs : status = 0x62 <;> simp [hs, h]
  unfold State.errRecord
  simp only [hcalm, Bool.false_eq_true, if_false]
  have hstore := errStoresOnly_errStore (s.bump (errCounter status) die) die
  split
  · exact ((hstore _).trans (errStoresOnly_setFld _ Fld.ECC_D_STORE_HANDLING die 1 rfl)).trans (errStoresOnly_inHand _ _)
  · exact hstore _

/-! ## The CMU -/

/-- Aborting transfers touches no core and no register. -/
theorem State.abortTile_frame (s : State) (tile : Nat) (cu : Option Nat) :
    (s.abortTile tile cu).cores = s.cores ∧ (s.abortTile tile cu).regs = s.regs := by
  unfold State.abortTile
  refine List.foldlRecOn (motive := fun t : State => t.cores = s.cores ∧ t.regs = s.regs) _ _ ⟨rfl, rfl⟩ fun t ht k _ => ?_
  dsimp only
  split <;> exact ht

/-- A core that does not stop yet stops with the status. -/
theorem State.wait_coreHalt {s : State} {n : Nat} (h : ∀ k, (s.core n).wait ≠ .stop k) (st : Nat) :
    ((s.coreHalt n st).core n).wait = .stop st := by
  unfold State.coreHalt
  dsimp only
  split
  · exact absurd ‹_› (h _)
  · rw [State.core_congr (State.abortTile_frame _ _ _).1]
    simp

/-- A halt shows in CORE_STAT alone. -/
theorem State.reg_coreHalt (s : State) (n st : Nat) {q : RegId} (hq : q ≠ .CORE_STAT) (j : Nat) :
    (s.coreHalt n st).reg q j = s.reg q j := by
  unfold State.coreHalt
  dsimp only
  split
  · rfl
  · rw [State.reg_congr (State.abortTile_frame _ _ _).2]
    simp [hq]

@[simp] theorem State.wait_squash (s : State) (n k cyc : Nat) : ((s.squash n k cyc).core n).wait = (s.core n).wait := by
  simp [State.squash]

theorem State.reg_squash (s : State) (n k cyc : Nat) {q : RegId} (hq : q ≠ .CORE_STAT) (hs : q ≠ .CORE_CNT_SQUASH) (j : Nat) :
    (s.squash n k cyc).reg q j = s.reg q j := by
  simp only [State.squash, State.reg_bump, hs, false_and, if_false]
  exact State.reg_setCmu _ _ _ _ hq j

theorem State.wait_coreStop {s : State} {n : Nat} (h : ∀ k, (s.core n).wait ≠ .stop k) (st : Nat) :
    ((s.coreStop n st).core n).wait = .stop st := by
  unfold State.coreStop
  dsimp only
  split
  · exact State.wait_coreHalt (by simpa using h) st
  · exact State.wait_coreHalt h st

/-- A stop shows in CORE_STAT and the count of squashed operations alone. -/
theorem State.reg_coreStop (s : State) (n st : Nat) {q : RegId} (hq : q ≠ .CORE_STAT) (hs : q ≠ .CORE_CNT_SQUASH) (j : Nat) :
    (s.coreStop n st).reg q j = s.reg q j := by
  unfold State.coreStop
  dsimp only
  split
  · rw [State.reg_coreHalt _ _ _ hq, State.reg_used, State.reg_squash _ _ _ _ hq hs]
  · exact State.reg_coreHalt s n st hq j

/-- From `s` to `t`, a late error of core `n` with the bundle at `pc` is recorded and counted; it stops a core that neither stops nor
gives, and decides a GIVE that waits (R173). -/
def LateError (s t : State) (n pc : Nat) : Prop :=
  t.reg .CORE_LATE_PC n = pc ∧ t.reg .CORE_CNT_LATE n = (s.reg .CORE_CNT_LATE n + 1) % 2 ^ 32
  ∧ ((∀ k, (s.core n).wait ≠ .stop k) → (∀ k, (s.core n).wait ≠ .give k) → (t.core n).wait = .stop 0x12)
  ∧ ((∃ k, (s.core n).wait = .give k) → (t.core n).lateErr = true)

/-- What a late error does. -/
theorem State.lateError_cmuLate (s : State) (n kind pc : Nat) : LateError s (s.cmuLate n kind pc) n pc := by
  unfold State.cmuLate LateError
  dsimp only
  split
  · next st hw => simp [hw]
  · next st hw => simp [hw]
  · next hgive hstop =>
    refine ⟨?_, ?_, fun hns _ => State.wait_coreStop (by simpa using hns) _, fun ⟨k, hk⟩ => absurd hk (hgive k)⟩
    · rw [State.reg_coreStop _ _ _ (by decide) (by decide)]
      simp
    · rw [State.reg_coreStop _ _ _ (by decide) (by decide)]
      simp

/-- Registers that a late error leaves. -/
theorem State.reg_cmuLate (s : State) (n kind pc : Nat) {q : RegId}
    (hq : q ∉ [RegId.CORE_LATE, .CORE_LATE_PC, .CORE_CNT_LATE, .CORE_STAT, .CORE_CNT_SQUASH]) (j : Nat) :
    (s.cmuLate n kind pc).reg q j = s.reg q j := by
  simp only [List.mem_cons, List.not_mem_nil, or_false, not_or] at hq
  obtain ⟨hlate, hpc, hcnt, hstat, hsquash⟩ := hq
  unfold State.cmuLate
  dsimp only
  split
  · simp [hlate, hpc, hcnt]
  · simp [hlate, hpc, hcnt]
  · rw [State.reg_coreStop _ _ _ hstat hsquash]
    simp [hlate, hpc, hcnt]

/-- An operation's result written: the operation leaves the CMU, its lanes go to their register and its flags to CMUCSR. -/
def State.writeResult (s : State) (n : Nat) (o : CmuOp) : State :=
  let c := s.core n
  (s.setCmu n (c.cmu.erase o) c.longAt).setCore n { c with
    cmu := c.cmu.erase o
    v := if o.toV then modAt c.v o.dest o.over else c.v
    c := if o.toV then c.c else modAt c.c o.dest o.over
    cmucsr := c.cmucsr ||| (o.flags * 256) }

@[simp] theorem State.core_writeResult (s : State) (n : Nat) (o : CmuOp) :
    (s.writeResult n o).core n = { s.core n with
      cmu := (s.core n).cmu.erase o
      v := if o.toV then modAt (s.core n).v o.dest o.over else (s.core n).v
      c := if o.toV then (s.core n).c else modAt (s.core n).c o.dest o.over
      cmucsr := (s.core n).cmucsr ||| (o.flags * 256) } :=
  State.core_setCore_same _ _ _

theorem State.reg_writeResult (s : State) (n : Nat) (o : CmuOp) {q : RegId} (hq : q ≠ .CORE_STAT) (j : Nat) :
    (s.writeResult n o).reg q j = s.reg q j :=
  State.reg_setCmu s n _ _ hq j

theorem State.sameMemory_writeResult (s : State) (n : Nat) (o : CmuOp) : SameMemory s (s.writeResult n o) := ⟨rfl, rfl, rfl⟩

theorem errStoresOnly_used (s : State) : ErrStoresOnly s s.used := ⟨s.used_cores, fun q j _ _ => s.reg_used q j⟩

/-- A corrected error of the table ROM raises its die's counter; beside it only the die's store changes. -/
theorem errStoresOnly_romError_corrected (s : State) (n h : Nat) :
    ErrStoresOnly (s.bump .ECC_D_CNT_CE (coreDie n)) (s.romError n 1 h) := by
  rw [State.romError, if_pos rfl]
  exact ((errStoresOnly_errRecord s (status := 0x65) (fun h => absurd h (by decide)) 6 _ 0 n _ 0).trans (errStoresOnly_used _)).trans
    (errStoresOnly_used _)

/-- An uncorrectable error of the table ROM raises its die's counter, where none is in handling; beside it only the die's store
changes. -/
theorem errStoresOnly_romError_uncorrectable {s : State} {n : Nat} (hcalm : s.fld Fld.ECC_D_STORE_HANDLING (coreDie n) = 0) (h : Nat) :
    ErrStoresOnly (s.bump .ECC_D_CNT_UE (coreDie n)) (s.romError n 2 h) := by
  rw [State.romError, if_neg (by decide), if_pos rfl]
  exact ((errStoresOnly_errRecord s (status := 0x62) (fun _ => hcalm) 6 _ 0 n _ h).trans (errStoresOnly_used _)).trans
    (errStoresOnly_used _)

/-- The result written, and the error `rom` of the table ROM counted and recorded. -/
def State.resultWithRom (s : State) (n rom h : Nat) (o : CmuOp) : State :=
  (if rom = 1 then (s.writeResult n o).bump .CORE_CNT_ROMCE n else s.writeResult n o).romError n rom h

theorem State.resultWithRom_zero (s : State) (n h : Nat) (o : CmuOp) : s.resultWithRom n 0 h o = s.writeResult n o := rfl

/-! ## The end of a CMU operation -/

section
variable {s : State} {n : Fin 256} {o : CmuOp} (hnext : nextCmu (s.core n.val).cmu = some o)
include hnext

/-- A squashed operation drains. -/
theorem exec_cmuOpComplete_of_squashed (hsq : o.squashed = true) :
    exec (.cmuOpComplete n 0) s = .next (s.setCmu n.val ((s.core n.val).cmu.erase o) (s.core n.val).longAt) := by
  show execCmuOpComplete n 0 s = _
  simp only [execCmuOpComplete, hnext, hsq, if_true]
  rfl

variable (hsq : o.squashed = false)
include hsq

/-- Another operation writes its result, and the error of the table ROM, if any, is recorded; an uncorrectable one and a flag that
traps are late errors. -/
theorem exec_cmuOpComplete_of_live {rom : Fin 3} {r : Nat} (hr : rom.val = r) :
    ∃ h, exec (.cmuOpComplete n rom) s
      = .next (if r = 2 then (s.resultWithRom n.val r h o).cmuLate n.val 1 o.pc
        else if o.flags ≠ 0 ∧ bitAt (s.core n.val).cmucsr 0 = true then (s.resultWithRom n.val r h o).cmuLate n.val 2 o.pc
        else s.resultWithRom n.val r h o) := by
  subst hr
  have harm : exec (.cmuOpComplete n rom) s = execCmuOpComplete n rom s := rfl
  simp only [harm, execCmuOpComplete, hnext, hsq, Bool.false_eq_true, if_false, State.core_setCmu]
  exact ⟨_, rfl⟩

/-- Without a ROM error: the result, and a late error where a flag that traps is raised. -/
theorem exec_cmuOpComplete_of_clean :
    exec (.cmuOpComplete n 0) s = .next (if o.flags ≠ 0 ∧ bitAt (s.core n.val).cmucsr 0 = true
      then (s.writeResult n.val o).cmuLate n.val 2 o.pc else s.writeResult n.val o) := by
  obtain ⟨h, hexec⟩ := exec_cmuOpComplete_of_live hnext hsq (rom := 0) (r := 0) rfl
  rwa [if_neg (by decide : ¬0 = 2), State.resultWithRom_zero] at hexec

end

/-- A late error after changes that leave the core's wait and its count of late errors. -/
theorem LateError.of_congr {s u t : State} {n pc : Nat} (h : LateError u t n pc) (hwait : (u.core n).wait = (s.core n).wait)
    (hcount : u.reg .CORE_CNT_LATE n = s.reg .CORE_CNT_LATE n) : LateError s t n pc := by
  rwa [LateError, hwait, hcount] at h

/-- A flag that traps: the late error. -/
theorem lateError_of_trap {s : State} {n : Fin 256} {o : CmuOp} (hnext : nextCmu (s.core n.val).cmu = some o)
    (hsq : o.squashed = false) (hflags : o.flags ≠ 0) (htrap : bitAt (s.core n.val).cmucsr 0 = true) :
    ∃ t, exec (.cmuOpComplete n 0) s = .next t ∧ LateError s t n.val o.pc := by
  refine ⟨_, exec_cmuOpComplete_of_clean hnext hsq, ?_⟩
  rw [if_pos ⟨hflags, htrap⟩]
  refine (State.lateError_cmuLate (s.writeResult n.val o) n.val 2 o.pc).of_congr ?_ ?_
  · rw [State.core_writeResult]
  · exact s.reg_writeResult n.val o (by decide) _

/-- An uncorrectable error of the table ROM: the late error, and the count of the die. -/
theorem lateError_of_rom {s : State} {n : Fin 256} {o : CmuOp} (hnext : nextCmu (s.core n.val).cmu = some o)
    (hsq : o.squashed = false) (hcalm : s.fld Fld.ECC_D_STORE_HANDLING (coreDie n.val) = 0) :
    ∃ t, exec (.cmuOpComplete n 2) s = .next t ∧ LateError s t n.val o.pc
      ∧ t.reg .ECC_D_CNT_UE (coreDie n.val) = (s.reg .ECC_D_CNT_UE (coreDie n.val) + 1) % 2 ^ 32 := by
  obtain ⟨h, hexec⟩ := exec_cmuOpComplete_of_live hnext hsq (rom := 2) (r := 2) rfl
  rw [if_pos rfl, State.resultWithRom, if_neg (by decide)] at hexec
  have hreg : ∀ q, q ≠ .CORE_STAT → ∀ j, (s.writeResult n.val o).reg q j = s.reg q j := fun q hq j => s.reg_writeResult n.val o hq j
  have hcalm' : (s.writeResult n.val o).fld Fld.ECC_D_STORE_HANDLING (coreDie n.val) = 0 := by
    rw [State.fld, hreg _ (by decide)]
    exact hcalm
  obtain ⟨hcores, hregs⟩ := errStoresOnly_romError_uncorrectable hcalm' h
  refine ⟨_, hexec, (State.lateError_cmuLate _ n.val 1 o.pc).of_congr ?_ ?_, ?_⟩
  · rw [State.core_congr hcores, State.core_bump, State.core_writeResult]
  · rw [hregs _ _ (by decide) (by decide), State.reg_bump, if_neg (by simp), hreg _ (by decide)]
  · rw [State.reg_cmuLate _ _ _ _ (by decide), hregs _ _ (by decide) (by decide), State.reg_bump, if_pos ⟨rfl, rfl⟩, hreg _ (by decide)]

/-- A corrected error of the table ROM where no flag traps: it is counted, and the operation has left the CMU. -/
theorem cmuOpComplete_corrected_spec {s : State} {n : Fin 256} {o : CmuOp} (hnext : nextCmu (s.core n.val).cmu = some o)
    (hsq : o.squashed = false) (hquiet : ¬(o.flags ≠ 0 ∧ bitAt (s.core n.val).cmucsr 0 = true)) :
    ∃ t, exec (.cmuOpComplete n 1) s = .next t ∧ t.reg .CORE_CNT_ROMCE n.val = (s.reg .CORE_CNT_ROMCE n.val + 1) % 2 ^ 32
      ∧ (t.core n.val).cmu = (s.core n.val).cmu.erase o := by
  obtain ⟨h, hexec⟩ := exec_cmuOpComplete_of_live hnext hsq (rom := 1) (r := 1) rfl
  rw [if_neg (by decide), if_neg hquiet, State.resultWithRom, if_pos rfl] at hexec
  obtain ⟨hcores, hregs⟩ := errStoresOnly_romError_corrected ((s.writeResult n.val o).bump .CORE_CNT_ROMCE n.val) n.val h
  refine ⟨_, hexec, ?_, ?_⟩
  · rw [hregs _ _ (by decide) (by decide), State.reg_bump, if_neg (by simp), State.reg_bump, if_pos ⟨rfl, rfl⟩,
      s.reg_writeResult n.val o (by decide)]
  · rw [State.core_congr hcores, State.core_bump, State.core_bump, State.core_writeResult]

/-! ## Waits that do not end -/

theorem exec_giveEnd_of_not_give {s : State} {n : Fin 256} (h : ∀ st, (s.core n.val).wait ≠ .give st) :
    exec (.giveEnd n) s = .next s := by
  show execGiveEnd n s = _
  unfold execGiveEnd
  dsimp only
  split
  · exact absurd ‹_› (h _)
  · rfl

theorem exec_curdStopEnd_of_not_stop {s : State} {n : Fin 256} (h : ∀ st, (s.core n.val).wait ≠ .stop st) :
    exec (.curdStopEnd n) s = .next s := by
  show execCurdStopEnd n s = _
  unfold execCurdStopEnd
  dsimp only
  split
  · exact absurd ‹_› (h _)
  · rfl

theorem exec_fenceComplete_of_not_fence {s : State} {n : Fin 256} (h : ∀ k, (s.core n.val).wait ≠ .fence k) :
    exec (.fenceComplete n) s = .next s := by
  show execFenceComplete n s = _
  unfold execFenceComplete
  dsimp only
  split
  · exact absurd ‹_› (h _)
  · rfl

theorem exec_giveEnd_of_busy {s : State} {n : Fin 256} {st : Nat} (hwait : (s.core n.val).wait = .give st)
    (hbusy : s.coreQuiet n.val = false) : exec (.giveEnd n) s = .next s := by
  show execGiveEnd n s = _
  simp [execGiveEnd, hwait, hbusy]

theorem exec_curdStopEnd_of_busy {s : State} {n : Fin 256} {st : Nat} (hwait : (s.core n.val).wait = .stop st)
    (hbusy : ¬((s.core n.val).cmu = [] ∧ s.tileBusy (coreTile n.val) (s.core n.val).curd = false)) :
    exec (.curdStopEnd n) s = .next s := by
  have hcond : ¬((s.core n.val).cmu.isEmpty = true ∧ (!s.tileBusy (coreTile n.val) (s.core n.val).curd) = true) := by
    simpa using hbusy
  show execCurdStopEnd n s = _
  simp only [execCurdStopEnd, hwait, if_neg hcond]

theorem exec_fenceComplete_of_unmet {s : State} {n : Fin 256} {k : Nat} (hwait : (s.core n.val).wait = .fence k)
    (hunmet : s.fenceMet n.val k = false) : exec (.fenceComplete n) s = .next s := by
  show execFenceComplete n s = _
  simp [execFenceComplete, hwait, hunmet]

theorem exec_storePerformed_of_no_store {s : State} {n : Fin 256} (h : (s.core n.val).csts = []) :
    exec (.storePerformed n) s = .next s := by
  show execStorePerformed n s = _
  simp only [execStorePerformed, h]

theorem exec_cstRefused_of_no_store {s : State} {n : Fin 256} (h : (s.core n.val).csts = []) : exec (.cstRefused n) s = .next s := by
  show execCstRefused n s = _
  simp only [execCstRefused, h]

theorem exec_storePerformed_of_protected {s : State} {n : Fin 256} {x : CaveStore} {r : List CaveStore}
    (hcsts : (s.core n.val).csts = x :: r) (hshut : s.blockProtected x.addr = true) : exec (.storePerformed n) s = .next s := by
  show execStorePerformed n s = _
  simp only [execStorePerformed, hcsts, hshut, if_true]

theorem exec_cstRefused_of_open {s : State} {n : Fin 256} {x : CaveStore} {r : List CaveStore}
    (hcsts : (s.core n.val).csts = x :: r) (hopen : s.blockProtected x.addr = false) : exec (.cstRefused n) s = .next s := by
  show execCstRefused n s = _
  simp only [execCstRefused, hcsts, hopen, Bool.false_eq_true, if_false]

theorem exec_cmuOpComplete_of_idle {s : State} {n : Fin 256} (h : nextCmu (s.core n.val).cmu = none) (rom : Fin 3) :
    exec (.cmuOpComplete n rom) s = .next s := by
  show execCmuOpComplete n rom s = _
  simp only [execCmuOpComplete, h]

/-! ## The obligation -/

/-- What a fence that completes leaves. -/
theorem fenceComplete_spec {s : State} {n : Fin 256} {k : Nat} (hwait : (s.core n.val).wait = .fence k)
    (hmet : s.fenceMet n.val k = true) (h : Intact s) :
    ∃ t, exec (.fenceComplete n) s = .next t ∧ (t.core n.val).wait = .none
      ∧ (k = 3 ∨ k = 6 → (t.core n.val).lbuf = [] ∧ ∀ l a b q, (s.core n.val).lbuf = l ++ [(a, b)] → localKey n.val a = some (2, q) →
        Sparse.get 0 t.vm q = b) := by
  obtain ⟨vm, tsm, hflush⟩ := State.flushLocal_frame h n.val
  refine ⟨_, exec_fenceComplete_of_met hwait hmet, by simp, fun hlocal => ?_⟩
  simp only [if_pos hlocal]
  refine ⟨by simp [hflush], fun l a b q hbuf hkey => State.get_flushLocal_last h hbuf hkey⟩

/-- Settles O40: each wait's end is the rule of its command above, once storage is intact and the wait's condition holds. -/
theorem coreWaitsEnd : Obligations.CoreWaitsEnd := by
  unfold Obligations.CoreWaitsEnd
  refine ⟨fun s n => ?_, fun s n st hwait => ?_, fun s n st hwait => ?_, fun s n k hwait => ?_, fun s n x r hcsts => ?_,
    fun s n o hnext => ?_⟩
  · exact ⟨exec_giveEnd_of_not_give, exec_curdStopEnd_of_not_stop, exec_fenceComplete_of_not_fence,
      fun h => ⟨exec_storePerformed_of_no_store h, exec_cstRefused_of_no_store h⟩, exec_cmuOpComplete_of_idle⟩
  · exact ⟨fun hquiet h => ⟨_, exec_giveEnd_of_quiet hwait hquiet h, State.coreFinish_flushLocal_spec h n.val _ 2 (by decide)⟩,
      exec_giveEnd_of_busy hwait⟩
  · refine ⟨fun ⟨hcmu, hbusy⟩ h => ⟨_, exec_curdStopEnd_of_drained hwait hcmu hbusy, ?_⟩, exec_curdStopEnd_of_busy hwait⟩
    obtain ⟨hcurd, hfree, hstate, -, hend⟩ := State.coreFinish_flushLocal_spec h n.val st 1 (by decide)
    exact ⟨hcurd, hfree, hstate, hend⟩
  · exact ⟨fenceComplete_spec hwait, exec_fenceComplete_of_unmet hwait⟩
  · exact ⟨fun hopen => ⟨exec_cstRefused_of_open hcsts hopen, storePerformed_spec hcsts hopen⟩,
      fun hshut => ⟨exec_storePerformed_of_protected hcsts hshut, cstRefused_spec hcsts hshut⟩⟩
  · refine ⟨fun hsq => ⟨_, exec_cmuOpComplete_of_squashed hnext hsq, State.core_setCmu _ _ _ _⟩,
      fun hsq => ⟨fun hno => ?_, lateError_of_trap hnext hsq, lateError_of_rom hnext hsq⟩⟩
    have hquiet : ¬(o.flags ≠ 0 ∧ bitAt (s.core n.val).cmucsr 0 = true) := by
      rintro ⟨hflags, htrap⟩
      rcases hno with h | h
      · exact hflags h
      · rw [h] at htrap
        cases htrap
    refine ⟨⟨_, exec_cmuOpComplete_of_clean hnext hsq, ?_⟩, cmuOpComplete_corrected_spec hnext hsq hquiet⟩
    rw [if_neg hquiet]
    exact ⟨State.core_writeResult s n.val o, s.sameMemory_writeResult n.val o⟩

end Sys2Proof.Machine
end
